-- ==== Sys2Proof/Word.lean ====
section
/-!
DEFINITION. The plain words and numbers of the RK-48: bytes, tags, and the numbers of sections,
wands and walk contexts.
-/

namespace Sys2Proof

/-- A byte of the stack link or of the catalogue port (R172, R192). -/
abbrev Byte := BitVec 8

/-- The 64-bit serial number of a volume's or an end marker's label (R1). -/
abbrev Tag := BitVec 64

/-- A section number, 0 to 511 (R5). -/
abbrev SecId := Fin 512

/-- A wand number, 0 to 15 (R25). -/
abbrev Wand := Fin 16

/-- The index of a walk context, 0 to 15 (R48). -/
abbrev CtxId := Fin 16

/-- The index of a watch entry, 0 to 15 (R150). -/
abbrev WatchId := Fin 16

/-- The number of a lamp, 0 to 47 (R164). -/
abbrev LampId := Fin 48

/-- A set of the nine event kinds, one bit each in the places of R209. -/
abbrev KindSet := BitVec 9

/-- A vector given by its entries. -/
def tabulate {α : Type} (n : Nat) (f : Fin n → α) : Vector α n :=
  ⟨((List.finRange n).map f).toArray, by simp⟩

@[simp] theorem getElem_tabulate {α : Type} {n : Nat} (f : Fin n → α) (i : Nat) (h : i < n) :
    (tabulate n f)[i] = f ⟨i, h⟩ := by
  simp [tabulate]

end Sys2Proof
end

