-- ==== Sys2Proof/Syntax.lean ====
section
/-!
DEFINITION. The commands of the RK-48, one constructor of `Instr` for each row of
spec/opcode_table.json, with the operands that 11.3 gives a catalogue request and R210, R211 give a
wand frame.
-/

namespace Sys2Proof

/-- A frame as the receiver gathers it after the sync byte (R173, R210). The length byte is the
payload's length. -/
structure RawFrame where
  wand : Byte
  kind : Byte
  payload : List Byte
  crc : BitVec 16
  deriving DecidableEq, Repr

/-- One read of a SIGHT frame: a tag and a strength (R211). -/
structure TagRead where
  tag : Tag
  strength : Byte
  deriving DecidableEq, Repr

/-- Why a transfer on the catalogue port is ignored (R192, R198). -/
inductive IgnoredTransfer where
  /-- The direction byte is neither 01H nor 02H; `more` whole bytes follow it (R192). -/
  | badDirection (direction : Byte) (more : Nat)
  /-- SSEL was released before the direction byte was complete (R192). -/
  | cutShort
  /-- SSEL was asserted before the reset ended and stays asserted for `clocked` bytes (R198). -/
  | selectHeld (clocked : Nat)
  deriving DecidableEq, Repr

/-- The two causes of a device reset (R148). -/
inductive ResetCause where
  | pinAsserted
  | powerApplied
  deriving DecidableEq, Repr

/-- The commands. A number that a request or a frame carries in one, two or four bytes is a `Nat`;
`Instr.WellFormed` says that it fits them. -/
inductive Instr where
  -- the catalogue port (R192 to R196)
  /-- A write transfer; `packet` is what followed the direction byte 01H, in whole bytes (R212). -/
  | writeTransfer (packet : List Byte)
  /-- A read transfer of `clocked` whole bytes, the direction byte 02H among them (R195). -/
  | readTransfer (clocked : Nat)
  | ignoredTransfer (why : IgnoredTransfer)
  -- shelf-lists (R9 to R21)
  | revOpen (sec : Nat)
  | revInsert (sec ordinal : Nat) (tag : Tag) (circ : Byte)
  | revRetire (tag : Tag)
  | revAdopt (tag : Tag) (sec ordinal : Nat)
  | revClose (sec : Nat)
  | secUnload (sec : Nat)
  | itemDrop (tag : Tag)
  | itemRead (tag : Tag)
  -- sections and walks (R64 to R69)
  | secSet (sec tolerance lamp : Nat) (mark : Option Nat) (endMarker : Option Tag)
  | walkAbandon (sec : Nat)
  | walkRead (index : Nat)
  | claimqRead
  -- section results (R109 to R117)
  | attNext
  | attAck (sec : Nat)
  | secRead (sec : Nat)
  | secList (sec : Nat) (list : Byte) (start : Nat)
  | secReset (sec : Nat)
  -- circulation (R121 to R128)
  | circOut (tag : Tag)
  | circIn (tag : Tag)
  | itemClear (tag : Tag)
  -- the campaign (R139 to R147)
  | campStart
  | campPause
  | campResume
  | campClose
  | campRead
  -- the watch table (R157 to R161)
  | watchSet (index : Nat) (value mask : Tag) (cls : Nat) (oneShot : Bool)
  | watchClear (index : Nat)
  | watchRead (index : Nat)
  | watchNext
  | watchAck (index : Nat)
  -- lamps (R169)
  | lampForce (lamp : Nat) (pattern : Byte)
  -- wands, seen from the catalogue port (R190)
  | wandRead (wand : Nat)
  -- the event unit and the settings (R201 to R208)
  | evtClear (kinds : BitVec 16)
  | evtForce (kinds : BitVec 16)
  | evtEnable (kinds : BitVec 16)
  | evtRoute (kinds : BitVec 16)
  | evtRead
  | setWrite (key value : Nat)
  | setRead
  -- the receiver and the transmitter of the stack link (R172 to R177)
  | frameReceived (frame : RawFrame)
  | framingError
  | receiverGap
  | frameSent
  -- taken frames (R179 to R187)
  | badFrame (wand : Wand) (kind : Byte)
  | hello (wand : Wand)
  | sight (wand : Wand) (reads : List TagRead)
  | claim (wand : Wand) (sec : Nat)
  | walkendComplete (wand : Wand)
  | walkendBreak (wand : Wand)
  | whereIs (wand : Wand) (tag : Tag)
  | shelved (wand : Wand) (tag : Tag)
  | keep (wand : Wand)
  -- timers (R137, R138)
  | decayTick
  | leaseExpiry (ctx : CtxId)
  | revisionExpiry (sec : SecId)
  | campaignClockSecond
  | lampPhaseWrap
  -- reset (R148), and rows the table gives last
  | deviceReset (cause : ResetCause)
  | byteReceived (byte : Byte)
  | resetRelease
  | walkendOtherMode (wand : Wand) (mode : Byte)
  deriving DecidableEq, Repr

end Sys2Proof
end

