-- ==== Sys2Proof/Decode.lean ====
section
/-!
DEFINITION. The commands that a word spells by the bits of spec/opcode_table.json. The table gives
bits to none of its rows, so no word spells a command (notes/assumptions/11.md). The wire formats
that the manual does give are in Sys2Proof.Machine.Operands.
-/

namespace Sys2Proof

/-- The command spelt by the `nbits` bits of `w`: none, since no row of the table has bits. -/
def decodeTableWord (_nbits _w : Nat) : Option Instr := none

end Sys2Proof
end

