-- ==== Sys2Proof/Config.lean ====
section
/-!
DEFINITION. What is fixed for the part: the capacities and limits that the manual states, and the
two free values: a byte the manual leaves open, and how much of a frame leaves before a reset cuts it
off.
-/

namespace Sys2Proof.Config

/-- The capacity of the item table (R1). -/
def maxItems : Nat := 131072

/-- The greatest length of a section (R5). -/
def maxLength : Nat := 1024

/-- The capacity of a park queue (R93). -/
def maxPark : Nat := 32

/-- The capacity of the receive queue (R176). -/
def maxReceive : Nat := 8

/-- With so many frames in the send queue no frame is taken (R176). -/
def sendLimit : Nat := 32

/-- The greatest score of a candidate entry (R25). -/
def maxScore : Nat := 1023

/-- The greatest sight count (R4). -/
def maxSight : Nat := 15

/-- The greatest campaign clock (R137). -/
def maxClock : Nat := 4294967295

/-- The most entries one SEC_LIST returns (R114). -/
def listChunk : Nat := 32

/-- The most reads a SIGHT frame is processed with (R181). -/
def maxReads : Nat := 8

/-- The lamp phase begins again at 0 when it reaches this (ms, R166). -/
def lampPeriod : Nat := 2000

/-- A byte whose value the manual leaves open, the `i`-th that the part sends (DESIGN CHOICE,
notes/assumptions/9.md). It has no body, so nothing can be proved of its value. -/
opaque freeByte : Nat → Byte

/-- How many bytes of a frame being sent have left when a reset cuts it off (R191), before it is brought
below the frame's length (DESIGN CHOICE, notes/assumptions/18.md). It has no body. -/
opaque cutAfter : Nat → Nat

end Sys2Proof.Config
end

