-- ==== Sys2Proof/Machine/State.lean ====
section
/-!
DEFINITION. The state of the RK-48 as plain data: every record, table, queue, timer, setting and pin
the manual gives the part, the queue of commands that wait, and the state after a device reset.
Times are in milliseconds where a timer counts down and in seconds where the campaign clock is
recorded.
-/

namespace Sys2Proof.Machine

/-- Where a stop with a fault would come from. The part never stops (it refuses, discards or
ignores, R175, R178, R192, R197), so there is no constructor. -/
inductive Fault where
  deriving DecidableEq, Repr

/-- Why a command has no meaning. -/
inductive Refusal where
  /-- Raised by an arm of `exec` whose command has no meaning yet. Safe: the run stops. -/
  | notModelled (mnemonic : String)
  deriving DecidableEq, Repr

/-! ### Item records (R1, R2) -/

/-- Circulation (R120). -/
inductive Circulation where
  | shelf
  | loan
  deriving DecidableEq, Repr

/-- The count states (R1). The first nine are those of home items, UNLISTED that of provisional
records. -/
inductive CountState where
  | unseen
  | passed
  | held
  | inPlace
  | disordered
  | elsewhere
  | notFound
  | desk
  | missing
  | unlisted
  deriving DecidableEq, Repr

/-- The found group: found-in, found position, found time in seconds (R2, R3). -/
structure Found where
  sec : SecId
  pos : Nat
  time : Nat
  deriving DecidableEq, Repr

/-- An item record (R1). Its ordinal is its place in its home's expected sequence (R5). -/
structure Item where
  tag : Tag
  home : Option SecId
  circ : Option Circulation
  count : CountState
  found : Option Found
  prior : Option CountState
  sight : Nat
  moved : Bool
  conflict : Bool
  deriving DecidableEq, Repr

/-! ### Sections (1.2) -/

/-- The section states (R46). -/
inductive SecState where
  | empty
  | ready
  | walking
  | suspended
  | tallied
  deriving DecidableEq, Repr

/-- A section record. `revision` holds the revision timer's remaining time (ms) while the revision
flag is set (R8); the length n is that of `expected`, a list of tags in ordinal order (R5). -/
structure SectionRec where
  state : SecState
  revision : Option Nat
  expected : List Tag
  tolerance : Nat
  lamp : Option LampId
  mark : Option Nat
  endMarker : Option Tag
  chain : List Tag
  attention : Bool
  generation : BitVec 16
  walks : Nat
  context : Option CtxId
  deriving DecidableEq, Repr

/-- A section record as a device reset leaves it (R24). -/
def SectionRec.blank : SectionRec where
  state := .empty
  revision := none
  expected := []
  tolerance := 3
  lamp := none
  mark := none
  endMarker := none
  chain := []
  attention := false
  generation := 0
  walks := 0
  context := none

/-! ### Candidate tables (R25 to R27) -/

/-- A candidate entry, with the fields its state carries (R26). -/
inductive Entry where
  | free
  | gathering (tag : Tag) (score alloc : Nat)
  | confirmed (tag : Tag) (hold alloc conf : Nat)
  | waiting (tag : Tag) (alloc conf : Nat)
  deriving DecidableEq, Repr

/-- A wand's candidate table: 24 entries and the next allocation and confirmation sequence numbers
(R25, R27). -/
structure CandTable where
  entries : Vector Entry 24
  nextAlloc : Nat
  nextConf : Nat
  deriving DecidableEq, Repr

/-- A candidate table as a device reset leaves it (R45). -/
def CandTable.blank : CandTable where
  entries := Vector.replicate 24 .free
  nextAlloc := 0
  nextConf := 0

/-! ### Walk contexts (R48) -/

/-- A walk context in use. The prior state of a run entry is on its record (R74); `lease` is the
remaining time in ms, absent while no wand holds the walk (R57). -/
structure Context where
  sec : SecId
  walker : Option Wand
  cursor : Nat
  run : List Tag
  park : List Tag
  lease : Option Nat
  markHit : Bool
  deriving DecidableEq, Repr

/-- An entry of the claim queue (R49). -/
structure Waiter where
  wand : Wand
  sec : SecId
  deriving DecidableEq, Repr

/-! ### The watch table (R150) -/

/-- The last hit of a watch entry (R154). -/
structure LastHit where
  wand : Wand
  sec : Option SecId
  time : Nat
  deriving DecidableEq, Repr

/-- A watch entry: pattern and hit record (R150). -/
structure WatchEntry where
  valid : Bool
  value : Tag
  mask : Tag
  cls : Fin 4
  oneShot : Bool
  hits : Nat
  hitPending : Bool
  last : Option LastHit
  deriving DecidableEq, Repr

/-- A watch entry as a device reset leaves it (R163). -/
def WatchEntry.blank : WatchEntry where
  valid := false
  value := 0
  mask := 0
  cls := 0
  oneShot := false
  hits := 0
  hitPending := false
  last := none

/-! ### Campaign, lamps, events, settings -/

/-- The campaign states (R136). -/
inductive CampState where
  | stopped
  | running
  | paused
  | closed
  deriving DecidableEq, Repr

/-- The lamp patterns (R165, R167). -/
inductive Pattern where
  | off
  | on
  | blinkEven
  | blinkLong
  | flicker
  deriving DecidableEq, Repr

/-- The nine event kinds (R199). -/
inductive EventKind where
  | watchHit
  | attention
  | walkDone
  | markReached
  | adoptDue
  | leaseExpired
  | revisionExpired
  | tableFull
  | filterSaturated
  deriving DecidableEq, Repr

/-- The event unit: for each kind a raw bit, an enable bit and a route, set for URGENT (11.4). -/
structure EventUnit where
  raw : KindSet
  enable : KindSet
  urgent : KindSet
  deriving DecidableEq, Repr

/-- The nine settings, in key order (R207). -/
structure Settings where
  readFloor : Nat
  confirmThreshold : Nat
  decayTick : Nat
  holdTicks : Nat
  leaseInterval : Nat
  revisionLimit : Nat
  defaultTolerance : Nat
  resyncLength : Nat
  adoptThreshold : Nat
  deriving DecidableEq, Repr

/-- The settings as a device reset leaves them (R207). -/
def Settings.atReset : Settings where
  readFloor := 40
  confirmThreshold := 300
  decayTick := 32
  holdTicks := 8
  leaseInterval := 120
  revisionLimit := 10
  defaultTolerance := 3
  resyncLength := 3
  adoptThreshold := 64

/-! ### What the part sends -/

/-- The verdicts of an outcome (R182). -/
inductive Verdict where
  | inPlace
  | pending
  | resync
  | disordered
  | foreign
  | unlisted
  | repeated
  | parked
  | deferred
  | marker
  | roaming
  | tableFull
  deriving DecidableEq, Repr

/-- An outcome of a SIGHT answer: tag, verdict, the flags WATCH, LOAN, MARK and BROKEN, and the
section field (R182). -/
structure Sighting where
  tag : Tag
  verdict : Verdict
  watch : Bool
  loan : Bool
  mark : Bool
  broken : Bool
  sec : Option SecId
  deriving DecidableEq, Repr

/-- A wand's standing (R180, R187). -/
inductive Standing where
  | none
  | walking
  | waiting
  deriving DecidableEq, Repr

/-- A field of a response or of an answer, in the encodings of R209. `time` is a campaign time that
may be absent where the manual gives no absent value, `foundTime` one whose absent value R213
gives. -/
inductive Field where
  | num8 (n : Nat)
  | num8Opt (n : Option Nat)
  | num16 (n : Nat)
  | num16Opt (n : Option Nat)
  | num32 (n : Nat)
  | foundTime (t : Option Nat)
  | time (t : Option Nat)
  | tag (t : Tag)
  | tagOpt (t : Option Tag)
  | flag (b : Bool)
  | generation (g : BitVec 16)
  | kinds (k : KindSet)
  | count (c : CountState)
  | countOpt (c : Option CountState)
  | circOpt (c : Option Circulation)
  | secState (s : SecState)
  | campState (c : CampState)
  | patternOpt (p : Option Pattern)
  | standing (s : Standing)
  | sighting (o : Sighting)
  deriving DecidableEq, Repr

/-- The status codes of the catalogue port (R197). -/
inductive Status where
  | done
  | clamped
  | badRequest
  | noSection
  | noItem
  | noHome
  | duplicateTag
  | sectionFull
  | tableFull
  | notRevising
  | revising
  | busy
  | wrongState
  | notUnlisted
  deriving DecidableEq, Repr

/-- A response: the request code echoed, the status and the results (R195, R212). -/
structure Response where
  code : Byte
  status : Status
  results : List Field
  deriving DecidableEq, Repr

/-- What the port has in hand while WORKING: a request, or a packet that the envelope check refuses, of
which only the request code is echoed (R193, R194). -/
inductive InHand where
  | request (r : Instr)
  | malformed (code : Byte)
  deriving DecidableEq, Repr

/-- The state of the catalogue port (R193). WORKING keeps what it has in hand and the lost flag, HOLDING
the response and the lost flag it will be marked with (R195, R196). -/
inductive Port where
  | idle
  | working (inHand : InHand) (lost : Bool)
  | holding (response : Response) (lost : Bool)
  deriving DecidableEq, Repr

/-- What the part does with SDO: drive it through a byte, or leave it in its high-impedance state (R192,
R198). -/
inductive SdoLevel where
  | driven (b : Byte)
  | highImpedance
  deriving DecidableEq, Repr

/-- The frame codes of an ANSWER (R178). -/
inductive FrameCode where
  | ok
  | granted
  | queued
  | paused
  | badFrame
  | notRunning
  | holding
  | noSection
  | noContext
  | notWalking
  | revising
  | noItem
  | noHome
  | heldItem
  deriving DecidableEq, Repr

/-- A frame of the part, for the wand it is sent to (R177, R178, R188). -/
inductive PartFrame where
  | answer (wand : Wand) (kind : Byte) (code : FrameCode) (fields : List Field)
  | grant (wand : Wand) (sec : SecId) (resumed : Bool) (ctx : CtxId)
  | suspended (wand : Wand) (sec : SecId)
  | drop (wand : Wand) (sec : SecId) (closed : Bool)
  deriving DecidableEq, Repr

/-- What the part does with LTX: hold it at the idle level, high, or send a frame on it (R172, R177,
R191). -/
inductive LtxLevel where
  | idleHigh
  | sending (frame : PartFrame)
  deriving DecidableEq, Repr

/-- A frame that has left on LTX: sent whole (R177), or cut off by a reset after some of its bytes
(R191). -/
inductive LtxFrame where
  | whole (bytes : List Byte)
  | cutOff (bytes : List Byte)
  deriving DecidableEq, Repr

/-- The receiver (R173): hunting, or gathering a frame with the bytes after the sync byte so far and
the time since the previous byte (ms). -/
inductive Receiver where
  | hunt
  | gather (bytes : List Byte) (gap : Nat)
  deriving DecidableEq, Repr

/-! ### The state -/

/-- The state of the part. -/
structure State where
  -- item table, section table (chapter 1)
  items : List Item
  sections : Vector SectionRec 512
  -- confirmation unit (chapter 2)
  tables : Vector CandTable 16
  decayLeft : Nat
  -- claim arbiter and walk engine (chapters 3, 4)
  claims : List Waiter
  contexts : Vector (Option Context) 16
  -- watch table (chapter 8)
  watch : Vector WatchEntry 16
  -- campaign controller (chapter 7)
  campaign : CampState
  clock : Nat
  clockPart : Nat
  -- lamp driver (chapter 9)
  forces : Vector (Option Pattern) 48
  lampPhase : Nat
  -- link interface (chapter 10)
  receiver : Receiver
  gathered : List RawFrame
  rxQueue : List Instr
  sendQueue : List PartFrame
  lastFrame : Vector (Option Nat) 16
  ltxSent : Option LtxFrame
  -- catalogue port, event unit, settings (chapter 11)
  port : Port
  sdoTrace : List SdoLevel
  events : EventUnit
  settings : Settings
  -- the RESET pin, the count of free values drawn, the commands that wait
  resetAsserted : Bool
  freeIndex : Nat
  pending : List Instr
  deriving DecidableEq, Repr

/-- The state after a device reset, RESET released (R24, R45, R70, R101, R119, R135, R149, R163,
R171, R191, R198, R206, R207; the model's own fields: notes/assumptions/7.md, 9.md, 16.md, 17.md,
18.md). -/
def State.reset : State where
  items := []
  sections := Vector.replicate 512 SectionRec.blank
  tables := Vector.replicate 16 CandTable.blank
  decayLeft := 32
  claims := []
  contexts := Vector.replicate 16 none
  watch := Vector.replicate 16 WatchEntry.blank
  campaign := .stopped
  clock := 0
  clockPart := 0
  forces := Vector.replicate 48 none
  lampPhase := 0
  receiver := .hunt
  gathered := []
  rxQueue := []
  sendQueue := []
  lastFrame := Vector.replicate 16 none
  ltxSent := none
  port := .idle
  sdoTrace := [.highImpedance]
  events := { raw := 0, enable := 0, urgent := 0b111100000 }
  settings := Settings.atReset
  resetAsserted := false
  freeIndex := 0
  pending := []

end Sys2Proof.Machine
end

