-- ==== Sys2Proof/Machine/Ops.lean ====
section
/-!
DEFINITION. The named operations over the state that the meanings share: reading and writing a
record, a section, a context, a candidate table; moving a tag between lists; bumping generations;
and the two ways a command reaches its owner, a request carried out through the catalogue port and a
frame taken from the receive queue.
-/

namespace Sys2Proof.Machine

/-! ### Section numbers and sections -/

/-- The section a number names, if it is 0 to 511 (R5). -/
def secOf (S : Nat) : Option SecId := if h : S < 512 then some ⟨S, h⟩ else none

/-- The number below 16 (a context index, a watch index, a wand) that a number names. -/
def idOf (x : Nat) : Option (Fin 16) := if h : x < 16 then some ⟨x, h⟩ else none

/-- The lamp a number names, if it is 0 to 47 (R164). -/
def lampOf (m : Nat) : Option LampId := if h : m < 48 then some ⟨m, h⟩ else none

/-- The record of a section. -/
def State.sec (s : State) (S : SecId) : SectionRec := s.sections[S]

def State.setSec (s : State) (S : SecId) (x : SectionRec) : State :=
  { s with sections := s.sections.set S x }

def State.modSec (s : State) (S : SecId) (f : SectionRec → SectionRec) : State :=
  s.setSec S (f (s.sec S))

/-- Change every section by a function of its number and its record. -/
def State.mapSecs (s : State) (f : SecId → SectionRec → SectionRec) : State :=
  { s with sections := tabulate 512 fun S => f S (s.sec S) }

/-- The first section that a test holds of, in ascending order. -/
def State.findSec (s : State) (p : SectionRec → Bool) : Option SecId :=
  (List.finRange 512).find? fun S => p (s.sec S)

/-- The number of sections that a test holds of. -/
def State.countSecs (s : State) (p : SectionRec → Bool) : Nat :=
  (List.finRange 512).countP fun S => p (s.sec S)

/-- A bump of a section's generation: one more, and 0 after 65535 (R111). -/
def State.bump (s : State) (S : SecId) : State :=
  s.modSec S fun x => { x with generation := x.generation + 1 }

/-- Bump once each section that a test holds of (R112). -/
def State.bumpWhere (s : State) (p : SecId → Bool) : State :=
  s.mapSecs fun S x => if p S then { x with generation := x.generation + 1 } else x

/-- A section enters a state, and its generation is bumped for it (R46). -/
def State.enter (s : State) (S : SecId) (st : SecState) : State :=
  s.modSec S fun x => { x with state := st, generation := x.generation + 1 }

/-! ### Item records (R1) -/

/-- The record that carries a tag (R1). -/
def State.item? (s : State) (t : Tag) : Option Item := s.items.find? fun r => r.tag = t

/-- Insert a record into a list that rises by tag. -/
def insertItem (r : Item) : List Item → List Item
  | [] => [r]
  | q :: rest => if r.tag.toNat < q.tag.toNat then r :: q :: rest else q :: insertItem r rest

/-- A record joins the item table (R1). -/
def State.addItem (s : State) (r : Item) : State := { s with items := insertItem r s.items }

/-- The records that a test holds of leave the item table (R1). -/
def State.dropItems (s : State) (p : Item → Bool) : State :=
  { s with items := s.items.filter fun r => !p r }

/-- Change the records that a test holds of. -/
def State.modItems (s : State) (p : Item → Bool) (f : Item → Item) : State :=
  { s with items := s.items.map fun r => if p r then f r else r }

/-- Change the record that carries a tag. -/
def State.modItem (s : State) (t : Tag) (f : Item → Item) : State :=
  s.modItems (fun r => r.tag = t) f

/-- A record is a home item of a section (R5). -/
def Item.isHomeOf (r : Item) (S : SecId) : Bool := r.home = some S

/-- The tag belongs to a home item of a section. -/
def State.homeTag (s : State) (S : SecId) (t : Tag) : Bool :=
  (s.item? t).any fun r => r.isHomeOf S

/-- One more sighting, saturating at 15 (R4). -/
def Item.sighted (r : Item) : Item := { r with sight := min Config.maxSight (r.sight + 1) }

/-- An item returned to UNSEEN: no found fields and no prior state; sight count and flags kept
(R19, R116, R117). -/
def Item.unseen (r : Item) : Item := { r with count := .unseen, found := none, prior := none }

/-- The record's section of finding. -/
def Item.foundIn (r : Item) : Option SecId := r.found.map fun f => f.sec

/-- A section's count for a count state: its home items in that state, wherever found (R105). -/
def State.tally (s : State) (S : SecId) (c : CountState) : Nat :=
  s.items.countP fun r => r.isHomeOf S && r.count = c

/-- The unlisted count (R7). -/
def State.unlisted (s : State) : Nat := s.items.countP fun r => r.count = .unlisted

/-- A section's length n (R5). -/
def State.length (s : State) (S : SecId) : Nat := (s.sec S).expected.length

/-- The ordinal at which a tag stands in a section's expected sequence (R5). -/
def State.ordinal (s : State) (S : SecId) (t : Tag) : Nat := (s.sec S).expected.idxOf t

/-- The tags of a section's expected sequence at ordinals `lo` to `hi - 1`. -/
def State.span (s : State) (S : SecId) (lo hi : Nat) : List Tag :=
  ((s.sec S).expected.drop lo).take (hi - lo)

/-! ### Foreign chains (R106) -/

def State.joinChain (s : State) (S : SecId) (t : Tag) : State :=
  s.modSec S fun x => { x with chain := x.chain ++ [t] }

def State.leaveChain (s : State) (S : SecId) (t : Tag) : State :=
  s.modSec S fun x => { x with chain := x.chain.filter fun u => u ≠ t }

/-- A tag leaves the chain of the section it was found in, if there is one. -/
def State.leaveChainOf (s : State) (F : Option SecId) (t : Tag) : State :=
  match F with
  | some S => s.leaveChain S t
  | none => s

/-! ### Walk contexts and the claim queue (R47 to R49) -/

def State.ctx (s : State) (x : CtxId) : Option Context := s.contexts[x]

def State.setCtx (s : State) (x : CtxId) (c : Option Context) : State :=
  { s with contexts := s.contexts.set x c }

def State.modCtx (s : State) (x : CtxId) (f : Context → Context) : State :=
  s.setCtx x ((s.ctx x).map f)

/-- The free context of lowest index (R48). -/
def State.freeCtx (s : State) : Option CtxId :=
  (List.finRange 16).find? fun x => (s.ctx x).isNone

/-- The number of contexts in use (R47). -/
def State.ctxInUse (s : State) : Nat := (List.finRange 16).countP fun x => (s.ctx x).isSome

/-- The wand walks in this context. -/
def Context.walkedBy (c : Context) (w : Wand) : Bool := c.walker = some w

/-- The context in which a wand walks, if it is a walker (R36, R47). -/
def State.walkOf (s : State) (w : Wand) : Option CtxId :=
  (List.finRange 16).find? fun x => (s.ctx x).any fun c => c.walkedBy w

/-- The section a wand walks, if it is a walker. -/
def State.walkedSec (s : State) (w : Wand) : Option SecId :=
  ((s.walkOf w).bind s.ctx).map fun c => c.sec

/-- The section a wand waits for, if it stands in the claim queue (R49). -/
def State.waitsFor (s : State) (w : Wand) : Option SecId :=
  (s.claims.find? fun q => q.wand = w).map fun q => q.sec

/-- A waiter's place: its 1-based position among all entries (R49). -/
def State.place (s : State) (w : Wand) : Nat := s.claims.findIdx (fun q => q.wand = w) + 1

/-- A wand's entry leaves the claim queue; the others keep their order (R49). -/
def State.unclaim (s : State) (w : Wand) : State :=
  { s with claims := s.claims.filter fun q => q.wand ≠ w }

/-- The lease interval in ms (R57). -/
def State.fullLease (s : State) : Nat := s.settings.leaseInterval * 1000

/-- The revision limit in ms (R8). -/
def State.fullRevision (s : State) : Nat := s.settings.revisionLimit * 1000

/-- Load the lease of the walk whose walker a wand is (R57). -/
def State.loadLeaseOf (s : State) (w : Wand) : State :=
  match s.walkOf w with
  | some x => s.modCtx x fun c => { c with lease := some s.fullLease }
  | none => s

/-! ### Candidate tables (R25) -/

def State.table (s : State) (w : Wand) : CandTable := s.tables[w]

def State.setTable (s : State) (w : Wand) (t : CandTable) : State :=
  { s with tables := s.tables.set w t }

/-- An entry is WAITING. -/
def Entry.isWaiting : Entry → Bool
  | .waiting _ _ _ => true
  | _ => false

/-- An entry is CONFIRMED. -/
def Entry.isConfirmed : Entry → Bool
  | .confirmed _ _ _ _ => true
  | _ => false

/-- An entry is GATHERING. -/
def Entry.isGathering : Entry → Bool
  | .gathering _ _ _ => true
  | _ => false

/-- The tag an entry holds (R26). -/
def Entry.tag? : Entry → Option Tag
  | .free => none
  | .gathering t _ _ => some t
  | .confirmed t _ _ _ => some t
  | .waiting t _ _ => some t

/-- A WAITING entry made CONFIRMED with its hold set (R40, R41). -/
def Entry.release (hold : Nat) : Entry → Entry
  | .waiting t a c => .confirmed t hold a c
  | e => e

/-- Release every WAITING entry of a wand without applying it (R41). -/
def State.releaseWaiting (s : State) (w : Wand) : State :=
  let t := s.table w
  s.setTable w { t with entries := tabulate 24 fun i => t.entries[i].release s.settings.holdTicks }

/-- The number of a table's entries that a test holds of (R27). -/
def CandTable.occupancy (t : CandTable) (p : Entry → Bool) : Nat := t.entries.toList.countP p

/-! ### Sending (R177) -/

/-- A frame made ready joins the tail of the send queue (R177). -/
def State.makeReady (s : State) (f : PartFrame) : State :=
  { s with sendQueue := s.sendQueue ++ [f] }

/-! ### Requests (R193, R195, R196) -/

/-- What carrying out a request gives: the state, the status and the results (R197). -/
structure Reply where
  state : State
  status : Status
  results : List Field

/-- A refused request changes no state and carries no results (R194). -/
def State.refuse (s : State) (st : Status) : Reply := ⟨s, st, []⟩

/-- A request carried out. -/
def State.done (s : State) (results : List Field) : Reply := ⟨s, .done, results⟩

/-- A request carried out, with CLAMPED where a value given was brought within range (R197). -/
def State.doneClamped (s : State) (clamped : Bool) (results : List Field) : Reply :=
  ⟨s, if clamped then .clamped else .done, results⟩

/-- Hold the response of a request whose processing has ended (R193). -/
def Reply.hold (r : Reply) (code : Byte) (lost : Bool) : State :=
  { r.state with port := .holding ⟨code, r.status, r.results⟩ lost }

/-- A catalogue request reaches its owner. In WORKING it is the request taken by its write transfer,
and its response keeps the lost flag; any other request written meanwhile is refused (R196). In IDLE
and HOLDING the request is taken first, a held response discarded, and carried out (R193)
(notes/assumptions/2.md). While RESET is asserted the port ignores its pins (R198). -/
def carryOut (request : Instr) (code : Byte) (body : State → Reply) (s : State) : State :=
  if s.resetAsserted then s
  else
    match s.port with
    | .working inHand lost =>
      if inHand = .request request then (body s).hold code lost
      else { s with port := .working inHand true }
    | .idle => (body s).hold code false
    | .holding _ _ => (body s).hold code false

/-! ### Frames (R176 to R179) -/

/-- What processing a taken frame gives: the state, the frame code and the answer's fields. -/
structure Answer where
  state : State
  code : FrameCode
  fields : List Field

/-- An answer that changes nothing beyond the taking (R178). -/
def State.reply (s : State) (code : FrameCode) (fields : List Field) : Answer := ⟨s, code, fields⟩

/-- What the taking itself does: the last-frame time is written and the walker's lease loaded
(R57, R176, R189). -/
def State.frameTaken (s : State) (w : Wand) : State :=
  ({ s with lastFrame := s.lastFrame.set w (some s.clock) }).loadLeaseOf w

/-- The ANSWER goes ahead of every notice its event makes ready (R176, R177). -/
def answering (w : Wand) (kind : Byte) (body : State → Answer) (s : State) : State :=
  let a := body { s with sendQueue := [] }
  { a.state with
    sendQueue := s.sendQueue ++ .answer w kind a.code a.fields :: a.state.sendQueue }

/-- A frame of a kind that is not processed while the campaign is PAUSED (R179). -/
def unlessPaused (body : State → Answer) (s : State) : Answer :=
  if s.campaign = .paused then s.reply .paused [] else body s

/-- The receive queue with a frame in it: a frame that has not come through the receiver joins the
tail as one that has passed the checks, and is discarded if the queue is full (R176;
notes/assumptions/3.md). -/
def State.queuedFrame (s : State) (frame : Instr) : List Instr :=
  if frame ∈ s.rxQueue then s.rxQueue
  else if s.rxQueue.length < Config.maxReceive then s.rxQueue ++ [frame]
  else s.rxQueue

/-- The link interface takes a frame: the one at the head of the receive queue, while fewer than 32
frames wait to be sent (R176). A frame that may not be taken waits. While RESET is asserted LRX is
ignored (R191). -/
def takeFrame (frame : Instr) (w : Wand) (kind : Byte) (body : State → Answer) (s : State) : State :=
  if s.resetAsserted then s
  else
    match s.queuedFrame frame with
    | [] => s
    | head :: rest =>
      if head = frame ∧ s.sendQueue.length < Config.sendLimit then
        answering w kind body (({ s with rxQueue := rest }).frameTaken w)
      else { s with rxQueue := head :: rest }

/-- An event of the part's own: nothing happens while RESET is asserted (notes/assumptions/8.md). -/
def unlessReset (body : State → State) (s : State) : State :=
  if s.resetAsserted then s else body s

end Sys2Proof.Machine
end

