-- ==== Sys2Proof/Machine/Flags.lean ====
section
/-!
DEFINITION. Flags and lines: the raw bits of the event unit, the lines ATTN and URGENT (11.4), the pins
SDO and LTX, the attention flag (5.4), what the lamps show (chapter 9), and the timers at their end (7.3).
-/

namespace Sys2Proof.Machine

/-! ### Event kinds (R199, R200, R209) -/

/-- The bit of an event kind in a set of kinds (R209). -/
def EventKind.bit : EventKind → Nat
  | .watchHit => 0
  | .attention => 1
  | .walkDone => 2
  | .markReached => 3
  | .adoptDue => 4
  | .leaseExpired => 5
  | .revisionExpired => 6
  | .tableFull => 7
  | .filterSaturated => 8

/-- The set that holds one kind. -/
def EventKind.set (k : EventKind) : KindSet := 1 <<< k.bit

/-- A cause sets the raw bit of its kind, enabled or not (R199). -/
def State.raise (s : State) (k : EventKind) : State :=
  { s with events := { s.events with raw := s.events.raw ||| k.set } }

/-- The kinds both raw-set and enabled (11.4). -/
def EventUnit.masked (e : EventUnit) : KindSet := e.raw &&& e.enable

/-- The URGENT line is asserted: some masked-set kind is routed to it (R200). -/
def EventUnit.urgentLine (e : EventUnit) : Bool := e.masked &&& e.urgent ≠ 0

/-- The ATTN line is asserted: some masked-set kind is routed to it (R200). -/
def EventUnit.attnLine (e : EventUnit) : Bool := e.masked &&& ~~~e.urgent ≠ 0

/-- The ATTN pin: released while RESET is asserted (R200). -/
def State.attnAsserted (s : State) : Bool := !s.resetAsserted && s.events.attnLine

/-- The URGENT pin: released while RESET is asserted (R200). -/
def State.urgentAsserted (s : State) : Bool := !s.resetAsserted && s.events.urgentLine

/-- The SDO pin: high impedance while RESET is asserted, and otherwise as the last transfer left it, which
is high impedance from SSEL's release on (R192, R198). -/
def State.sdoPin (s : State) : SdoLevel :=
  if s.resetAsserted then .highImpedance else s.sdoTrace.getLastD .highImpedance

/-- The LTX pin: at the idle level while RESET is asserted, and otherwise sending the frame at the head of
the send queue, idle high when there is none (R172, R177, R191). -/
def State.ltxPin (s : State) : LtxLevel :=
  if s.resetAsserted then .idleHigh
  else
    match s.sendQueue with
    | [] => .idleHigh
    | f :: _ => .sending f

/-- A set of kinds as a request carries it: sixteen bits, of which 9 to 15 name no kind (R209). -/
def kindsOf (k : BitVec 16) : Option KindSet :=
  if k.toNat < 512 then some (k.setWidth 9) else none

/-! ### Attention (R107, R108) -/

/-- A cause sets a section's attention, and ATTENTION is raised if it was clear (R107, R108). -/
def State.attend (s : State) (S : SecId) : State :=
  if (s.sec S).attention then s
  else (s.modSec S fun x => { x with attention := true }).raise .attention

/-- One event sets the attention of every section that a test holds of (R108). -/
def State.attendWhere (s : State) (p : SecId → Bool) : State :=
  let t := s.mapSecs fun S x => if p S then { x with attention := true } else x
  if (List.finRange 512).any fun S => p S && !(s.sec S).attention then t.raise .attention else t

/-! ### Lamps (chapter 9) -/

/-- The rank of a pattern: FLICKER above BLINK_LONG, BLINK_LONG above BLINK_EVEN, BLINK_EVEN above
ON, ON above OFF (R168). -/
def Pattern.rank : Pattern → Nat
  | .off => 0
  | .on => 1
  | .blinkEven => 2
  | .blinkLong => 3
  | .flicker => 4

/-- The higher ranked of two patterns. -/
def Pattern.over (p q : Pattern) : Pattern := if p.rank < q.rank then q else p

/-- The display status of a section (R165). -/
def SectionRec.displayStatus (x : SectionRec) : Pattern :=
  if x.attention then .flicker
  else
    match x.state with
    | .suspended => .blinkLong
    | .walking => .blinkEven
    | .tallied => .on
    | .ready => .off
    | .empty => .off

/-- The display status of a section of the state. -/
def State.displayStatus (s : State) (S : SecId) : Pattern := (s.sec S).displayStatus

/-- The sections that stand on a lamp (R164). -/
def State.onLamp (s : State) (m : LampId) : List SecId :=
  (List.finRange 512).filter fun S => (s.sec S).lamp = some m

/-- A lamp's derived pattern: the highest-ranked display status on it, OFF if no section stands on
it (R168). -/
def State.derivedPattern (s : State) (m : LampId) : Pattern :=
  ((s.onLamp m).map s.displayStatus).foldl Pattern.over .off

/-- The pattern a lamp shows: its force, if it has one, and its derived pattern otherwise (R168). -/
def State.shownPattern (s : State) (m : LampId) : Pattern :=
  (s.forces[m]).getD (s.derivedPattern m)

/-- Whether a pattern is lit at a phase (ms): each interval includes its start and excludes its end
(R167). -/
def Pattern.litAt (p : Pattern) (phase : Nat) : Bool :=
  match p with
  | .off => false
  | .on => true
  | .blinkEven => phase % 1000 < 500
  | .blinkLong => phase % 2000 < 1500
  | .flicker => phase % 250 < 125

/-- A lamp line sinks current: the lamp is lit; dark while RESET is asserted (R167, R171). -/
def State.lampLit (s : State) (m : LampId) : Bool :=
  !s.resetAsserted && (s.shownPattern m).litAt s.lampPhase

/-! ### Timers at their end (7.3, R138) -/

/-- More than 1 ms has passed since the previous byte of the frame being gathered (R173). -/
def State.gapOver (s : State) : Bool :=
  match s.receiver with
  | .hunt => false
  | .gather _ gap => 1 < gap

/-- The lamp phase has reached its period; it runs in every campaign state (R166). -/
def State.phaseOver (s : State) : Bool := Config.lampPeriod ≤ s.lampPhase

/-- No time remains on the decay tick, which runs unless PAUSED (R33, R138). -/
def State.decayOver (s : State) : Bool := s.campaign ≠ .paused && s.decayLeft = 0

/-- A whole second of the campaign clock has passed, which runs while RUNNING (R137). -/
def State.secondOver (s : State) : Bool := s.campaign = .running && 1000 ≤ s.clockPart

/-- No time remains on a walk's lease, which runs while RUNNING and a wand holds the walk (R57, R138). -/
def State.leaseOver (s : State) (x : CtxId) : Bool :=
  s.campaign = .running && (s.ctx x).any fun c => c.walker.isSome && c.lease = some 0

/-- No time remains on a section's revision timer, which runs unless PAUSED (R8, R138). -/
def State.revisionOver (s : State) (S : SecId) : Bool :=
  s.campaign ≠ .paused && (s.sec S).revision = some 0

/-- The expiry of a timer: its effect if the timer is at its end. While time remains there is no expiry,
and a command that comes early changes nothing (R138; notes/assumptions/5.md). -/
def atEnd (ended : Bool) (effect : State → State) (s : State) : State := if ended then effect s else s

end Sys2Proof.Machine
end

