-- ==== Sys2Proof/Machine/Operands.lean ====
section
/-!
DEFINITION. The wire formats of 11.6: how the operands of a request and of a wand frame are read from
their bytes, the checks of R175, the CRC of R174, and how responses, answers and notices are written
as bytes.
-/

namespace Sys2Proof.Machine

/-! ### Numbers in bytes, the most significant byte first (R209) -/

/-- The number that bytes carry. -/
def numOf (bytes : List Byte) : Nat := bytes.foldl (fun n b => n * 256 + b.toNat) 0

/-- A number in `n` bytes. -/
def bytesOf : Nat → Nat → List Byte
  | 0, _ => []
  | n + 1, v => BitVec.ofNat 8 (v / 256 ^ n) :: bytesOf n v

/-- The `len` bytes of a packet from an offset. -/
def slice (a : List Byte) (off len : Nat) : List Byte := (a.drop off).take len

/-- The number in `len` bytes of a packet from an offset. -/
def argNum (a : List Byte) (off len : Nat) : Nat := numOf (slice a off len)

/-- The tag in the eight bytes of a packet from an offset. -/
def argTag (a : List Byte) (off : Nat) : Tag := BitVec.ofNat 64 (argNum a off 8)

/-- The byte of a packet at an offset. -/
def argByte (a : List Byte) (off : Nat) : Byte := BitVec.ofNat 8 (argNum a off 1)

/-- A flag: 00H clear, any other value set (R209). -/
def argFlag (a : List Byte) (off : Nat) : Bool := argNum a off 1 ≠ 0

/-! ### Requests (11.3) -/

/-- The argument length that the envelope check requires of a request code, if the code names a
request (11.3, R194). -/
def requestLength (code : Byte) : Option Nat :=
  match code.toNat with
  | 0x10 => some 2
  | 0x11 => some 13
  | 0x12 => some 8
  | 0x13 => some 12
  | 0x14 => some 2
  | 0x15 => some 2
  | 0x16 => some 8
  | 0x17 => some 8
  | 0x20 => some 16
  | 0x21 => some 2
  | 0x22 => some 1
  | 0x23 => some 0
  | 0x30 => some 0
  | 0x31 => some 2
  | 0x32 => some 2
  | 0x33 => some 7
  | 0x34 => some 2
  | 0x40 => some 8
  | 0x41 => some 8
  | 0x42 => some 8
  | 0x50 => some 0
  | 0x51 => some 0
  | 0x52 => some 0
  | 0x53 => some 0
  | 0x54 => some 0
  | 0x60 => some 19
  | 0x61 => some 1
  | 0x62 => some 1
  | 0x63 => some 0
  | 0x64 => some 1
  | 0x70 => some 2
  | 0x80 => some 1
  | 0x90 => some 2
  | 0x91 => some 2
  | 0x92 => some 2
  | 0x93 => some 2
  | 0x94 => some 0
  | 0xA0 => some 3
  | 0xA1 => some 0
  | _ => none

/-- The request that a code and its argument bytes carry (11.3, R209). In
SEC_SET a mark field of FFFFH beside a presence byte that is set is the number 65535, not none (DESIGN
CHOICE, notes/assumptions/27.md). -/
def decodeRequest (code : Byte) (a : List Byte) : Option Instr :=
  match code.toNat with
  | 0x10 => some (.revOpen (argNum a 0 2))
  | 0x11 => some (.revInsert (argNum a 0 2) (argNum a 2 2) (argTag a 4) (argByte a 12))
  | 0x12 => some (.revRetire (argTag a 0))
  | 0x13 => some (.revAdopt (argTag a 0) (argNum a 8 2) (argNum a 10 2))
  | 0x14 => some (.revClose (argNum a 0 2))
  | 0x15 => some (.secUnload (argNum a 0 2))
  | 0x16 => some (.itemDrop (argTag a 0))
  | 0x17 => some (.itemRead (argTag a 0))
  | 0x20 => some (.secSet (argNum a 0 2) (argNum a 2 1) (argNum a 3 1)
      (if argFlag a 4 then some (argNum a 5 2) else none)
      (if argFlag a 7 then some (argTag a 8) else none))
  | 0x21 => some (.walkAbandon (argNum a 0 2))
  | 0x22 => some (.walkRead (argNum a 0 1))
  | 0x23 => some .claimqRead
  | 0x30 => some .attNext
  | 0x31 => some (.attAck (argNum a 0 2))
  | 0x32 => some (.secRead (argNum a 0 2))
  | 0x33 => some (.secList (argNum a 0 2) (argByte a 2) (argNum a 3 4))
  | 0x34 => some (.secReset (argNum a 0 2))
  | 0x40 => some (.circOut (argTag a 0))
  | 0x41 => some (.circIn (argTag a 0))
  | 0x42 => some (.itemClear (argTag a 0))
  | 0x50 => some .campStart
  | 0x51 => some .campPause
  | 0x52 => some .campResume
  | 0x53 => some .campClose
  | 0x54 => some .campRead
  | 0x60 => some (.watchSet (argNum a 0 1) (argTag a 1) (argTag a 9) (argNum a 17 1) (argFlag a 18))
  | 0x61 => some (.watchClear (argNum a 0 1))
  | 0x62 => some (.watchRead (argNum a 0 1))
  | 0x63 => some .watchNext
  | 0x64 => some (.watchAck (argNum a 0 1))
  | 0x70 => some (.lampForce (argNum a 0 1) (argByte a 1))
  | 0x80 => some (.wandRead (argNum a 0 1))
  | 0x90 => some (.evtClear (BitVec.ofNat 16 (argNum a 0 2)))
  | 0x91 => some (.evtForce (BitVec.ofNat 16 (argNum a 0 2)))
  | 0x92 => some (.evtEnable (BitVec.ofNat 16 (argNum a 0 2)))
  | 0x93 => some (.evtRoute (BitVec.ofNat 16 (argNum a 0 2)))
  | 0x94 => some .evtRead
  | 0xA0 => some (.setWrite (argNum a 0 1) (argNum a 1 2))
  | 0xA1 => some .setRead
  | _ => none

/-- The envelope check of a request packet, and the request it carries if it passes (R194): a known
code, the stated length that the code requires, and as many argument bytes as stated. -/
def checkEnvelope (code : Byte) (stated : Nat) (args : List Byte) : Option Instr :=
  match requestLength code with
  | none => none
  | some n => if stated = n ∧ args.length = stated then decodeRequest code args else none

/-- A circulation in a request (R209). -/
def circOf (b : Byte) : Option Circulation :=
  if b = 0 then some .shelf else if b = 1 then some .loan else none

/-- What LAMP_FORCE asks for: a pattern, or RELEASE (inner `none`) (R169, R209). -/
def forceOf (b : Byte) : Option (Option Pattern) :=
  match b.toNat with
  | 0x00 => some (some .off)
  | 0x01 => some (some .on)
  | 0x02 => some (some .blinkEven)
  | 0x03 => some (some .blinkLong)
  | 0x04 => some (some .flicker)
  | 0x0F => some none
  | _ => none

/-! ### The CRC (R174) -/

/-- One bit of the CRC: generator polynomial 1021H. -/
def crcBit (c : BitVec 16) : BitVec 16 := if c.msb then (c <<< 1) ^^^ 0x1021 else c <<< 1

/-- One byte of the CRC, its most significant bit first. -/
def crcByte (c : BitVec 16) (b : Byte) : BitVec 16 :=
  Nat.iterate crcBit 8 (c ^^^ (b.setWidth 16 <<< 8))

/-- The CRC of bytes, from the initial value FFFFH. -/
def crc16 (bytes : List Byte) : BitVec 16 := bytes.foldl crcByte 0xFFFF

/-- The bytes a frame's CRC covers: wand number, kind, length and payload (R174, R210). -/
def frameCovered (f : RawFrame) : List Byte :=
  f.wand :: f.kind :: BitVec.ofNat 8 f.payload.length :: f.payload

/-- The frame's CRC agrees with the CRC computed (R175). -/
def frameCrcGood (f : RawFrame) : Bool := crc16 (frameCovered f) = f.crc

/-! ### Gathering and checking wand frames (R173, R175, R210) -/

/-- The frame that gathered bytes make, if they are complete: wand number, kind, payload length, so
many payload bytes, two CRC bytes (R173). -/
def gatheredFrame (bytes : List Byte) : Option RawFrame :=
  match bytes with
  | w :: k :: len :: rest =>
    if rest.length = len.toNat + 2 then
      some ⟨w, k, rest.take len.toNat, BitVec.ofNat 16 (numOf (rest.drop len.toNat))⟩
    else none
  | _ => none

/-- The reads of a SIGHT payload after its read count (R211). -/
def readsOf : Nat → List Byte → List TagRead
  | 0, _ => []
  | n + 1, a => ⟨argTag a 0, argByte a 8⟩ :: readsOf n (a.drop 9)

/-- The taken frame that a kind and a payload stand for, if the payload length is the one the kind
requires; a kind that is not a wand frame kind is taken to be answered BAD_FRAME (R175, R210). -/
def frameOf (w : Wand) (kind : Byte) (p : List Byte) : Option Instr :=
  match kind.toNat with
  | 0x01 => if p.length = 0 then some (.hello w) else none
  | 0x02 =>
    match p with
    | [] => none
    | r :: reads =>
      if p.length = 1 + 9 * r.toNat then some (.sight w (readsOf r.toNat reads)) else none
  | 0x03 => if p.length = 2 then some (.claim w (argNum p 0 2)) else none
  | 0x04 =>
    if p.length = 1 then
      let mode := argByte p 0
      if mode = 1 then some (.walkendComplete w)
      else if mode = 2 then some (.walkendBreak w)
      else some (.walkendOtherMode w mode)
    else none
  | 0x05 => if p.length = 8 then some (.whereIs w (argTag p 0)) else none
  | 0x06 => if p.length = 8 then some (.shelved w (argTag p 0)) else none
  | 0x07 => if p.length = 0 then some (.keep w) else none
  | _ => some (.badFrame w kind)

/-- The checks of R175 in their order: the CRC, the wand number, the payload length. `none` is a
discard. -/
def checkedFrame (f : RawFrame) : Option Instr :=
  if frameCrcGood f then (idOf f.wand.toNat).bind fun w => frameOf w f.kind f.payload else none

/-! ### Requests and wand frames as bytes (R209 to R211) -/

/-- A tag as sent (R209). -/
def tagBytes (t : Tag) : List Byte := bytesOf 8 t.toNat

/-- A flag as sent (R209). -/
def flagByte (b : Bool) : Byte := if b then 1 else 0

/-- An optional argument: a presence byte, then the field, which is ignored when absent (R209). -/
def optBytes (field : Option (List Byte)) (len : Nat) : List Byte :=
  match field with
  | some bytes => 1 :: bytes
  | none => 0 :: List.replicate len 0

/-- The request code and the argument bytes of a catalogue request, for a command that is one
(11.3, R209). -/
def requestPacket : Instr → Option (Byte × List Byte)
  | .revOpen S => some (0x10, bytesOf 2 S)
  | .revInsert S k t circ => some (0x11, bytesOf 2 S ++ bytesOf 2 k ++ tagBytes t ++ [circ])
  | .revRetire t => some (0x12, tagBytes t)
  | .revAdopt t S k => some (0x13, tagBytes t ++ bytesOf 2 S ++ bytesOf 2 k)
  | .revClose S => some (0x14, bytesOf 2 S)
  | .secUnload S => some (0x15, bytesOf 2 S)
  | .itemDrop t => some (0x16, tagBytes t)
  | .itemRead t => some (0x17, tagBytes t)
  | .secSet S tol lamp mark endMarker =>
      some (0x20, bytesOf 2 S ++ bytesOf 1 tol ++ bytesOf 1 lamp ++
        optBytes (mark.map (bytesOf 2)) 2 ++ optBytes (endMarker.map tagBytes) 8)
  | .walkAbandon S => some (0x21, bytesOf 2 S)
  | .walkRead x => some (0x22, bytesOf 1 x)
  | .claimqRead => some (0x23, [])
  | .attNext => some (0x30, [])
  | .attAck S => some (0x31, bytesOf 2 S)
  | .secRead S => some (0x32, bytesOf 2 S)
  | .secList S list start => some (0x33, bytesOf 2 S ++ [list] ++ bytesOf 4 start)
  | .secReset S => some (0x34, bytesOf 2 S)
  | .circOut t => some (0x40, tagBytes t)
  | .circIn t => some (0x41, tagBytes t)
  | .itemClear t => some (0x42, tagBytes t)
  | .campStart => some (0x50, [])
  | .campPause => some (0x51, [])
  | .campResume => some (0x52, [])
  | .campClose => some (0x53, [])
  | .campRead => some (0x54, [])
  | .watchSet x value mask cls oneShot =>
      some (0x60, bytesOf 1 x ++ tagBytes value ++ tagBytes mask ++ bytesOf 1 cls ++
        [flagByte oneShot])
  | .watchClear x => some (0x61, bytesOf 1 x)
  | .watchRead x => some (0x62, bytesOf 1 x)
  | .watchNext => some (0x63, [])
  | .watchAck x => some (0x64, bytesOf 1 x)
  | .lampForce m pattern => some (0x70, bytesOf 1 m ++ [pattern])
  | .wandRead w => some (0x80, bytesOf 1 w)
  | .evtClear k => some (0x90, bytesOf 2 k.toNat)
  | .evtForce k => some (0x91, bytesOf 2 k.toNat)
  | .evtEnable k => some (0x92, bytesOf 2 k.toNat)
  | .evtRoute k => some (0x93, bytesOf 2 k.toNat)
  | .evtRead => some (0x94, [])
  | .setWrite key value => some (0xA0, bytesOf 1 key ++ bytesOf 2 value)
  | .setRead => some (0xA1, [])
  | _ => none

/-- The wand, the kind and the payload of a wand frame, for a command that is a taken one (R210,
R211). A frame of a kind that is not a wand frame kind may carry any payload: here, none. -/
def wandFrame : Instr → Option (Wand × Byte × List Byte)
  | .badFrame w kind => some (w, kind, [])
  | .hello w => some (w, 0x01, [])
  | .sight w reads =>
      some (w, 0x02, bytesOf 1 reads.length ++
        reads.flatMap fun r => tagBytes r.tag ++ [r.strength])
  | .claim w S => some (w, 0x03, bytesOf 2 S)
  | .walkendComplete w => some (w, 0x04, [1])
  | .walkendBreak w => some (w, 0x04, [2])
  | .walkendOtherMode w mode => some (w, 0x04, [mode])
  | .whereIs w t => some (w, 0x05, tagBytes t)
  | .shelved w t => some (w, 0x06, tagBytes t)
  | .keep w => some (w, 0x07, [])
  | _ => none

/-- The frame that a wand's base unit sends, with the CRC of R174. -/
def rawFrame (w : Wand) (kind : Byte) (payload : List Byte) : RawFrame where
  wand := BitVec.ofNat 8 w.val
  kind := kind
  payload := payload
  crc := crc16 (BitVec.ofNat 8 w.val :: kind :: BitVec.ofNat 8 payload.length :: payload)

/-- The bytes of a frame on LRX, the sync byte first (R210). -/
def wireBytes (f : RawFrame) : List Byte :=
  0x7E :: (frameCovered f ++ bytesOf 2 f.crc.toNat)

/-! ### Enumerations as sent (R209 to R212) -/

def CountState.code : CountState → Nat
  | .unseen => 0x00
  | .passed => 0x01
  | .held => 0x02
  | .inPlace => 0x03
  | .disordered => 0x04
  | .elsewhere => 0x05
  | .notFound => 0x06
  | .desk => 0x07
  | .missing => 0x08
  | .unlisted => 0x09

def Circulation.code : Circulation → Nat
  | .shelf => 0x00
  | .loan => 0x01

def SecState.code : SecState → Nat
  | .empty => 0x00
  | .ready => 0x01
  | .walking => 0x02
  | .suspended => 0x03
  | .tallied => 0x04

def CampState.code : CampState → Nat
  | .stopped => 0x00
  | .running => 0x01
  | .paused => 0x02
  | .closed => 0x03

def Pattern.code : Pattern → Nat
  | .off => 0x00
  | .on => 0x01
  | .blinkEven => 0x02
  | .blinkLong => 0x03
  | .flicker => 0x04

def Standing.code : Standing → Nat
  | .none => 0x00
  | .walking => 0x01
  | .waiting => 0x02

def Verdict.code : Verdict → Nat
  | .inPlace => 0x01
  | .pending => 0x02
  | .resync => 0x03
  | .disordered => 0x04
  | .foreign => 0x05
  | .unlisted => 0x06
  | .repeated => 0x07
  | .parked => 0x08
  | .deferred => 0x09
  | .marker => 0x0A
  | .roaming => 0x0B
  | .tableFull => 0x0C

def Status.code : Status → Nat
  | .done => 0x00
  | .clamped => 0x01
  | .badRequest => 0x02
  | .noSection => 0x03
  | .noItem => 0x04
  | .noHome => 0x05
  | .duplicateTag => 0x06
  | .sectionFull => 0x07
  | .tableFull => 0x08
  | .notRevising => 0x09
  | .revising => 0x0A
  | .busy => 0x0B
  | .wrongState => 0x0C
  | .notUnlisted => 0x0D

def FrameCode.code : FrameCode → Nat
  | .ok => 0x00
  | .granted => 0x01
  | .queued => 0x02
  | .paused => 0x03
  | .badFrame => 0x04
  | .notRunning => 0x05
  | .holding => 0x06
  | .noSection => 0x07
  | .noContext => 0x08
  | .notWalking => 0x09
  | .revising => 0x0A
  | .noItem => 0x0B
  | .noHome => 0x0C
  | .heldItem => 0x0D

/-- The flags byte of an outcome: the sum of WATCH 01H, LOAN 02H, MARK 04H and BROKEN 08H (R211). -/
def Sighting.flags (o : Sighting) : Nat :=
  (if o.watch then 1 else 0) + (if o.loan then 2 else 0) + (if o.mark then 4 else 0) +
    (if o.broken then 8 else 0)

/-! ### Fields as sent (R209) -/

/-- `n` bytes that the manual leaves open, from the `i`-th on. -/
def freeBytes (i n : Nat) : List Byte := (List.range n).map fun j => Config.freeByte (i + j)

/-- How many bytes of a field the manual leaves open (notes/assumptions/9.md). -/
def Field.openBytes : Field → Nat
  | .time none => 4
  | .tagOpt none => 8
  | _ => 0

/-- A field as sent; `i` numbers the first byte left open, if there is one (R209, R211, R213). -/
def Field.bytes (i : Nat) : Field → List Byte
  | .num8 n => bytesOf 1 n
  | .num8Opt n => bytesOf 1 (n.getD 0xFF)
  | .num16 n => bytesOf 2 n
  | .num16Opt n => bytesOf 2 (n.getD 0xFFFF)
  | .num32 n => bytesOf 4 n
  | .foundTime t => bytesOf 4 (t.getD 0xFFFFFFFF)
  | .time (some t) => bytesOf 4 t
  | .time none => freeBytes i 4
  | .tag t => bytesOf 8 t.toNat
  | .tagOpt (some t) => 1 :: bytesOf 8 t.toNat
  | .tagOpt none => 0 :: freeBytes i 8
  | .flag b => bytesOf 1 (if b then 1 else 0)
  | .generation g => bytesOf 2 g.toNat
  | .kinds k => bytesOf 2 k.toNat
  | .count c => bytesOf 1 c.code
  | .countOpt c => bytesOf 1 ((c.map CountState.code).getD 0xFF)
  | .circOpt c => bytesOf 1 ((c.map Circulation.code).getD 0xFF)
  | .secState x => bytesOf 1 x.code
  | .campState c => bytesOf 1 c.code
  | .patternOpt p => bytesOf 1 ((p.map Pattern.code).getD 0xFF)
  | .standing x => bytesOf 1 x.code
  | .sighting o =>
      bytesOf 8 o.tag.toNat ++ bytesOf 1 o.verdict.code ++ bytesOf 1 o.flags ++
        bytesOf 2 ((o.sec.map Fin.val).getD 0xFFFF)

/-- Fields as sent, in order, and the number of the next byte left open. -/
def fieldsBytes : Nat → List Field → List Byte × Nat
  | i, [] => ([], i)
  | i, f :: rest =>
    let (bytes, j) := fieldsBytes (i + f.openBytes) rest
    (f.bytes i ++ bytes, j)

/-- The section field of a record or of an outcome: 0..511, or none (R209). -/
def Field.sec (S : SecId) : Field := .num16 S.val

/-- A section field that may be none. -/
def Field.secOpt (S : Option SecId) : Field := .num16Opt (S.map Fin.val)

/-- A list of varying length: a one-byte count of its entries, then the entries (R209). -/
def listFields (entries : List (List Field)) : List Field :=
  .num8 entries.length :: entries.flatten

/-! ### Responses and part frames as sent (R210, R212) -/

/-- A response packet after the marker: code, status, result length, results (R212). -/
def Response.bytes (r : Response) (i : Nat) : List Byte × Nat :=
  let (results, j) := fieldsBytes i r.results
  (r.code :: (bytesOf 1 r.status.code ++ bytesOf 2 results.length ++ results), j)

/-- The payload of a part frame (R210). -/
def PartFrame.payload (i : Nat) : PartFrame → List Byte × Nat
  | .answer _ kind code fields =>
    let (bytes, j) := fieldsBytes i fields
    (kind :: (bytesOf 1 code.code ++ bytes), j)
  | .grant _ S resumed x =>
    (bytesOf 2 S.val ++ bytesOf 1 (if resumed then 1 else 0) ++ bytesOf 1 x.val, i)
  | .suspended _ S => (bytesOf 2 S.val, i)
  | .drop _ S closed => (bytesOf 2 S.val ++ bytesOf 1 (if closed then 1 else 0), i)

/-- The kind of a part frame (R210). -/
def PartFrame.kind : PartFrame → Nat
  | .answer _ _ _ _ => 0x81
  | .grant _ _ _ _ => 0x82
  | .suspended _ _ => 0x83
  | .drop _ _ _ => 0x84

/-- The wand a part frame is sent to. -/
def PartFrame.wand : PartFrame → Wand
  | .answer w _ _ _ => w
  | .grant w _ _ _ => w
  | .suspended w _ => w
  | .drop w _ _ => w

/-- A part frame as sent: sync byte, envelope, payload and CRC (R177, R210). -/
def PartFrame.bytes (f : PartFrame) (i : Nat) : List Byte × Nat :=
  let (p, j) := f.payload i
  let covered := bytesOf 1 f.wand.val ++ bytesOf 1 f.kind ++ bytesOf 1 p.length ++ p
  (0x7E :: (covered ++ bytesOf 2 (crc16 covered).toNat), j)

end Sys2Proof.Machine
end

