-- ==== Sys2Proof/Machine/Walks.lean ====
section
/-!
DEFINITION. Sections, claims and walks (chapter 3): starting, resuming, suspending, completing and
abandoning a walk, grants to waiters, the tally of 5.1, and the meanings of CLAIM, WALKEND, HELLO,
LEASE_EXPIRY, WALK_ABANDON, SEC_SET, WALK_READ and CLAIMQ_READ.
-/

namespace Sys2Proof.Machine

/-! ### Grants (R48, R50, R51, R54) -/

/-- The context of a new walk (R48). -/
def State.newContext (s : State) (S : SecId) (w : Wand) : Context where
  sec := S
  walker := some w
  cursor := 0
  run := []
  park := []
  lease := some s.fullLease
  markHit := false

/-- A new walk in a free context: the section becomes WALKING (R48, R50). -/
def State.startWalk (s : State) (x : CtxId) (S : SecId) (w : Wand) : State :=
  (s.setCtx x (some (s.newContext S w))).modSec S fun r =>
    { r with state := .walking, context := some x, generation := r.generation + 1 }

/-- A suspended walk resumed: cursor, run list, park queue and mark-hit flag are kept (R51). -/
def State.resumeWalk (s : State) (x : CtxId) (S : SecId) (w : Wand) : State :=
  (s.modCtx x fun c => { c with walker := some w, lease := some s.fullLease }).enter S .walking

/-- At a release the oldest waiter for the section is granted a new walk, or a resume of the
suspended walk, and is sent GRANT (R54). -/
def State.grantNext (s : State) (S : SecId) : State :=
  match s.claims.find? fun q => q.sec = S with
  | none => s
  | some q =>
    if (s.sec S).state = .suspended then
      match (s.sec S).context with
      | some x =>
        ((s.unclaim q.wand).resumeWalk x S q.wand).makeReady (.grant q.wand S true x)
      | none => s
    else
      match s.freeCtx with
      | some x =>
        ((s.unclaim q.wand).startWalk x S q.wand).makeReady (.grant q.wand S false x)
      | none => s

/-! ### Suspension (R58, R61, R63) -/

/-- A walk loses its walker: the section becomes SUSPENDED, and the former walker's WAITING entries
are released. Cursor, run, park queue and mark-hit flag are kept (R58, steps 1 and 2). -/
def State.suspend (s : State) (x : CtxId) (c : Context) (w : Wand) : State :=
  ((s.modCtx x fun d => { d with walker := none, lease := none }).enter c.sec .suspended).releaseWaiting w

/-! ### The tally and completion (R102, R103) -/

/-- A home item's finding is still open at a completion (R102). -/
def Item.openAtTally (r : Item) : Bool :=
  r.count = .held || r.count = .unseen || r.count = .passed

/-- What the tally makes of a home item (R102). -/
def Item.tallied (r : Item) : Item :=
  match r.count with
  | .held => { r with count := .disordered, prior := none }
  | .unseen | .passed =>
    { r with count := if r.circ = some .loan then .desk else .notFound, found := none }
  | _ => r

/-- The tally makes the item DISORDERED or NOT_FOUND, which sets attention (R107). -/
def Item.tallyAttends (r : Item) : Bool :=
  r.count = .held || ((r.count = .unseen || r.count = .passed) && r.circ ≠ some .loan)

/-- The tally of a section: items, attention, and one bump if it changed anything (R102, R103). -/
def State.tallySec (s : State) (S : SecId) : State :=
  let t := s.modItems (fun r => r.isHomeOf S) Item.tallied
  let t := if s.items.any fun r => r.isHomeOf S && r.tallyAttends then t.attend S else t
  if s.items.any fun r => r.isHomeOf S && r.openAtTally then t.bump S else t

/-- A walk ends: its context is freed and its section enters a state without one (R47, R48). -/
def State.endWalk (s : State) (x : CtxId) (S : SecId) (st : SecState) : State :=
  (s.setCtx x none).modSec S fun r =>
    { r with state := st, context := none, generation := r.generation + 1 }

/-- WAITING entries of a walker, if there is one, are released unapplied (R41). -/
def State.releaseWalker (s : State) (w : Option Wand) : State :=
  match w with
  | some w => s.releaseWaiting w
  | none => s

/-- The completion of a walk: tally, walks completed, WALK_DONE, the context freed, TALLIED, and a
new walk granted to the oldest waiter (R103). The walker's WAITING entries not yet taken by a drain
are released (R41, R97). -/
def State.completeWalk (s : State) (x : CtxId) (c : Context) : State :=
  let t := s.tallySec c.sec
  let t := t.modSec c.sec fun r => { r with walks := min 255 (r.walks + 1) }
  let t := (t.raise .walkDone).releaseWalker c.walker
  (t.endWalk x c.sec .tallied).grantNext c.sec

/-! ### CLAIM (R50 to R52) -/

/-- w waits for S: its entry keeps its place, or it moves to the tail (R52). -/
def State.enqueue (s : State) (w : Wand) (S : SecId) : State :=
  if s.waitsFor w = some S then s
  else { s with claims := (s.unclaim w).claims ++ [⟨w, S⟩] }

/-- The answer to a claim of a section that may be claimed or waited for (R50 to R52, R183). The position
in QUEUED takes one byte (DESIGN CHOICE, notes/assumptions/25.md). -/
def claimSec (w : Wand) (S : SecId) (s : State) : Answer :=
  match (s.sec S).state with
  | .empty => s.reply .noSection [.sec S]
  | .walking =>
    let t := s.enqueue w S
    ⟨t, .queued, [.sec S, .num8 (t.place w)]⟩
  | .suspended =>
    match (s.sec S).context with
    | some x => ⟨(s.unclaim w).resumeWalk x S w, .granted, [.sec S, .num8 x.val, .flag true]⟩
    | none => s.reply .noContext [.sec S]
  | .ready | .tallied =>
    match s.freeCtx with
    | some x => ⟨(s.unclaim w).startWalk x S w, .granted, [.sec S, .num8 x.val, .flag false]⟩
    | none => s.reply .noContext [.sec S]

/-- The processing of CLAIM, its checks in the order of R50. -/
def claimBody (w : Wand) (S : Nat) (s : State) : Answer :=
  if s.campaign = .running then
    match s.walkedSec w with
    | some own => s.reply .holding [.sec own]
    | none =>
      match secOf S with
      | some S => claimSec w S s
      | none => s.reply .noSection [.num16 S]
  else s.reply .notRunning [.num16 S]

/-- CLAIM (R50 to R52, R183). -/
def execClaim (w : Wand) (S : Nat) (s : State) : Host.Outcome State Fault Refusal :=
  .next (takeFrame (.claim w S) w 0x03 (unlessPaused (claimBody w S)) s)

/-! ### WALKEND (R60, R61, R184) -/

/-- The processing of WALKEND COMPLETE (R60). -/
def walkendCompleteBody (w : Wand) (s : State) : Answer :=
  match s.walkOf w with
  | none => s.reply .notWalking []
  | some x =>
    match s.ctx x with
    | none => s.reply .notWalking []
    | some c =>
      if (s.sec c.sec).revision.isSome then s.reply .revising [.sec c.sec]
      else ⟨s.completeWalk x c, .ok, [.sec c.sec, .num8 1]⟩

/-- WALKEND with mode COMPLETE (R60, R184). -/
def execWalkendComplete (w : Wand) (s : State) : Host.Outcome State Fault Refusal :=
  .next (takeFrame (.walkendComplete w) w 0x04 (unlessPaused (walkendCompleteBody w)) s)

/-- The processing of WALKEND BREAK (R61). -/
def walkendBreakBody (w : Wand) (s : State) : Answer :=
  match s.walkOf w with
  | none => s.reply .notWalking []
  | some x =>
    match s.ctx x with
    | none => s.reply .notWalking []
    | some c => ⟨(s.suspend x c w).grantNext c.sec, .ok, [.sec c.sec, .num8 2]⟩

/-- WALKEND with mode BREAK (R61, R184). -/
def execWalkendBreak (w : Wand) (s : State) : Host.Outcome State Fault Refusal :=
  .next (takeFrame (.walkendBreak w) w 0x04 (unlessPaused (walkendBreakBody w)) s)

/-- WALKEND whose mode is neither COMPLETE nor BREAK: BAD_FRAME, or PAUSED while the campaign is
PAUSED; nothing changes beyond the taking (R60, R179, R184). -/
def execWalkendOtherMode (w : Wand) (mode : Byte) (s : State) : Host.Outcome State Fault Refusal :=
  .next (takeFrame (.walkendOtherMode w mode) w 0x04
    (unlessPaused fun s => s.reply .badFrame []) s)

/-! ### HELLO (R42, R63, R180) -/

/-- Every entry of a wand's candidate table is freed (R42). -/
def State.freeTable (s : State) (w : Wand) : State :=
  s.setTable w { s.table w with entries := Vector.replicate 24 .free }

/-- The processing of HELLO, in every campaign state (R63). -/
def helloBody (w : Wand) (s : State) : Answer :=
  let t := s.freeTable w
  match s.walkOf w with
  | some x =>
    match s.ctx x with
    | some c => ⟨(t.suspend x c w).grantNext c.sec, .ok, [.standing .walking, .sec c.sec]⟩
    | none => ⟨t, .ok, [.standing .none]⟩
  | none =>
    match s.waitsFor w with
    | some S => ⟨t.unclaim w, .ok, [.standing .waiting, .sec S]⟩
    | none => ⟨t, .ok, [.standing .none]⟩

/-- HELLO (R63, R180). -/
def execHello (w : Wand) (s : State) : Host.Outcome State Fault Refusal :=
  .next (takeFrame (.hello w) w 0x01 (helloBody w) s)

/-! ### LEASE_EXPIRY (R57, R58) -/

/-- The expiry of a lease: the five effects of R58 in their order. -/
def expireLease (x : CtxId) (s : State) : State :=
  match s.ctx x with
  | none => s
  | some c =>
    match c.walker with
    | none => s
    | some w =>
      (((s.suspend x c w).makeReady (.suspended w c.sec)).raise .leaseExpired).grantNext c.sec

/-- LEASE_EXPIRY, when no time remains; a lease loaded first does not expire (R58, R59, R138). -/
def execLeaseExpiry (x : CtxId) (s : State) : Host.Outcome State Fault Refusal :=
  .next (unlessReset (atEnd (s.leaseOver x) (expireLease x)) s)

/-! ### WALK_ABANDON (R64) -/

/-- A run entry returns to its prior state: found fields and prior state absent, sight count and
moved flag kept (R64). -/
def Item.returned (r : Item) : Item :=
  { r with count := r.prior.getD .unseen, found := none, prior := none }

/-- WALK_ABANDON's effect on a walk that exists (R64, steps 1 to 5). -/
def State.abandon (s : State) (x : CtxId) (c : Context) : State :=
  let t := s.modItems (fun r => r.tag ∈ c.run) Item.returned
  let t := if c.run = [] then t else t.bump c.sec
  let t := match c.walker with
    | some w => (t.releaseWaiting w).makeReady (.drop w c.sec false)
    | none => t
  (t.endWalk x c.sec (if 1 ≤ (s.sec c.sec).walks then .tallied else .ready)).grantNext c.sec

/-- The processing of WALK_ABANDON (R64). -/
def walkAbandonBody (S : Nat) (s : State) : Reply :=
  match secOf S with
  | none => s.refuse .noSection
  | some S =>
    if (s.sec S).state = .walking ∨ (s.sec S).state = .suspended then
      match (s.sec S).context with
      | none => s.refuse .wrongState
      | some x =>
        match s.ctx x with
        | none => s.refuse .wrongState
        | some c => (s.abandon x c).done [.num8 c.run.length, .num8 c.park.length]
    else s.refuse .wrongState

/-- WALK_ABANDON (R64). -/
def execWalkAbandon (S : Nat) (s : State) : Host.Outcome State Fault Refusal :=
  .next (carryOut (.walkAbandon S) 0x21 (walkAbandonBody S) s)

/-! ### SEC_SET (R66, R67) -/

/-- The processing of SEC_SET (R66, R67). -/
def secSetBody (S tol lamp : Nat) (mark : Option Nat) (endMarker : Option Tag) (s : State) : Reply :=
  match secOf S with
  | none => s.refuse .noSection
  | some S =>
    let old := s.sec S
    if old.state = .empty then s.refuse .noSection
    else
      let n := s.length S
      let mark' := mark.map fun m => min m n
      let t := s.setSec S { old with
        tolerance := min tol 15
        lamp := lampOf lamp
        mark := mark'
        endMarker := endMarker
        generation := old.generation + 1 }
      let t := match old.context with
        | some x => if mark' = old.mark then t else t.modCtx x fun c => { c with markHit := false }
        | none => t
      t.doneClamped (decide (15 < tol) || mark.any fun m => n < m) []

/-- SEC_SET (R66, R67). -/
def execSecSet (S tol lamp : Nat) (mark : Option Nat) (endMarker : Option Tag) (s : State) :
    Host.Outcome State Fault Refusal :=
  .next (carryOut (.secSet S tol lamp mark endMarker) 0x20 (secSetBody S tol lamp mark endMarker) s)

/-! ### WALK_READ and CLAIMQ_READ (R68, R69) -/

/-- Whole seconds of a remaining time in ms, rounded up (R209). -/
def wholeSeconds (ms : Nat) : Nat := (ms + 999) / 1000

/-- The fields of a walk context as WALK_READ returns them (R68). -/
def State.contextFields (s : State) (c : Context) : List Field :=
  [.flag true, .sec c.sec, .num8Opt (c.walker.map Fin.val), .num16 c.cursor,
    .num16 (s.length c.sec)] ++
  listFields (c.run.map fun t =>
    [.tag t, .num16 (s.ordinal c.sec t), .countOpt ((s.item? t).bind fun r => r.prior)]) ++
  listFields (c.park.map fun t => [.tag t]) ++
  [.num16Opt (c.lease.map wholeSeconds), .flag c.markHit]

/-- The processing of WALK_READ (R68). -/
def walkReadBody (x : Nat) (s : State) : Reply :=
  match idOf x with
  | none => s.refuse .badRequest
  | some x =>
    match s.ctx x with
    | none => s.done [.flag false]
    | some c => s.done (s.contextFields c)

/-- WALK_READ (R68). -/
def execWalkRead (x : Nat) (s : State) : Host.Outcome State Fault Refusal :=
  .next (carryOut (.walkRead x) 0x22 (walkReadBody x) s)

/-- The processing of CLAIMQ_READ (R69). -/
def claimqReadBody (s : State) : Reply :=
  s.done (listFields (s.claims.map fun q => [.num8 q.wand.val, .sec q.sec]))

/-- CLAIMQ_READ (R69). -/
def execClaimqRead (s : State) : Host.Outcome State Fault Refusal :=
  .next (carryOut .claimqRead 0x23 claimqReadBody s)

end Sys2Proof.Machine
end

