-- ==== Sys2Proof/Machine/Campaign.lean ====
section
/-!
DEFINITION. Campaign control and timekeeping (chapter 7): the meanings of CAMP_START, CAMP_PAUSE,
CAMP_RESUME, CAMP_CLOSE, CAMP_READ and CAMPAIGN_CLOCK_SECOND.
-/

namespace Sys2Proof.Machine

/-! ### CAMP_START (R141, R142) -/

/-- A home item returned to the start of a count: UNSEEN, no found fields, sight count 0, both flags
clear (R141). -/
def Item.restarted (r : Item) : Item :=
  { r with
    count := .unseen, found := none, prior := none, sight := 0, moved := false, conflict := false }

/-- CAMP_START changes the home item in a way that bumps its home: it changes its count state or clears a
review flag (R4, R111, R125, R141). -/
def Item.restartBumps (r : Item) : Bool := r.count ≠ .unseen || r.moved || r.conflict

/-- CAMP_START's changes to a section's items and chain bump it, if it had any (R119, R142). A READY section
with every item UNSEEN and an empty chain has none, unless a review flag is cleared (DEDUCED,
notes/assumptions/24.md). -/
def State.startChanges (s : State) (S : SecId) : Bool :=
  (s.sec S).chain ≠ [] || s.items.any fun r => r.isHomeOf S && r.restartBumps

/-- A section's state after CAMP_START: READY from READY or TALLIED (R142). -/
def SecState.started : SecState → SecState
  | .tallied => .ready
  | st => st

/-- The section record CAMP_START leaves (R119, R142). -/
def State.startedSec (s : State) (S : SecId) : SectionRec :=
  let x := s.sec S
  { x with
    state := x.state.started
    chain := []
    attention := x.attention && x.state = .empty
    walks := if x.state = .empty then x.walks else 0
    generation := x.generation + (if s.startChanges S then 1 else 0) +
      (if x.state = .tallied then 1 else 0) }

/-- CAMP_START's effect (R141, R142). -/
def State.startCampaign (s : State) : State :=
  let t := s.mapSecs fun S _ => s.startedSec S
  { (t.dropItems fun r => r.home.isNone).modItems (fun _ => true) Item.restarted with
    campaign := .running, clock := 0, clockPart := 0 }

/-- The processing of CAMP_START (R141, R142). -/
def campStartBody (s : State) : Reply :=
  if s.campaign = .stopped ∨ s.campaign = .closed then
    s.startCampaign.done
      [.num16 (s.countSecs fun x => x.state = .tallied),
        .num32 (s.items.countP fun r => r.home.isNone)]
  else s.refuse .wrongState

/-- CAMP_START (R141, R142). -/
def execCampStart (s : State) : Host.Outcome State Fault Refusal :=
  .next (carryOut .campStart 0x50 campStartBody s)

/-! ### CAMP_PAUSE and CAMP_RESUME (R139, R140) -/

/-- The processing of CAMP_PAUSE: every timer's value stays, and none runs while PAUSED (R138,
R139). -/
def campPauseBody (s : State) : Reply :=
  if s.campaign = .running then ({ s with campaign := .paused } : State).done []
  else s.refuse .wrongState

/-- CAMP_PAUSE (R139). -/
def execCampPause (s : State) : Host.Outcome State Fault Refusal :=
  .next (carryOut .campPause 0x51 campPauseBody s)

/-- The processing of CAMP_RESUME (R138, R140). -/
def campResumeBody (s : State) : Reply :=
  if s.campaign = .paused then ({ s with campaign := .running } : State).done []
  else s.refuse .wrongState

/-- CAMP_RESUME (R140). -/
def execCampResume (s : State) : Host.Outcome State Fault Refusal :=
  .next (carryOut .campResume 0x52 campResumeBody s)

/-! ### CAMP_CLOSE (R143 to R145) -/

/-- A walk exists on the section. -/
def State.walkedNow (s : State) (S : SecId) : Bool :=
  (List.finRange 16).any fun x => (s.ctx x).any fun c => c.sec = S

/-- What the close makes of a home item: a run entry DISORDERED (R144), an unfound item MISSING, or
DESK if on LOAN (R145). -/
def Item.closed (r : Item) : Item :=
  match r.count with
  | .held => { r with count := .disordered, prior := none }
  | .unseen | .passed | .notFound =>
    { r with count := if r.circ = some .loan then .desk else .missing, found := none }
  | _ => r

/-- The close makes the item MISSING (R145). -/
def Item.goesMissing (r : Item) : Bool :=
  (r.count = .unseen || r.count = .passed || r.count = .notFound) && r.circ ≠ some .loan

/-- The close makes the item DESK (R145). -/
def Item.goesToDesk (r : Item) : Bool :=
  (r.count = .unseen || r.count = .passed || r.count = .notFound) && r.circ = some .loan

/-- The close changes the item. -/
def Item.closeChanges (r : Item) : Bool := r.count = .held || r.goesMissing || r.goesToDesk

/-- The DROPs of a close: to walkers in ascending order of context index, then to waiters in queue
order (R144). -/
def State.closeDrops (s : State) : List PartFrame :=
  ((List.finRange 16).filterMap fun x =>
    (s.ctx x).bind fun c => c.walker.map fun w => PartFrame.drop w c.sec true) ++
  s.claims.map fun q => PartFrame.drop q.wand q.sec true

/-- The section record the close leaves, but for its attention: TALLIED if a walk existed on it; one
bump for its items' changes, if any, and one if it enters TALLIED (R144, R145). -/
def State.closedSec (s : State) (S : SecId) : SectionRec :=
  let x := s.sec S
  let x := { x with
    generation := x.generation +
      (if s.items.any fun r => r.isHomeOf S && r.closeChanges then 1 else 0) +
      (if s.walkedNow S then 1 else 0) }
  if s.walkedNow S then { x with state := .tallied, context := none } else x

/-- CAMP_CLOSE's effect (R144, R145). -/
def State.closeCampaign (s : State) : State :=
  let t := (s.mapSecs fun S _ => s.closedSec S).modItems (fun r => r.home.isSome) Item.closed
  let t := t.attendWhere fun S =>
    s.items.any fun r => r.isHomeOf S && (r.count = .held || r.goesMissing)
  { t with
    contexts := Vector.replicate 16 none
    claims := []
    campaign := .closed
    sendQueue := s.sendQueue ++ s.closeDrops }

/-- The processing of CAMP_CLOSE, its checks in the order of R143. -/
def campCloseBody (s : State) : Reply :=
  if s.campaign = .running ∨ s.campaign = .paused then
    if (s.findSec fun x => x.revision.isSome).isSome then s.refuse .revising
    else
      s.closeCampaign.done
        [.num8 s.ctxInUse, .num8 s.claims.length,
          .num32 (s.items.countP fun r => r.home.isSome && r.goesMissing),
          .num32 (s.items.countP fun r => r.home.isSome && r.goesToDesk)]
  else s.refuse .wrongState

/-- CAMP_CLOSE (R143 to R145). -/
def execCampClose (s : State) : Host.Outcome State Fault Refusal :=
  .next (carryOut .campClose 0x53 campCloseBody s)

/-! ### CAMP_READ (R147) -/

/-- The processing of CAMP_READ (R147). -/
def campReadBody (s : State) : Reply :=
  s.done
    [.campState s.campaign, .num32 s.clock, .num32 s.items.length, .num32 s.unlisted,
      .num8 s.ctxInUse, .num8 s.claims.length, .num16 (s.countSecs fun x => x.revision.isSome)]

/-- CAMP_READ (R147). -/
def execCampRead (s : State) : Host.Outcome State Fault Refusal :=
  .next (carryOut .campRead 0x54 campReadBody s)

/-! ### CAMPAIGN_CLOCK_SECOND (R137) -/

/-- The end of a second: the clock increases by one, and stays at its limit (R137). -/
def clockSecond (s : State) : State :=
  { s with clock := min Config.maxClock (s.clock + 1), clockPart := 0 }

/-- CAMPAIGN_CLOCK_SECOND, when a whole second has passed while RUNNING (R137, R138). -/
def execCampaignClockSecond (s : State) : Host.Outcome State Fault Refusal :=
  .next (unlessReset (atEnd s.secondOver clockSecond) s)

end Sys2Proof.Machine
end

