-- ==== Sys2Proof/Machine/Placement.lean ====
section
/-!
DEFINITION. Placement verdicts (chapter 4): the judgement of a confirmed tag against a walk, the
loan conflict and the mark, parking, the drain, and the close of a revision that starts it.
-/

namespace Sys2Proof.Machine

/-! ### What a judgement gives -/

/-- A judgement's verdict with the flags MARK and BROKEN, before WATCH and LOAN (R92). -/
structure Placed where
  state : State
  verdict : Verdict
  mark : Bool
  broken : Bool

/-- The outcome of a judgement (R92); the WATCH flag is the confirmation's (R156). -/
structure Judged where
  state : State
  outcome : Sighting

/-- An outcome with no flag. -/
def Sighting.plain (t : Tag) (v : Verdict) (S : Option SecId) : Sighting :=
  ⟨t, v, false, false, false, false, S⟩

/-! ### The mark (R90) -/

/-- A judgement raises the cursor of a walk from `c.cursor` to `new`; the mark is reached if the
cursor crosses it and the mark-hit flag is clear (R90). -/
def State.raiseCursor (s : State) (x : CtxId) (c : Context) (new : Nat) : State × Bool :=
  let reached := !c.markHit && (s.sec c.sec).mark.any fun m => c.cursor < m && m ≤ new
  let t := s.modCtx x fun d => { d with cursor := new, markHit := d.markHit || reached }
  (if reached then t.raise .markReached else t, reached)

/-! ### Moving a record (R79) -/

/-- A record leaves its former place: the chain of its section of finding if it is a stray or
provisional, the run list of its home's walk if it is HELD (R79). -/
def State.leavePlace (s : State) (r : Item) : State :=
  if r.count = .elsewhere ∨ r.count = .unlisted then s.leaveChainOf r.foundIn r.tag
  else if r.count = .held then
    match r.home.bind fun H => (s.sec H).context with
    | some x => s.modCtx x fun c => { c with run := c.run.filter fun u => u ≠ r.tag }
    | none => s
  else s

/-- The section whose chain a record leaves, if it stands on one (R79). -/
def Item.chainSec (r : Item) : Option SecId :=
  if r.count = .elsewhere ∨ r.count = .unlisted then r.foundIn else none

/-! ### Tags that no shelf-list names (R76 to R78) -/

/-- The provisional record of an unknown tag found in a walk of S (R76). -/
def provisional (t : Tag) (S : SecId) (pos time : Nat) : Item where
  tag := t
  home := none
  circ := none
  count := .unlisted
  found := some ⟨S, pos, time⟩
  prior := none
  sight := 1
  moved := false
  conflict := false

/-- ADOPT_DUE is raised when a creation leaves the unlisted count at or above the adopt threshold
(R7). -/
def State.adoptDue (s : State) : State :=
  if s.settings.adoptThreshold ≤ s.unlisted then s.raise .adoptDue else s

/-- Test 2: no record carries the tag (R76, R77). -/
def judgeUnknown (c : Context) (t : Tag) (s : State) : Judged :=
  if Config.maxItems ≤ s.items.length then
    ⟨s.raise .tableFull, Sighting.plain t .tableFull none⟩
  else
    ⟨((((s.addItem (provisional t c.sec c.cursor s.clock)).joinChain c.sec t).attend c.sec).bump
        c.sec).adoptDue,
      Sighting.plain t .unlisted none⟩

/-- Test 3: the record is UNLISTED (R78). -/
def judgeProvisional (c : Context) (r : Item) (s : State) : Judged :=
  if r.foundIn = some c.sec then
    ⟨s.modItem r.tag Item.sighted, Sighting.plain r.tag .repeated none⟩
  else
    let t := (s.leavePlace r).modItem r.tag fun q =>
      { q.sighted with moved := true, found := some ⟨c.sec, c.cursor, s.clock⟩ }
    let t := (t.joinChain c.sec r.tag).attend c.sec
    ⟨t.bumpWhere fun X => X = c.sec || some X = r.chainSec, Sighting.plain r.tag .unlisted none⟩

/-! ### The loan conflict (R89) -/

/-- A judgement of an item whose circulation is LOAN newly marks a loan conflict. -/
def Item.newConflict (r : Item) : Bool := r.circ = some .loan && !r.conflict

/-- Set the loan conflict flag of a judged LOAN item, and the attention of the section in which it
was sighted (R89). The bump of its home is the caller's. -/
def State.markConflict (s : State) (r : Item) (S : SecId) : State :=
  if r.newConflict then (s.modItem r.tag fun q => { q with conflict := true }).attend S else s

/-! ### Strays from other sections (R80, R81) -/

/-- The count state is a found state. -/
def CountState.isFound (c : CountState) : Bool :=
  c = .held || c = .inPlace || c = .disordered || c = .elsewhere

/-- Test 4: the record's home H is a section other than the walked one (R80, R81). -/
def judgeForeign (c : Context) (H : SecId) (r : Item) (s : State) : Judged :=
  if r.count = .elsewhere ∧ r.foundIn = some c.sec then
    let t := (s.modItem r.tag Item.sighted).markConflict r c.sec
    ⟨if r.newConflict then t.bump H else t,
      { Sighting.plain r.tag .repeated (some H) with loan := r.circ = some .loan }⟩
  else
    let t := (s.leavePlace r).modItem r.tag fun q =>
      { q.sighted with
        moved := q.moved || r.count.isFound
        count := .elsewhere
        found := some ⟨c.sec, c.cursor, s.clock⟩
        prior := none }
    let t := ((t.joinChain c.sec r.tag).attend c.sec).markConflict r c.sec
    ⟨t.bumpWhere fun X => X = c.sec || X = H || some X = r.chainSec,
      { Sighting.plain r.tag .foreign (some H) with loan := r.circ = some .loan }⟩

/-! ### Items at home (R82 to R88) -/

/-- Test 5: a re-sighting at home (R82). -/
def judgeAgain (c : Context) (r : Item) (s : State) : Judged :=
  let t := (s.modItem r.tag Item.sighted).markConflict r c.sec
  ⟨if r.newConflict then t.bump c.sec else t,
    { Sighting.plain r.tag .repeated (some c.sec) with loan := r.circ = some .loan }⟩

/-- UNSEEN home items of a section among some tags become PASSED (R85, R87). -/
def State.passItems (s : State) (S : SecId) (tags : List Tag) : State :=
  s.modItems (fun r => r.isHomeOf S && r.count = .unseen && decide (r.tag ∈ tags))
    fun r => { r with count := .passed }

/-- The item enters a count state at home with its found fields written: found-in the walked
section, found position the cursor when the judgement was taken, found time the clock; prior state
only on entering HELD (R83). -/
def State.findAtHome (s : State) (c : Context) (t : Tag) (st : CountState)
    (prior : Option CountState) : State :=
  s.modItem t fun q =>
    { q with count := st, found := some ⟨c.sec, c.cursor, s.clock⟩, prior := prior }

/-- Step B: the item is judged against the cursor, the run being empty (R87, R88). -/
def stepB (x : CtxId) (c : Context) (t : Tag) (prior : CountState) (broken : Bool) (s : State) :
    Placed :=
  let k := s.ordinal c.sec t
  let T := (s.sec c.sec).tolerance
  if c.cursor ≤ k then
    if k - c.cursor ≤ T then
      let u := (s.findAtHome c t .inPlace none).passItems c.sec (s.span c.sec c.cursor k)
      let (u, mark) := u.raiseCursor x c (k + 1)
      ⟨u, .inPlace, mark, broken⟩
    else
      ⟨(s.findAtHome c t .held (some prior)).modCtx x fun d => { d with run := [t] },
        .pending, false, broken⟩
  else if c.cursor - 1 - k ≤ T then ⟨s.findAtHome c t .inPlace none, .inPlace, false, broken⟩
  else ⟨(s.findAtHome c t .disordered none).attend c.sec, .disordered, false, broken⟩

/-- The resync: the run is accepted as the walk's new position, `k` being its last entry's ordinal
(R85). -/
def resync (x : CtxId) (c : Context) (run : List Tag) (k : Nat) (s : State) : Placed :=
  let u := s.passItems c.sec (s.span c.sec c.cursor (k + 1))
  let u := u.modItems (fun r => r.tag ∈ run) fun r => { r with count := .inPlace, prior := none }
  let (u, mark) := (u.modCtx x fun d => { d with run := [] }).raiseCursor x c (k + 1)
  ⟨u, .resync, mark, false⟩

/-- Step A, a continuation: the item is appended to the run as HELD, and a run that has reached the
resync length resyncs (R84, R85). -/
def continueRun (x : CtxId) (c : Context) (t : Tag) (prior : CountState) (s : State) : Placed :=
  let run := c.run ++ [t]
  let u := (s.findAtHome c t .held (some prior)).modCtx x fun d => { d with run := run }
  if run.length < s.settings.resyncLength then ⟨u, .pending, false, false⟩
  else resync x c run (s.ordinal c.sec t) u

/-- A broken run: every entry becomes DISORDERED, the run list is emptied and attention set (R86). -/
def State.breakRun (s : State) (x : CtxId) (c : Context) : State :=
  let t := s.modItems (fun r => r.tag ∈ c.run) fun r =>
    { r with count := .disordered, prior := none }
  (t.modCtx x fun d => { d with run := [] }).attend c.sec

/-- Step A or Step B for a fresh home item (R83, R84, R86). -/
def placeFresh (x : CtxId) (c : Context) (t : Tag) (prior : CountState) (s : State) : Placed :=
  match c.run.getLast? with
  | none => stepB x c t prior false s
  | some last =>
    let j := s.ordinal c.sec last
    let k := s.ordinal c.sec t
    if j < k ∧ k ≤ j + (s.sec c.sec).tolerance + 1 then continueRun x c t prior s
    else stepB x { c with run := [] } t prior true (s.breakRun x c)

/-- Test 6: a home item judged afresh; a stray is first withdrawn from its chain (R83). -/
def judgeFresh (x : CtxId) (c : Context) (r : Item) (s : State) : Judged :=
  let stray := r.count = .elsewhere
  let u := (s.leavePlace r).modItem r.tag fun q => { q.sighted with moved := q.moved || stray }
  let p := placeFresh x c r.tag (if stray then .unseen else r.count) u
  let u := (p.state.markConflict r c.sec).bumpWhere fun X => X = c.sec || some X = r.chainSec
  ⟨u, ⟨r.tag, p.verdict, false, r.circ = some .loan, p.mark, p.broken, some c.sec⟩⟩

/-! ### The judgement (R71) -/

/-- The judgement of a confirmed tag against the walk `c` of context `x`: the six tests in their
order (R71, 4.1). -/
def judgeWalk (x : CtxId) (c : Context) (t : Tag) (s : State) : Judged :=
  if (s.sec c.sec).endMarker = some t then
    ⟨s.completeWalk x c, Sighting.plain t .marker (some c.sec)⟩
  else
    match s.item? t with
    | none => judgeUnknown c t s
    | some r =>
      match r.home with
      | none => judgeProvisional c r s
      | some H =>
        if H ≠ c.sec then judgeForeign c H r s
        else if r.count = .inPlace ∨ r.count = .disordered ∨ r.count = .held then judgeAgain c r s
        else judgeFresh x c r s

/-- The judgement against the walk that a context holds (R71). -/
def judge (x : CtxId) (t : Tag) (s : State) : Judged :=
  match s.ctx x with
  | some c => judgeWalk x c t s
  | none => ⟨s, Sighting.plain t .roaming none⟩

/-! ### The drain (R95 to R98) -/

/-- What a drain has come to: the state, the park queue entries applied, and whether it goes on (a
judged end marker ends it, R97). -/
structure Drained where
  state : State
  applied : Nat
  goesOn : Bool

/-- The park queue's entries taken from the head, each removed and judged (R95, step 1). -/
def drainPark (x : CtxId) : List Tag → State → Drained
  | [], s => ⟨s, 0, true⟩
  | t :: rest, s =>
    let j := judge x t (s.modCtx x fun c => { c with park := rest })
    if j.outcome.verdict = .marker then ⟨j.state, 1, false⟩
    else
      let d := drainPark x rest j.state
      { d with applied := d.applied + 1 }

/-- An entry's confirmation sequence (R27). -/
def Entry.conf : Entry → Nat
  | .confirmed _ _ _ f => f
  | .waiting _ _ f => f
  | _ => 0

/-- Insert a position into a list that rises by confirmation sequence. -/
def insertByConf (t : CandTable) (i : Fin 24) : List (Fin 24) → List (Fin 24)
  | [] => [i]
  | j :: rest =>
    if t.entries[i].conf < t.entries[j].conf then i :: j :: rest else j :: insertByConf t i rest

/-- The positions of a table's WAITING entries in ascending confirmation sequence (R40). -/
def CandTable.waitingOrder (t : CandTable) : List (Fin 24) :=
  ((List.finRange 24).filter fun i => t.entries[i].isWaiting).foldr (insertByConf t) []

/-- The walker's WAITING entries taken in order: each is made CONFIRMED and its tag judged (R40, R95,
step 2). -/
def drainWaiting (x : CtxId) (w : Wand) : List (Fin 24) → State → State
  | [], s => s
  | i :: rest, s =>
    let t := s.table w
    match t.entries[i] with
    | .waiting tag a f =>
      let s' := s.setTable w { t with
        entries := t.entries.set i (.confirmed tag s.settings.holdTicks a f) }
      let j := judge x tag s'
      if j.outcome.verdict = .marker then j.state else drainWaiting x w rest j.state
    | _ => drainWaiting x w rest s

/-- The drain of a walk (R95): the park queue, and then, if the walk is WALKING, the walker's WAITING
entries. -/
def State.drain (s : State) (x : CtxId) (c : Context) : State × Nat :=
  let d := drainPark x c.park s
  if d.goesOn then
    match c.walker with
    | some w => (drainWaiting x w (d.state.table w).waitingOrder d.state, d.applied)
    | none => (d.state, d.applied)
  else (d.state, d.applied)

/-- The close of a section's revision: the flag, EMPTY to READY, the bumps, and the drain; the number
of park queue entries applied (R16). -/
def State.closeRevision (s : State) (S : SecId) : State × Nat :=
  let t := (s.modSec S fun r => { r with revision := none }).bump S
  let t := if (s.sec S).state = .empty then t.enter S .ready else t
  match (s.sec S).context with
  | none => (t, 0)
  | some x =>
    match s.ctx x with
    | none => (t, 0)
    | some c => t.drain x c

end Sys2Proof.Machine
end

