-- ==== Sys2Proof/Machine/Circulation.lean ====
section
/-!
DEFINITION. Circulation and reshelving (chapter 6): the meanings of CIRC_OUT, CIRC_IN, ITEM_CLEAR,
SHELVED and WHERE.
-/

namespace Sys2Proof.Machine

/-! ### Circulation notices (R121 to R123) -/

/-- The item's finding is open to a circulation notice: UNSEEN, PASSED or NOT_FOUND (R121, R122). -/
def Item.openToNotice (r : Item) : Bool :=
  r.count = .unseen || r.count = .passed || r.count = .notFound

/-- A notice moves an unfound item to DESK, except while the campaign is CLOSED (R121 to R123). -/
def State.noticeMoves (s : State) (r : Item) : Bool := s.campaign ≠ .closed && r.openToNotice

/-- The count state of a record after a notice (R121 to R123). -/
def State.noticeCount (s : State) (r : Item) : CountState :=
  if s.noticeMoves r then .desk else r.count

/-- CIRC_OUT's effect on a home item of H (R121, R123). -/
def State.lend (s : State) (H : SecId) (r : Item) : State :=
  let t := s.modItem r.tag fun q => { q with circ := some .loan, count := s.noticeCount r }
  if s.noticeMoves r then t.bump H else t

/-- The processing of CIRC_OUT (R121, R123). -/
def circOutBody (t : Tag) (s : State) : Reply :=
  match s.item? t with
  | none => s.refuse .noItem
  | some r =>
    match r.home with
    | none => s.refuse .noHome
    | some H =>
      (s.lend H r).done [.sec H, .count (s.noticeCount r), .flag (s.noticeMoves r)]

/-- CIRC_OUT (R121, R123). -/
def execCircOut (t : Tag) (s : State) : Host.Outcome State Fault Refusal :=
  .next (carryOut (.circOut t) 0x40 (circOutBody t) s)

/-- A return clears the loan conflict flag, except while the campaign is CLOSED (R122, R123). -/
def State.noticeSettles (s : State) (r : Item) : Bool := s.campaign ≠ .closed && r.conflict

/-- CIRC_IN's effect on a home item of H (R122, R123). -/
def State.takeBack (s : State) (H : SecId) (r : Item) : State :=
  let t := s.modItem r.tag fun q =>
    { q with
      circ := some .shelf
      count := s.noticeCount r
      conflict := r.conflict && !s.noticeSettles r }
  if s.noticeMoves r || s.noticeSettles r then t.bump H else t

/-- The processing of CIRC_IN (R122, R123). -/
def circInBody (t : Tag) (s : State) : Reply :=
  match s.item? t with
  | none => s.refuse .noItem
  | some r =>
    match r.home with
    | none => s.refuse .noHome
    | some H =>
      (s.takeBack H r).done
        [.sec H, .count (s.noticeCount r), .flag (s.noticeMoves r), .flag r.conflict]

/-- CIRC_IN (R122, R123). -/
def execCircIn (t : Tag) (s : State) : Host.Outcome State Fault Refusal :=
  .next (carryOut (.circIn t) 0x41 (circInBody t) s)

/-! ### ITEM_CLEAR (R128) -/

/-- ITEM_CLEAR's effect (R128). -/
def State.clearFlags (s : State) (r : Item) : State :=
  let t := s.modItem r.tag fun q => { q with moved := false, conflict := false }
  match r.home with
  | some H => if r.moved || r.conflict then t.bump H else t
  | none => t

/-- The processing of ITEM_CLEAR (R128). -/
def itemClearBody (t : Tag) (s : State) : Reply :=
  match s.item? t with
  | none => s.refuse .noItem
  | some r => (s.clearFlags r).done [.flag r.moved, .flag r.conflict]

/-- ITEM_CLEAR (R128). -/
def execItemClear (t : Tag) (s : State) : Host.Outcome State Fault Refusal :=
  .next (carryOut (.itemClear t) 0x42 (itemClearBody t) s)

/-! ### SHELVED (R129, R130) -/

/-- SHELVED's effect on a home item of H that is not HELD (R130). -/
def State.shelve (s : State) (H : SecId) (r : Item) : State :=
  let t := (s.leavePlace r).modItem r.tag fun q =>
    { q with count := .inPlace, found := some ⟨H, s.ordinal H r.tag, s.clock⟩, prior := none }
  t.bumpWhere fun X => (X = H && r.count ≠ .inPlace) || some X = r.chainSec

/-- The processing of SHELVED, its checks in the order of R129. -/
def shelvedBody (t : Tag) (s : State) : Answer :=
  if s.campaign = .stopped ∨ s.campaign = .closed then s.reply .notRunning []
  else
    match s.item? t with
    | none => s.reply .noItem []
    | some r =>
      match r.home with
      | none => s.reply .noHome []
      | some H =>
        if r.count = .held then s.reply .heldItem []
        else ⟨s.shelve H r, .ok, [.sec H, .num16 (s.ordinal H t), .count r.count]⟩

/-- SHELVED (R129, R130, R186). -/
def execShelved (w : Wand) (t : Tag) (s : State) : Host.Outcome State Fault Refusal :=
  .next (takeFrame (.shelved w t) w 0x06 (unlessPaused (shelvedBody t)) s)

/-! ### WHERE (R132, R133) -/

/-- The tag at the ordinal below one, absent at ordinal 0 (R132). -/
def State.tagBelow (s : State) (H : SecId) (k : Nat) : Option Tag :=
  if k = 0 then none else (s.sec H).expected[k - 1]?

/-- The processing of WHERE, in every campaign state (R132, R133, R185). -/
def whereBody (t : Tag) (s : State) : Answer :=
  match s.item? t with
  | none => s.reply .noItem []
  | some r =>
    match r.home with
    | none => s.reply .noHome [.secOpt r.foundIn]
    | some H =>
      let k := s.ordinal H t
      s.reply .ok [.sec H, .num16 k, .count r.count, .tagOpt (s.tagBelow H k),
        .tagOpt (s.sec H).expected[k + 1]?]

/-- WHERE (R132, R133, R185). -/
def execWhereIs (w : Wand) (t : Tag) (s : State) : Host.Outcome State Fault Refusal :=
  .next (takeFrame (.whereIs w t) w 0x05 (whereBody t) s)

end Sys2Proof.Machine
end

