-- ==== Sys2Proof/Machine/Watch.lean ====
section
/-!
DEFINITION. The watch table (chapter 8): matching a confirmation, recording a hit, and the meanings
of WATCH_SET, WATCH_CLEAR, WATCH_READ, WATCH_NEXT and WATCH_ACK.
-/

namespace Sys2Proof.Machine

/-! ### Matching (R151 to R156) -/

/-- A tag matches an entry's pattern: it agrees with the value wherever the mask holds 1 (R151). -/
def WatchEntry.matchesTag (e : WatchEntry) (t : Tag) : Bool := (t ^^^ e.value) &&& e.mask = 0

/-- An entry qualifies for a confirmed tag: it is valid and the tag matches (R153). -/
def WatchEntry.qualifies (e : WatchEntry) (t : Tag) : Bool := e.valid && e.matchesTag t

/-- The winning entry: the qualifying entry of lowest class, and of lowest index within it (R153). -/
def State.watchWinner (s : State) (t : Tag) : Option WatchId :=
  (List.finRange 4).findSome? fun cls =>
    (List.finRange 16).find? fun i => s.watch[i].qualifies t && s.watch[i].cls = cls

/-- A hit recorded in the winning entry, which a one-shot hit invalidates (R154, R155). -/
def WatchEntry.hit (e : WatchEntry) (w : Wand) (S : Option SecId) (time : Nat) : WatchEntry :=
  { e with
    hits := min 255 (e.hits + 1)
    hitPending := true
    last := some ⟨w, S, time⟩
    valid := e.valid && !e.oneShot }

/-- A confirmation's match: the winner, if there is one, takes the hit and WATCH_HIT is raised; the
flag says whether the outcome carries WATCH (R152 to R156). -/
def State.matchWatch (s : State) (w : Wand) (t : Tag) : State × Bool :=
  match s.watchWinner t with
  | none => (s, false)
  | some i =>
    (({ s with watch := s.watch.set i (s.watch[i].hit w (s.walkedSec w) s.clock) }).raise .watchHit,
      true)

/-! ### Requests (R157 to R161) -/

/-- Run a watch request on the entry an index names, or refuse BAD_REQUEST (R157 to R161). -/
def onWatch (x : Nat) (body : WatchId → WatchEntry → State → Reply) (s : State) : Reply :=
  match idOf x with
  | none => s.refuse .badRequest
  | some i => body i s.watch[i] s

def State.setWatch (s : State) (i : WatchId) (e : WatchEntry) : State :=
  { s with watch := s.watch.set i e }

/-- A class above 3 is written as 3 (R157). -/
def clampClass (c : Nat) : Fin 4 := if h : c < 4 then ⟨c, h⟩ else 3

/-- The processing of WATCH_SET (R157). -/
def watchSetBody (x : Nat) (value mask : Tag) (cls : Nat) (oneShot : Bool) : State → Reply :=
  onWatch x fun i e s =>
    (s.setWatch i
      { valid := true, value := value, mask := mask, cls := clampClass cls, oneShot := oneShot,
        hits := 0, hitPending := false, last := none }).doneClamped (3 < cls)
      [.flag e.valid, .flag e.hitPending]

/-- WATCH_SET (R157). -/
def execWatchSet (x : Nat) (value mask : Tag) (cls : Nat) (oneShot : Bool) (s : State) :
    Host.Outcome State Fault Refusal :=
  .next (carryOut (.watchSet x value mask cls oneShot) 0x60
    (watchSetBody x value mask cls oneShot) s)

/-- The processing of WATCH_CLEAR (R158). -/
def watchClearBody (x : Nat) : State → Reply :=
  onWatch x fun i e s => (s.setWatch i { e with valid := false }).done [.flag e.valid]

/-- WATCH_CLEAR (R158). -/
def execWatchClear (x : Nat) (s : State) : Host.Outcome State Fault Refusal :=
  .next (carryOut (.watchClear x) 0x61 (watchClearBody x) s)

/-- A watch entry's fields as WATCH_READ returns them (R159). Of an absent last hit the section bytes are
FFFFH, as for a roaming hit (DESIGN CHOICE, notes/assumptions/26.md), and the time bytes are free
(notes/assumptions/9.md). -/
def WatchEntry.fields (e : WatchEntry) : List Field :=
  [.flag e.valid, .tag e.value, .tag e.mask, .num8 e.cls.val, .flag e.oneShot, .num8 e.hits,
    .flag e.hitPending, .num8Opt (e.last.map fun l => l.wand.val),
    .secOpt (e.last.bind fun l => l.sec), .time (e.last.map fun l => l.time)]

/-- The processing of WATCH_READ (R159). -/
def watchReadBody (x : Nat) : State → Reply := onWatch x fun _ e s => s.done e.fields

/-- WATCH_READ (R159). -/
def execWatchRead (x : Nat) (s : State) : Host.Outcome State Fault Refusal :=
  .next (carryOut (.watchRead x) 0x62 (watchReadBody x) s)

/-- The lowest index whose hit pending flag is set (R160). -/
def State.pendingHit (s : State) : Option WatchId :=
  (List.finRange 16).find? fun i => s.watch[i].hitPending

/-- The processing of WATCH_NEXT (R160). -/
def watchNextBody (s : State) : Reply := s.done [.num8Opt (s.pendingHit.map Fin.val)]

/-- WATCH_NEXT (R160). -/
def execWatchNext (s : State) : Host.Outcome State Fault Refusal :=
  .next (carryOut .watchNext 0x63 watchNextBody s)

/-- The processing of WATCH_ACK (R161). -/
def watchAckBody (x : Nat) : State → Reply :=
  onWatch x fun i e s => (s.setWatch i { e with hitPending := false }).done [.flag e.hitPending]

/-- WATCH_ACK (R161). -/
def execWatchAck (x : Nat) (s : State) : Host.Outcome State Fault Refusal :=
  .next (carryOut (.watchAck x) 0x64 (watchAckBody x) s)

end Sys2Proof.Machine
end

