-- ==== Sys2Proof/Machine/Confirmation.lean ====
section
/-!
DEFINITION. Tag confirmation (chapter 2): reads, eviction, confirmation and its delivery, and the
meanings of SIGHT and DECAY_TICK.
-/

namespace Sys2Proof.Machine

/-! ### The candidate table (R28 to R31) -/

/-- The weight of a read (R28). -/
def Settings.weight (k : Settings) (strength : Byte) : Nat := strength.toNat - k.readFloor

/-- The position of the entry that holds a tag (R25). -/
def CandTable.position? (t : CandTable) (tag : Tag) : Option (Fin 24) :=
  (List.finRange 24).find? fun i => t.entries[i].tag? = some tag

/-- The FREE entry at the lowest position (R30). -/
def CandTable.lowestFree (t : CandTable) : Option (Fin 24) :=
  (List.finRange 24).find? fun i => t.entries[i] = .free

/-- What eviction compares of a GATHERING entry: its score, then its allocation sequence (R31). -/
def Entry.gatheringKey : Entry → Option (Nat × Nat)
  | .gathering _ score a => some (score, a)
  | _ => none

/-- What eviction compares of a CONFIRMED entry: its hold, then its allocation sequence (R31). -/
def Entry.confirmedKey : Entry → Option (Nat × Nat)
  | .confirmed _ hold a _ => some (hold, a)
  | _ => none

/-- One key comes before another: lower first part, or equal and lower second part. -/
def keyBefore (a b : Nat × Nat) : Bool := a.1 < b.1 || (a.1 = b.1 && a.2 < b.2)

/-- The position with the least key among some positions. -/
def leastKey (key : Fin 24 → Option (Nat × Nat)) : List (Fin 24) → Option (Fin 24 × Nat × Nat)
  | [] => none
  | i :: rest =>
    match key i, leastKey key rest with
    | none, best => best
    | some k, none => some (i, k)
    | some k, some (j, kj) => if keyBefore kj k then some (j, kj) else some (i, k)

/-- The entry to evict when no entry is FREE (R31): the GATHERING entry of lowest score, else the
CONFIRMED entry of lowest hold, ties by allocation sequence, else none. -/
def CandTable.victim (t : CandTable) : Option (Fin 24) :=
  match leastKey (fun i => t.entries[i].gatheringKey) (List.finRange 24) with
  | some (i, _) => some i
  | none => (leastKey (fun i => t.entries[i].confirmedKey) (List.finRange 24)).map fun q => q.1

/-- The position a new tag is allocated: the lowest FREE one, else the evicted one (R30, R31). -/
def CandTable.room (t : CandTable) : Option (Fin 24) := t.lowestFree.or t.victim

/-- A position allocated to a tag: GATHERING with the read's weight and the next allocation sequence
number (R30). -/
def CandTable.allocate (t : CandTable) (i : Fin 24) (tag : Tag) (weight : Nat) : CandTable :=
  { t with
    entries := t.entries.set i (.gathering tag weight t.nextAlloc)
    nextAlloc := t.nextAlloc + 1 }

/-- A position confirmed: CONFIRMED, with its hold set and the next confirmation sequence number
(R35). -/
def CandTable.confirm (t : CandTable) (i : Fin 24) (tag : Tag) (alloc hold : Nat) : CandTable :=
  { t with
    entries := t.entries.set i (.confirmed tag hold alloc t.nextConf)
    nextConf := t.nextConf + 1 }

/-- A CONFIRMED entry that the walk could not take becomes WAITING (R38). -/
def Entry.wait : Entry → Entry
  | .confirmed tag _ a f => .waiting tag a f
  | e => e

/-- The entry at a position of a wand's table made WAITING (R38). -/
def State.deferEntry (s : State) (w : Wand) (i : Fin 24) : State :=
  let t := s.table w
  s.setTable w { t with entries := t.entries.set i t.entries[i].wait }

/-! ### Delivery (R36 to R38) -/

/-- A confirmation delivered according to what the wand is doing (R36): judged, parked, deferred or
roaming. -/
def State.deliver (s : State) (w : Wand) (i : Fin 24) (tag : Tag) : Judged :=
  match s.walkOf w with
  | none => ⟨s, Sighting.plain tag .roaming ((s.item? tag).bind fun r => r.home)⟩
  | some x =>
    match s.ctx x with
    | none => ⟨s, Sighting.plain tag .roaming ((s.item? tag).bind fun r => r.home)⟩
    | some c =>
      if (s.sec c.sec).revision.isNone then judgeWalk x c tag s
      else if c.park.length < Config.maxPark then
        ⟨s.modCtx x fun d => { d with park := d.park ++ [tag] }, Sighting.plain tag .parked none⟩
      else ⟨s.deferEntry w i, Sighting.plain tag .deferred none⟩

/-- The entry at a position confirms: CONFIRMED, then the watch table, then its delivery
(R35, R36). -/
def State.confirmEntry (s : State) (w : Wand) (i : Fin 24) (tag : Tag) (alloc : Nat) : Judged :=
  let t := s.setTable w ((s.table w).confirm i tag alloc s.settings.holdTicks)
  let (t, hit) := t.matchWatch w tag
  let j := t.deliver w i tag
  ⟨j.state, { j.outcome with watch := hit }⟩

/-! ### Reads (R28 to R32) -/

/-- What one read gives: the state, its outcome if it confirmed, and whether it was discarded because
every entry is WAITING (R31, R32). -/
structure ReadDone where
  state : State
  outcome : Option Sighting
  saturated : Bool

/-- A read that adds to no confirmation. -/
def State.quiet (s : State) : ReadDone := ⟨s, none, false⟩

/-- A confirmation as a read gives it. -/
def Judged.asRead (j : Judged) : ReadDone := ⟨j.state, some j.outcome, false⟩

/-- A read of positive weight for a tag the table holds (R29). -/
def readHeld (w : Wand) (i : Fin 24) (weight : Nat) (s : State) : ReadDone :=
  let t := s.table w
  match t.entries[i] with
  | .gathering tag score a =>
    let score' := min Config.maxScore (score + weight)
    if s.settings.confirmThreshold ≤ score' then (s.confirmEntry w i tag a).asRead
    else (s.setTable w { t with entries := t.entries.set i (.gathering tag score' a) }).quiet
  | .confirmed tag _ a f =>
    (s.setTable w { t with
      entries := t.entries.set i (.confirmed tag s.settings.holdTicks a f) }).quiet
  | .waiting _ _ _ => s.quiet
  | .free => s.quiet

/-- A read of positive weight for a tag the table does not hold (R30, R31). -/
def readNew (w : Wand) (tag : Tag) (weight : Nat) (s : State) : ReadDone :=
  let t := s.table w
  match t.room with
  | none => ⟨s.raise .filterSaturated, none, true⟩
  | some i =>
    let u := s.setTable w (t.allocate i tag weight)
    if s.settings.confirmThreshold ≤ weight then (u.confirmEntry w i tag t.nextAlloc).asRead
    else u.quiet

/-- One read applied to the wand's table (R28). -/
def readOne (w : Wand) (r : TagRead) (s : State) : ReadDone :=
  let weight := s.settings.weight r.strength
  if weight = 0 then s.quiet
  else
    match (s.table w).position? r.tag with
    | some i => readHeld w i weight s
    | none => readNew w r.tag weight s

/-- What the reads of a frame give: the state, the outcomes in order, the saturated count (R32). -/
structure ReadsDone where
  state : State
  outcomes : List Sighting
  saturated : Nat

/-- The reads of a frame applied in their order, each against the table as the reads before it left
it (R32). -/
def readAll (w : Wand) : List TagRead → State → ReadsDone
  | [], s => ⟨s, [], 0⟩
  | r :: rest, s =>
    let d := readOne w r s
    let e := readAll w rest d.state
    ⟨e.state, d.outcome.toList ++ e.outcomes, (if d.saturated then 1 else 0) + e.saturated⟩

/-! ### SIGHT (R181) -/

/-- The processing of SIGHT: BAD_FRAME for a read count of 0 or above 8 (R181). -/
def sightBody (w : Wand) (reads : List TagRead) (s : State) : Answer :=
  if reads.length = 0 ∨ Config.maxReads < reads.length then s.reply .badFrame []
  else
    let d := readAll w reads s
    ⟨d.state, .ok, .num8 d.saturated :: listFields (d.outcomes.map fun o => [.sighting o])⟩

/-- SIGHT (R32, R181, R211). -/
def execSight (w : Wand) (reads : List TagRead) (s : State) : Host.Outcome State Fault Refusal :=
  .next (takeFrame (.sight w reads) w 0x02 (unlessPaused (sightBody w reads)) s)

/-! ### DECAY_TICK (R33) -/

/-- What a decay tick makes of an entry (R33). -/
def Entry.decay : Entry → Entry
  | .gathering tag score a => if score / 2 = 0 then .free else .gathering tag (score / 2) a
  | .confirmed tag hold a f => if hold - 1 = 0 then .free else .confirmed tag (hold - 1) a f
  | .waiting tag a f => .waiting tag a f
  | .free => .free

/-- A table after a decay tick (R33). -/
def CandTable.decay (t : CandTable) : CandTable :=
  { t with entries := tabulate 24 fun i => t.entries[i].decay }

/-- The expiry of the decay tick: all sixteen tables decay and the timer is loaded with the setting's
current value (R33). -/
def decayAll (s : State) : State :=
  { s with
    tables := tabulate 16 fun w => (s.table w).decay
    decayLeft := s.settings.decayTick }

/-- DECAY_TICK, when no time remains; no expiry is taken while PAUSED (R33, R138). -/
def execDecayTick (s : State) : Host.Outcome State Fault Refusal :=
  .next (unlessReset (atEnd s.decayOver decayAll) s)

end Sys2Proof.Machine
end

