-- ==== Sys2Proof/Machine/Events.lean ====
section
/-!
DEFINITION. The event unit and the settings (11.4, 11.5): the meanings of EVT_CLEAR, EVT_FORCE,
EVT_ENABLE, EVT_ROUTE, EVT_READ, SET_WRITE and SET_READ.
-/

namespace Sys2Proof.Machine

/-! ### The event unit (R201 to R205) -/

/-- Run an event request on the set of kinds it carries; a set that names a kind that does not exist
is refused (R201 to R204). -/
def onKinds (k : BitVec 16) (former : EventUnit → KindSet)
    (write : KindSet → EventUnit → EventUnit) (s : State) : Reply :=
  match kindsOf k with
  | none => s.refuse .badRequest
  | some k => ({ s with events := write k s.events } : State).done [.kinds (former s.events)]

/-- The processing of EVT_CLEAR (R201). -/
def evtClearBody (k : BitVec 16) : State → Reply :=
  onKinds k EventUnit.raw fun k e => { e with raw := e.raw &&& ~~~k }

/-- EVT_CLEAR (R201). -/
def execEvtClear (k : BitVec 16) (s : State) : Host.Outcome State Fault Refusal :=
  .next (carryOut (.evtClear k) 0x90 (evtClearBody k) s)

/-- The processing of EVT_FORCE (R202). -/
def evtForceBody (k : BitVec 16) : State → Reply :=
  onKinds k EventUnit.raw fun k e => { e with raw := e.raw ||| k }

/-- EVT_FORCE (R202). -/
def execEvtForce (k : BitVec 16) (s : State) : Host.Outcome State Fault Refusal :=
  .next (carryOut (.evtForce k) 0x91 (evtForceBody k) s)

/-- The processing of EVT_ENABLE (R203). -/
def evtEnableBody (k : BitVec 16) : State → Reply :=
  onKinds k EventUnit.enable fun k e => { e with enable := k }

/-- EVT_ENABLE (R203). -/
def execEvtEnable (k : BitVec 16) (s : State) : Host.Outcome State Fault Refusal :=
  .next (carryOut (.evtEnable k) 0x92 (evtEnableBody k) s)

/-- The processing of EVT_ROUTE (R204). -/
def evtRouteBody (k : BitVec 16) : State → Reply :=
  onKinds k EventUnit.urgent fun k e => { e with urgent := k }

/-- EVT_ROUTE (R204). -/
def execEvtRoute (k : BitVec 16) (s : State) : Host.Outcome State Fault Refusal :=
  .next (carryOut (.evtRoute k) 0x93 (evtRouteBody k) s)

/-- The processing of EVT_READ (R205). -/
def evtReadBody (s : State) : Reply :=
  s.done
    [.kinds s.events.raw, .kinds s.events.enable, .kinds s.events.masked, .kinds s.events.urgent,
      .flag s.events.attnLine, .flag s.events.urgentLine]

/-- EVT_READ (R205). -/
def execEvtRead (s : State) : Host.Outcome State Fault Refusal :=
  .next (carryOut .evtRead 0x94 evtReadBody s)

/-! ### Settings (R207, R208) -/

/-- A value brought within a range. -/
def clampTo (lo hi v : Nat) : Nat := max lo (min hi v)

/-- The decay tick nearest to a value; 24, 48 and 96 go to the larger (R207). -/
def nearestTick (v : Nat) : Nat :=
  if v < 24 then 16 else if v < 48 then 32 else if v < 96 then 64 else 128

/-- A setting by its key, 1 to 9 (R207). -/
def Settings.get (k : Settings) (key : Nat) : Nat :=
  match key with
  | 1 => k.readFloor
  | 2 => k.confirmThreshold
  | 3 => k.decayTick
  | 4 => k.holdTicks
  | 5 => k.leaseInterval
  | 6 => k.revisionLimit
  | 7 => k.defaultTolerance
  | 8 => k.resyncLength
  | _ => k.adoptThreshold

/-- The value written for a value given, by the key's range (R207). -/
def settingWritten (key v : Nat) : Nat :=
  match key with
  | 1 => clampTo 0 255 v
  | 2 => clampTo 64 1023 v
  | 3 => nearestTick v
  | 4 => clampTo 1 63 v
  | 5 => clampTo 30 600 v
  | 6 => clampTo 1 60 v
  | 7 => clampTo 0 15 v
  | 8 => clampTo 2 8 v
  | _ => clampTo 1 4096 v

/-- A setting written by its key (R207). -/
def Settings.put (k : Settings) (key v : Nat) : Settings :=
  match key with
  | 1 => { k with readFloor := v }
  | 2 => { k with confirmThreshold := v }
  | 3 => { k with decayTick := v }
  | 4 => { k with holdTicks := v }
  | 5 => { k with leaseInterval := v }
  | 6 => { k with revisionLimit := v }
  | 7 => { k with defaultTolerance := v }
  | 8 => { k with resyncLength := v }
  | _ => { k with adoptThreshold := v }

/-- The processing of SET_WRITE (R207). -/
def setWriteBody (key v : Nat) (s : State) : Reply :=
  if 1 ≤ key ∧ key ≤ 9 then
    let v' := settingWritten key v
    ({ s with settings := s.settings.put key v' } : State).doneClamped (v' ≠ v)
      [.num8 key, .num16 v', .num16 (s.settings.get key)]
  else s.refuse .badRequest

/-- SET_WRITE (R207). -/
def execSetWrite (key v : Nat) (s : State) : Host.Outcome State Fault Refusal :=
  .next (carryOut (.setWrite key v) 0xA0 (setWriteBody key v) s)

/-- The processing of SET_READ (R208). -/
def setReadBody (s : State) : Reply :=
  s.done ([1, 2, 3, 4, 5, 6, 7, 8, 9].map fun key => .num16 (s.settings.get key))

/-- SET_READ (R208). -/
def execSetRead (s : State) : Host.Outcome State Fault Refusal :=
  .next (carryOut .setRead 0xA1 setReadBody s)

end Sys2Proof.Machine
end

