-- ==== Sys2Proof/Machine/Lamps.lean ====
section
/-!
DEFINITION. Shelf-end lamps (chapter 9): the meanings of LAMP_FORCE and LAMP_PHASE_WRAP. What the
lamps show is in Sys2Proof.Machine.Flags.
-/

namespace Sys2Proof.Machine

/-- The processing of LAMP_FORCE: the force before the request, the derived pattern, the number of
sections on the lamp (R169). -/
def lampForceBody (m : Nat) (pattern : Byte) (s : State) : Reply :=
  match lampOf m, forceOf pattern with
  | some m, some force =>
    ({ s with forces := s.forces.set m force } : State).done
      [.patternOpt s.forces[m], .patternOpt (some (s.derivedPattern m)),
        .num16 (s.onLamp m).length]
  | _, _ => s.refuse .badRequest

/-- LAMP_FORCE (R169). -/
def execLampForce (m : Nat) (pattern : Byte) (s : State) : Host.Outcome State Fault Refusal :=
  .next (carryOut (.lampForce m pattern) 0x70 (lampForceBody m pattern) s)

/-- The phase begins again at 0 (R166). -/
def wrapPhase (s : State) : State := { s with lampPhase := 0 }

/-- LAMP_PHASE_WRAP, when the phase has reached 2,000 ms, in every campaign state (R138, R166). -/
def execLampPhaseWrap (s : State) : Host.Outcome State Fault Refusal :=
  .next (unlessReset (atEnd s.phaseOver wrapPhase) s)

end Sys2Proof.Machine
end

