-- ==== Sys2Proof/Machine/Link.lean ====
section
/-!
DEFINITION. The stack link (chapter 10): the meanings of BYTE_RECEIVED, FRAMING_ERROR, RECEIVER_GAP,
FRAME_RECEIVED, FRAME_SENT, BAD_FRAME, KEEP and WAND_READ.
-/

namespace Sys2Proof.Machine

/-! ### The receiver (R172, R173) -/

/-- A byte examined in HUNT: the sync byte begins a frame, any other is ignored (R173). -/
def huntByte (b : Byte) (s : State) : State :=
  { s with receiver := if b = 0x7E then .gather [] 0 else .hunt }

/-- A byte taken into the frame being gathered; the byte that completes it hands the frame to the
checks and the receiver returns to HUNT (R173). -/
def gatherByte (bytes : List Byte) (b : Byte) (s : State) : State :=
  match gatheredFrame (bytes ++ [b]) with
  | some f => { s with receiver := .hunt, gathered := s.gathered ++ [f] }
  | none => { s with receiver := .gather (bytes ++ [b]) 0 }

/-- A byte received without a framing error (R173). A byte more than 1 ms after the one before it is
examined as in HUNT. -/
def receiveByte (b : Byte) (s : State) : State :=
  match s.receiver with
  | .hunt => huntByte b s
  | .gather bytes gap => if 1 < gap then huntByte b s else gatherByte bytes b s

/-- BYTE_RECEIVED (R173; LRX is ignored while RESET is asserted, R191). -/
def execByteReceived (b : Byte) (s : State) : Host.Outcome State Fault Refusal :=
  .next (unlessReset (receiveByte b) s)

/-- The frame being gathered is abandoned without a check, and the receiver hunts (R172, R173). -/
def abandonFrame (s : State) : State := { s with receiver := .hunt }

/-- FRAMING_ERROR: the frame being gathered is abandoned and the faulty byte begins none (R172). -/
def execFramingError (s : State) : Host.Outcome State Fault Refusal :=
  .next (unlessReset abandonFrame s)

/-- RECEIVER_GAP, when more than 1 ms has passed since the previous byte of the frame (R138, R173). -/
def execReceiverGap (s : State) : Host.Outcome State Fault Refusal :=
  .next (unlessReset (atEnd s.gapOver abandonFrame) s)

/-! ### Checking frames (R175, R176) -/

/-- A frame that passes the checks joins the tail of the receive queue, unless the queue holds 8; any
other is discarded (R175, R176). -/
def State.checkedIn (s : State) (f : RawFrame) : State :=
  match checkedFrame f with
  | none => s
  | some frame =>
    if s.rxQueue.length < Config.maxReceive then { s with rxQueue := s.rxQueue ++ [frame] } else s

/-- The checks of the frame gathered first. A frame that has not come through BYTE_RECEIVED is handed
over here (notes/assumptions/15.md). -/
def receiveFrame (f : RawFrame) (s : State) : State :=
  match if f ∈ s.gathered then s.gathered else s.gathered ++ [f] with
  | [] => s
  | head :: rest =>
    if head = f then ({ s with gathered := rest } : State).checkedIn f
    else { s with gathered := head :: rest }

/-- FRAME_RECEIVED (R175, R176). -/
def execFrameReceived (f : RawFrame) (s : State) : Host.Outcome State Fault Refusal :=
  .next (unlessReset (receiveFrame f) s)

/-! ### Sending (R177) -/

/-- The frame at the head of the send queue has been sent whole, and the next begins (R177). -/
def sendFrame (s : State) : State :=
  match s.sendQueue with
  | [] => s
  | f :: rest =>
    let (bytes, j) := f.bytes s.freeIndex
    { s with sendQueue := rest, ltxSent := some (.whole bytes), freeIndex := j }

/-- FRAME_SENT (R177). -/
def execFrameSent (s : State) : Host.Outcome State Fault Refusal :=
  .next (unlessReset sendFrame s)

/-! ### BAD_FRAME and KEEP (R179, R187) -/

/-- BAD_FRAME: a taken frame of a kind that is not a wand frame kind, in every campaign state
(R179). -/
def execBadFrame (w : Wand) (kind : Byte) (s : State) : Host.Outcome State Fault Refusal :=
  .next (takeFrame (.badFrame w kind) w kind (fun s => s.reply .badFrame []) s)

/-- A walker's standing as KEEP answers it (R187). -/
def State.walkerFields (s : State) (x : CtxId) (c : Context) : List Field :=
  [.standing .walking, .sec c.sec, .num8 x.val, .num16 c.cursor, .num16 (s.length c.sec),
    .num8 c.run.length, .num8 c.park.length, .flag (s.sec c.sec).revision.isSome]

/-- The standing of a wand that walks nothing, as KEEP answers it (R187). The position takes one byte
(DESIGN CHOICE, notes/assumptions/25.md). -/
def State.waiterFields (s : State) (w : Wand) : List Field :=
  match s.waitsFor w with
  | some S => [.standing .waiting, .sec S, .num8 (s.place w)]
  | none => [.standing .none]

/-- The processing of KEEP (R187). -/
def keepBody (w : Wand) (s : State) : Answer :=
  match s.walkOf w with
  | none => s.reply .ok (s.waiterFields w)
  | some x =>
    match s.ctx x with
    | some c => s.reply .ok (s.walkerFields x c)
    | none => s.reply .ok (s.waiterFields w)

/-- KEEP (R187). -/
def execKeep (w : Wand) (s : State) : Host.Outcome State Fault Refusal :=
  .next (takeFrame (.keep w) w 0x07 (unlessPaused (keepBody w)) s)

/-! ### WAND_READ (R190) -/

/-- A wand's fields as WAND_READ returns them: last-frame time, walk, queue place, occupancy (R190). The
place takes one byte, FFH when absent (DESIGN CHOICE, notes/assumptions/25.md). -/
def State.wandFields (s : State) (w : Wand) : List Field :=
  let waits := s.waitsFor w
  let t := s.table w
  [.time s.lastFrame[w], .secOpt (s.walkedSec w), .num8Opt ((s.walkOf w).map Fin.val),
    .secOpt waits, .num8Opt (waits.map fun _ => s.place w),
    .num8 (t.occupancy Entry.isGathering), .num8 (t.occupancy Entry.isConfirmed),
    .num8 (t.occupancy Entry.isWaiting)]

/-- The processing of WAND_READ (R190). -/
def wandReadBody (w : Nat) (s : State) : Reply :=
  match idOf w with
  | none => s.refuse .badRequest
  | some w => s.done (s.wandFields w)

/-- WAND_READ (R190). -/
def execWandRead (w : Nat) (s : State) : Host.Outcome State Fault Refusal :=
  .next (carryOut (.wandRead w) 0x80 (wandReadBody w) s)

end Sys2Proof.Machine
end

