-- ==== Sys2Proof/Machine/Port.lean ====
section
/-!
DEFINITION. The catalogue port (11.1, 11.2) and the device reset (7.8, 10.8): the meanings of
WRITE_TRANSFER, READ_TRANSFER, IGNORED_TRANSFER, DEVICE_RESET and RESET_RELEASE.
-/

namespace Sys2Proof.Machine

/-! ### SDO (R192) -/

/-- SDO through a transfer: driven byte by byte while SSEL is asserted, and in its high-impedance state
once SSEL is released (R192). -/
def sdoOver (bytes : List Byte) : List SdoLevel := bytes.map .driven ++ [.highImpedance]

/-! ### Write transfers (R193, R194, R196) -/

/-- What the part drives on SDO in a write transfer: 00H while the direction byte is received; the
manual says nothing of the bytes after it (R192; notes/assumptions/9.md). -/
def State.driveWrite (s : State) (n : Nat) : State :=
  { s with sdoTrace := sdoOver (0 :: freeBytes s.freeIndex n), freeIndex := s.freeIndex + n }

/-- The port after it takes a request: WORKING, with the lost flag clear, on the request or, if the
envelope check refuses the packet, on the packet to be refused (R193, R194). -/
def takeRequest (code : Byte) (stated : Nat) (args : List Byte) : Port :=
  match checkEnvelope code stated args with
  | some request => .working (.request request) false
  | none => .working (.malformed code) false

/-- A complete write transfer acted on according to the port state (R193, R196). -/
def Port.write (p : Port) (code : Byte) (stated : Nat) (args : List Byte) : Port :=
  match p with
  | .idle => takeRequest code stated args
  | .holding _ _ => takeRequest code stated args
  | .working inHand _ => .working inHand true

/-- A write transfer; one of fewer than four bytes with its direction byte takes nothing (R193). -/
def writePacket (packet : List Byte) (s : State) : State :=
  let t := s.driveWrite packet.length
  match packet with
  | code :: hi :: lo :: args => { t with port := s.port.write code (numOf [hi, lo]) args }
  | _ => t

/-- WRITE_TRANSFER (R193, R194, R196). -/
def execWriteTransfer (packet : List Byte) (s : State) : Host.Outcome State Fault Refusal :=
  .next (unlessReset (writePacket packet) s)

/-- The processing of a packet that the envelope check refuses ends: the port holds BAD_REQUEST with the
code echoed and no results (R194). -/
def State.refusePacket (s : State) (code : Byte) (lost : Bool) : State :=
  { s with port := .holding ⟨code, .badRequest, []⟩ lost }

/-! ### Read transfers (R195) -/

/-- The response marker of a port state (R195, R212). -/
def Port.marker : Port → Byte
  | .idle => 0x00
  | .working _ _ => 0x0E
  | .holding _ false => 0x0A
  | .holding _ true => 0x0B

/-- What follows the marker, before the 00H that fills the transfer (R195, R212). -/
def Port.response (p : Port) (i : Nat) : List Byte × Nat :=
  match p with
  | .holding r _ => r.bytes i
  | .idle => ([], i)
  | .working _ _ => ([], i)

/-- The port after a read transfer that sent its marker: a delivered response is gone (R195). -/
def Port.afterRead : Port → Port
  | .holding _ _ => .idle
  | p => p

/-- The first `n` bytes of a transfer, 00H after the bytes there are (R195). -/
def filled (n : Nat) (bytes : List Byte) : List Byte :=
  (bytes ++ List.replicate (n - bytes.length) 0).take n

/-- A read transfer of `clocked` whole bytes: 00H, the marker, the response, 00H (R195, R212). One
that ends before its marker has been sent leaves the port state. -/
def readPacket (clocked : Nat) (s : State) : State :=
  let (response, j) := s.port.response s.freeIndex
  { s with
    sdoTrace := sdoOver (filled clocked (0 :: s.port.marker :: response))
    freeIndex := j
    port := if 2 ≤ clocked then s.port.afterRead else s.port }

/-- READ_TRANSFER (R195). -/
def execReadTransfer (clocked : Nat) (s : State) : Host.Outcome State Fault Refusal :=
  .next (unlessReset (readPacket clocked) s)

/-! ### Ignored transfers (R192, R198) -/

/-- What the part sends in an ignored transfer: 00H throughout (R192, R198). -/
def ignoredBytes : IgnoredTransfer → List Byte
  | .badDirection _ more => List.replicate (more + 1) 0
  | .cutShort => []
  | .selectHeld clocked => List.replicate clocked 0

/-- IGNORED_TRANSFER: the port's state is unchanged (R192, R198). -/
def execIgnoredTransfer (why : IgnoredTransfer) (s : State) : Host.Outcome State Fault Refusal :=
  .next (unlessReset (fun s => { s with sdoTrace := sdoOver (ignoredBytes why) }) s)

/-! ### Device reset (R148, R198) -/

/-- The last frame on LTX once a reset is taken, and the count of free values: a frame being sent is cut
off before its last byte, after a number of bytes that the manual leaves open (R191;
notes/assumptions/18.md). -/
def State.cutFrame (s : State) : Option LtxFrame × Nat :=
  match s.ltxPin with
  | .idleHigh => (s.ltxSent, s.freeIndex)
  | .sending f =>
    let (bytes, j) := f.bytes s.freeIndex
    (some (.cutOff (bytes.take (Config.cutAfter j % bytes.length))), j + 1)

/-- A device reset: every block takes its reset state, and a frame being sent is cut off (R148, R191). The
commands that wait, the count of free values and the record of LTX are the model's own; asserting RESET
holds the part in reset until it is released, and power-up leaves the pin as it is
(notes/assumptions/7.md). -/
def resetPart (cause : ResetCause) (s : State) : State :=
  { State.reset with
    pending := s.pending
    ltxSent := s.cutFrame.1
    freeIndex := s.cutFrame.2
    resetAsserted := s.resetAsserted || cause = .pinAsserted }

/-- DEVICE_RESET (R148). -/
def execDeviceReset (cause : ResetCause) (s : State) : Host.Outcome State Fault Refusal :=
  .next (resetPart cause s)

/-- RESET_RELEASE: the part begins operating from its reset state (R171, R191, R198). -/
def execResetRelease (s : State) : Host.Outcome State Fault Refusal :=
  .next { s with resetAsserted := false }

end Sys2Proof.Machine
end

