-- ==== Sys2Proof/Machine/ShelfLists.lean ====
section
/-!
DEFINITION. Item records and shelf-lists (chapter 1): the meanings of REV_OPEN, REV_INSERT,
REV_RETIRE, REV_ADOPT, REV_CLOSE, REVISION_EXPIRY, SEC_UNLOAD, ITEM_DROP and ITEM_READ.
-/

namespace Sys2Proof.Machine

/-! ### Changing an expected sequence (R5, R11, R13) -/

/-- The cursor of a section's walk, if it has one, is shifted (R11, R13). -/
def State.shiftCursor (s : State) (S : SecId) (f : Nat → Nat) : State :=
  match (s.sec S).context with
  | some x => s.modCtx x fun c => { c with cursor := f c.cursor }
  | none => s

/-- A tag is stood at ordinal `k`: the items from `k` on move up, a cursor above `k` moves with them,
and the revision timer is reloaded (R8, R11). The bump is the caller's. -/
def State.insertAt (s : State) (S : SecId) (k : Nat) (t : Tag) : State :=
  (s.modSec S fun r =>
    { r with expected := r.expected.insertIdx k t, revision := some s.fullRevision }).shiftCursor S
    fun c => if k < c then c + 1 else c

/-- A tag at ordinal `k` is withdrawn: the items above `k` move down, a cursor above `k` moves with
them, the mark is lowered to the new length, and the revision timer is reloaded (R6, R8, R13). The
bump is the caller's. -/
def State.removeAt (s : State) (S : SecId) (k : Nat) : State :=
  (s.modSec S fun r =>
    let rest := r.expected.eraseIdx k
    { r with
      expected := rest
      mark := r.mark.map fun m => min m rest.length
      revision := some s.fullRevision }).shiftCursor S
    fun c => if k < c then c - 1 else c

/-! ### REV_OPEN (R9) -/

/-- The processing of REV_OPEN (R9). -/
def revOpenBody (S : Nat) (s : State) : Reply :=
  match secOf S with
  | none => s.refuse .noSection
  | some S =>
    if (s.sec S).revision.isSome then s.refuse .revising
    else ((s.modSec S fun r => { r with revision := some s.fullRevision }).bump S).done []

/-- REV_OPEN (R9). -/
def execRevOpen (S : Nat) (s : State) : Host.Outcome State Fault Refusal :=
  .next (carryOut (.revOpen S) 0x10 (revOpenBody S) s)

/-! ### REV_INSERT (R10, R11) -/

/-- The record that REV_INSERT creates (R10). -/
def homeRecord (t : Tag) (S : SecId) (c : Circulation) : Item where
  tag := t
  home := some S
  circ := some c
  count := .unseen
  found := none
  prior := none
  sight := 0
  moved := false
  conflict := false

/-- The processing of REV_INSERT, its checks in the order of R10. -/
def revInsertBody (S k : Nat) (t : Tag) (circ : Byte) (s : State) : Reply :=
  match secOf S with
  | none => s.refuse .noSection
  | some S =>
    match circOf circ with
    | none => s.refuse .badRequest
    | some c =>
      let n := s.length S
      if (s.sec S).revision.isNone then s.refuse .notRevising
      else if (s.item? t).isSome then s.refuse .duplicateTag
      else if Config.maxLength ≤ n then s.refuse .sectionFull
      else if Config.maxItems ≤ s.items.length then s.refuse .tableFull
      else
        let k' := min k n
        (((s.addItem (homeRecord t S c)).insertAt S k' t).bump S).doneClamped (n < k)
          [.num16 k', .num16 (n + 1)]

/-- REV_INSERT (R10, R11). -/
def execRevInsert (S k : Nat) (t : Tag) (circ : Byte) (s : State) :
    Host.Outcome State Fault Refusal :=
  .next (carryOut (.revInsert S k t circ) 0x11 (revInsertBody S k t circ) s)

/-! ### REV_RETIRE (R12, R13) -/

/-- A home record of H leaves every list it stands on and the item table (R12, R13). -/
def State.retire (s : State) (H : SecId) (r : Item) : State :=
  let u := (s.leavePlace r).removeAt H (s.ordinal H r.tag)
  (u.dropItems fun q => q.tag = r.tag).bumpWhere fun X => X = H || some X = r.chainSec

/-- The processing of REV_RETIRE, its checks in the order of R12. -/
def revRetireBody (t : Tag) (s : State) : Reply :=
  match s.item? t with
  | none => s.refuse .noItem
  | some r =>
    match r.home with
    | none => s.refuse .noHome
    | some H =>
      if (s.sec H).revision.isNone then s.refuse .notRevising
      else (s.retire H r).done [.sec H, .num16 (s.ordinal H t)]

/-- REV_RETIRE (R12, R13). -/
def execRevRetire (t : Tag) (s : State) : Host.Outcome State Fault Refusal :=
  .next (carryOut (.revRetire t) 0x12 (revRetireBody t) s)

/-! ### REV_ADOPT (R14, R15) -/

/-- The count state of a record adopted by S: IN_PLACE if it was found in S, ELSEWHERE otherwise
(R15). -/
def adoptedCount (S : SecId) (r : Item) : CountState :=
  if r.foundIn = some S then .inPlace else .elsewhere

/-- A provisional record becomes a home item of S at ordinal `k` (R14, R15). -/
def State.adopt (s : State) (S : SecId) (k : Nat) (r : Item) : State :=
  let u := s.modItem r.tag fun q =>
    { q with home := some S, circ := some .shelf, count := adoptedCount S r }
  let u := if r.foundIn = some S then u.leaveChain S r.tag else u
  (u.insertAt S k r.tag).bumpWhere fun X => X = S || some X = r.foundIn

/-- The processing of REV_ADOPT, its checks in the order of R14. -/
def revAdoptBody (t : Tag) (S k : Nat) (s : State) : Reply :=
  match secOf S with
  | none => s.refuse .noSection
  | some S =>
    match s.item? t with
    | none => s.refuse .noItem
    | some r =>
      let n := s.length S
      if r.home.isSome then s.refuse .notUnlisted
      else if (s.sec S).revision.isNone then s.refuse .notRevising
      else if Config.maxLength ≤ n then s.refuse .sectionFull
      else
        let k' := min k n
        (s.adopt S k' r).doneClamped (n < k) [.num16 k', .count (adoptedCount S r)]

/-- REV_ADOPT (R14, R15). -/
def execRevAdopt (t : Tag) (S k : Nat) (s : State) : Host.Outcome State Fault Refusal :=
  .next (carryOut (.revAdopt t S k) 0x13 (revAdoptBody t S k) s)

/-! ### REV_CLOSE and REVISION_EXPIRY (R16, R17) -/

/-- The processing of REV_CLOSE (R16). -/
def revCloseBody (S : Nat) (s : State) : Reply :=
  match secOf S with
  | none => s.refuse .noSection
  | some S =>
    if (s.sec S).revision.isNone then s.refuse .notRevising
    else
      let (t, applied) := s.closeRevision S
      t.done [.num8 applied]

/-- REV_CLOSE (R16). -/
def execRevClose (S : Nat) (s : State) : Host.Outcome State Fault Refusal :=
  .next (carryOut (.revClose S) 0x14 (revCloseBody S) s)

/-- The expiry of a revision timer closes the revision (R17). -/
def expireRevision (S : SecId) (s : State) : State :=
  (s.closeRevision S).1.raise .revisionExpired

/-- REVISION_EXPIRY, when no time remains; a timer loaded first does not expire (R8, R17, R138). -/
def execRevisionExpiry (S : SecId) (s : State) : Host.Outcome State Fault Refusal :=
  .next (unlessReset (atEnd (s.revisionOver S) (expireRevision S)) s)

/-! ### SEC_UNLOAD (R18, R19) -/

/-- A section's chain record that is a home item of another section, found ELSEWHERE. -/
def State.isStrayOf (s : State) (S : SecId) (r : Item) : Bool :=
  r.home.isSome && r.count = .elsewhere && decide (r.tag ∈ (s.sec S).chain)

/-- A provisional record on a section's chain. -/
def State.isProvisionalOf (s : State) (S : SecId) (r : Item) : Bool :=
  r.home.isNone && decide (r.tag ∈ (s.sec S).chain)

/-- Another section loses a chain record, or gets an item of its own back UNSEEN, when S is unloaded
or reset: it is bumped once for the request (R18, R19, R112, R116, R117). -/
def State.feelsRelease (s : State) (S X : SecId) : Bool :=
  (s.sec X).chain.any (s.homeTag S) || s.items.any fun r => r.isHomeOf X && s.isStrayOf S r

/-- SEC_UNLOAD changes something of the section of the kinds R111 lists, its state apart: its items, its
sequence, its chain or a setting. -/
def State.unloadChanges (s : State) (S : SecId) : Bool :=
  let x := s.sec S
  (s.items.any fun r => r.isHomeOf S) || x.expected ≠ [] || x.chain ≠ [] ||
    x.tolerance ≠ s.settings.defaultTolerance || x.lamp ≠ none || x.mark ≠ none ||
    x.endMarker ≠ none

/-- The section record S is left with: EMPTY, defaults, the generation bumped once for the changes, if
any, and once for the entry into EMPTY (R6, R19, R112; notes/assumptions/13.md). -/
def State.unloadedSec (s : State) (S : SecId) : SectionRec :=
  { SectionRec.blank with
    tolerance := s.settings.defaultTolerance
    generation := (s.sec S).generation + (if s.unloadChanges S then 2 else 1) }

/-- SEC_UNLOAD's effect (R18, R19). -/
def State.unload (s : State) (S : SecId) : State :=
  let t := s.mapSecs fun X x =>
    if X = S then s.unloadedSec S
    else { x with
      chain := x.chain.filter fun u => !s.homeTag S u
      generation := if s.feelsRelease S X then x.generation + 1 else x.generation }
  (t.dropItems fun r => r.isHomeOf S || s.isProvisionalOf S r).modItems (s.isStrayOf S) Item.unseen

/-- The processing of SEC_UNLOAD, its checks in the order of R18. -/
def secUnloadBody (S : Nat) (s : State) : Reply :=
  match secOf S with
  | none => s.refuse .noSection
  | some S =>
    if (s.sec S).state = .empty then s.refuse .noSection
    else if (s.sec S).state = .walking ∨ (s.sec S).state = .suspended then s.refuse .busy
    else if (s.sec S).revision.isSome then s.refuse .revising
    else
      (s.unload S).done
        [.num16 (s.items.countP fun r => r.isHomeOf S), .num32 (s.sec S).chain.length]

/-- SEC_UNLOAD (R18, R19). -/
def execSecUnload (S : Nat) (s : State) : Host.Outcome State Fault Refusal :=
  .next (carryOut (.secUnload S) 0x15 (secUnloadBody S) s)

/-! ### ITEM_DROP (R20) -/

/-- The processing of ITEM_DROP (R20). -/
def itemDropBody (t : Tag) (s : State) : Reply :=
  match s.item? t with
  | none => s.refuse .noItem
  | some r =>
    if r.home.isSome then s.refuse .notUnlisted
    else
      (((s.leaveChainOf r.foundIn t).dropItems fun q => q.tag = t).bumpWhere fun X =>
        some X = r.foundIn).done []

/-- ITEM_DROP (R20). -/
def execItemDrop (t : Tag) (s : State) : Host.Outcome State Fault Refusal :=
  .next (carryOut (.itemDrop t) 0x16 (itemDropBody t) s)

/-! ### ITEM_READ (R21, R213) -/

/-- The presence byte: 01H home group, 02H found group, 04H prior state, summed (R213). -/
def Item.presence (r : Item) : Nat :=
  (if r.home.isSome then 1 else 0) + (if r.found.isSome then 2 else 0) +
    (if r.prior.isSome then 4 else 0)

/-- The review flags byte: 01H moved, 02H loan conflict, summed (R213). -/
def Item.reviewFlags (r : Item) : Nat :=
  (if r.moved then 1 else 0) + (if r.conflict then 2 else 0)

/-- The result of ITEM_READ (R21, R213). -/
def State.itemFields (s : State) (r : Item) : List Field :=
  [.tag r.tag, .num8 r.presence, .secOpt r.home,
    .num16Opt (r.home.map fun H => s.ordinal H r.tag), .circOpt r.circ, .count r.count,
    .secOpt r.foundIn, .num16Opt (r.found.map fun f => f.pos),
    .foundTime (r.found.map fun f => f.time), .countOpt r.prior, .num8 r.sight,
    .num8 r.reviewFlags]

/-- The processing of ITEM_READ (R21). -/
def itemReadBody (t : Tag) (s : State) : Reply :=
  match s.item? t with
  | none => s.refuse .noItem
  | some r => s.done (s.itemFields r)

/-- ITEM_READ (R21, R213). -/
def execItemRead (t : Tag) (s : State) : Host.Outcome State Fault Refusal :=
  .next (carryOut (.itemRead t) 0x17 (itemReadBody t) s)

end Sys2Proof.Machine
end

