-- ==== Sys2Proof/Machine/Results.lean ====
section
/-!
DEFINITION. Section results (chapter 5): the meanings of ATT_NEXT, ATT_ACK, SEC_READ, SEC_LIST and
SEC_RESET.
-/

namespace Sys2Proof.Machine

/-! ### Attention (R109, R110) -/

/-- The processing of ATT_NEXT (R109). -/
def attNextBody (s : State) : Reply := s.done [.secOpt (s.findSec fun r => r.attention)]

/-- ATT_NEXT (R109). -/
def execAttNext (s : State) : Host.Outcome State Fault Refusal :=
  .next (carryOut .attNext 0x30 attNextBody s)

/-- The processing of ATT_ACK (R110). -/
def attAckBody (S : Nat) (s : State) : Reply :=
  match secOf S with
  | none => s.refuse .noSection
  | some S =>
    (s.modSec S fun r => { r with attention := false }).done [.flag (s.sec S).attention]

/-- ATT_ACK (R110). -/
def execAttAck (S : Nat) (s : State) : Host.Outcome State Fault Refusal :=
  .next (carryOut (.attAck S) 0x31 (attAckBody S) s)

/-! ### SEC_READ (R113) -/

/-- The nine count states of home items, in the order of their codes (R105, R209). -/
def homeCounts : List CountState :=
  [.unseen, .passed, .held, .inPlace, .disordered, .elsewhere, .notFound, .desk, .missing]

/-- The fields of a section record as SEC_READ returns them (R113). -/
def State.sectionFields (s : State) (S : SecId) : List Field :=
  let r := s.sec S
  [.secState r.state, .flag r.revision.isSome, .num16Opt (r.revision.map wholeSeconds),
    .num16 (s.length S), .num8 r.tolerance, .num8Opt (r.lamp.map Fin.val), .num16Opt r.mark,
    .tagOpt r.endMarker] ++
  homeCounts.map (fun c => .num16 (s.tally S c)) ++
  [.num32 r.chain.length, .flag r.attention, .generation r.generation, .num8 r.walks,
    .num8Opt (r.context.map Fin.val)]

/-- The processing of SEC_READ (R113). -/
def secReadBody (S : Nat) (s : State) : Reply :=
  match secOf S with
  | none => s.refuse .noSection
  | some S => s.done (s.sectionFields S)

/-- SEC_READ (R113). -/
def execSecRead (S : Nat) (s : State) : Host.Outcome State Fault Refusal :=
  .next (carryOut (.secRead S) 0x32 (secReadBody S) s)

/-! ### SEC_LIST (R114, R115) -/

/-- An entry of the EXPECTED list (R115). -/
def State.expectedEntry (s : State) (t : Tag) : List Field :=
  let r := s.item? t
  [.tag t, .countOpt (r.map fun q => q.count), .flag (r.any fun q => q.moved),
    .flag (r.any fun q => q.conflict)]

/-- An entry of the FOREIGN list (R115). -/
def State.foreignEntry (s : State) (t : Tag) : List Field :=
  let r := s.item? t
  [.tag t, .secOpt (r.bind fun q => q.home), .num16Opt ((r.bind fun q => q.found).map fun f => f.pos)]

/-- The part of a list that SEC_LIST returns: total, generation, and at most 32 entries from an index
(R114). -/
def State.listPart (s : State) (S : SecId) (tags : List Tag) (start : Nat)
    (entry : Tag → List Field) : List Field :=
  [.num32 tags.length, .generation (s.sec S).generation] ++
    listFields (((tags.drop start).take Config.listChunk).map entry)

/-- The processing of SEC_LIST (R114, R115, R209). -/
def secListBody (S : Nat) (list : Byte) (start : Nat) (s : State) : Reply :=
  match secOf S with
  | none => s.refuse .noSection
  | some S =>
    if list = 0 then s.done (s.listPart S (s.sec S).expected start s.expectedEntry)
    else if list = 1 then s.done (s.listPart S (s.sec S).chain start s.foreignEntry)
    else s.refuse .badRequest

/-- SEC_LIST (R114, R115). -/
def execSecList (S : Nat) (list : Byte) (start : Nat) (s : State) :
    Host.Outcome State Fault Refusal :=
  .next (carryOut (.secList S list start) 0x33 (secListBody S list start) s)

/-! ### SEC_RESET (R116, R117) -/

/-- The number of a section's home items whose count state SEC_RESET changes (R116, R117). -/
def State.resetChanges (s : State) (S : SecId) : Nat :=
  s.items.countP fun r => r.isHomeOf S && r.count ≠ .unseen

/-- The section record SEC_RESET leaves: READY with starting results; one bump for its item and chain
changes, if any, and one if it enters READY from TALLIED (R112, R117). -/
def State.resetSec (s : State) (S : SecId) : SectionRec :=
  let x := s.sec S
  { x with
    state := .ready
    chain := []
    attention := false
    walks := 0
    generation := x.generation + (if s.resetChanges S = 0 ∧ x.chain = [] then 0 else 1) +
      (if x.state = .tallied then 1 else 0) }

/-- SEC_RESET's effect (R116, R117). -/
def State.recount (s : State) (S : SecId) : State :=
  let t := s.mapSecs fun X x =>
    if X = S then s.resetSec S
    else { x with
      chain := x.chain.filter fun u => !s.homeTag S u
      generation := if s.feelsRelease S X then x.generation + 1 else x.generation }
  (t.dropItems (s.isProvisionalOf S)).modItems (fun r => r.isHomeOf S || s.isStrayOf S r) Item.unseen

/-- The processing of SEC_RESET, its checks in the order of R116. -/
def secResetBody (S : Nat) (s : State) : Reply :=
  match secOf S with
  | none => s.refuse .noSection
  | some S =>
    if (s.sec S).state = .empty then s.refuse .noSection
    else if (s.sec S).state = .walking ∨ (s.sec S).state = .suspended then s.refuse .busy
    else (s.recount S).done [.num16 (s.resetChanges S), .num32 (s.sec S).chain.length]

/-- SEC_RESET (R116, R117). -/
def execSecReset (S : Nat) (s : State) : Host.Outcome State Fault Refusal :=
  .next (carryOut (.secReset S) 0x34 (secResetBody S) s)

end Sys2Proof.Machine
end

