-- ==== Sys2Proof/Machine/Dispatch.lean ====
section
/-!
DEFINITION. The dispatch: one arm per constructor of Instr, each one direct call of the command's
meaning.
-/

namespace Sys2Proof.Machine

def exec (i : Instr) (s : State) : Host.Outcome State Fault Refusal :=
  match i with
  | .writeTransfer packet => Sys2Proof.Machine.execWriteTransfer packet s
  | .readTransfer clocked => Sys2Proof.Machine.execReadTransfer clocked s
  | .ignoredTransfer why => Sys2Proof.Machine.execIgnoredTransfer why s
  | .revOpen S => Sys2Proof.Machine.execRevOpen S s
  | .revInsert S k t circ => Sys2Proof.Machine.execRevInsert S k t circ s
  | .revRetire t => Sys2Proof.Machine.execRevRetire t s
  | .revAdopt t S k => Sys2Proof.Machine.execRevAdopt t S k s
  | .revClose S => Sys2Proof.Machine.execRevClose S s
  | .secUnload S => Sys2Proof.Machine.execSecUnload S s
  | .itemDrop t => Sys2Proof.Machine.execItemDrop t s
  | .itemRead t => Sys2Proof.Machine.execItemRead t s
  | .secSet S tol lamp mark endMarker => Sys2Proof.Machine.execSecSet S tol lamp mark endMarker s
  | .walkAbandon S => Sys2Proof.Machine.execWalkAbandon S s
  | .walkRead x => Sys2Proof.Machine.execWalkRead x s
  | .claimqRead => Sys2Proof.Machine.execClaimqRead s
  | .attNext => Sys2Proof.Machine.execAttNext s
  | .attAck S => Sys2Proof.Machine.execAttAck S s
  | .secRead S => Sys2Proof.Machine.execSecRead S s
  | .secList S list start => Sys2Proof.Machine.execSecList S list start s
  | .secReset S => Sys2Proof.Machine.execSecReset S s
  | .circOut t => Sys2Proof.Machine.execCircOut t s
  | .circIn t => Sys2Proof.Machine.execCircIn t s
  | .itemClear t => Sys2Proof.Machine.execItemClear t s
  | .campStart => Sys2Proof.Machine.execCampStart s
  | .campPause => Sys2Proof.Machine.execCampPause s
  | .campResume => Sys2Proof.Machine.execCampResume s
  | .campClose => Sys2Proof.Machine.execCampClose s
  | .campRead => Sys2Proof.Machine.execCampRead s
  | .watchSet x value mask cls oneShot => Sys2Proof.Machine.execWatchSet x value mask cls oneShot s
  | .watchClear x => Sys2Proof.Machine.execWatchClear x s
  | .watchRead x => Sys2Proof.Machine.execWatchRead x s
  | .watchNext => Sys2Proof.Machine.execWatchNext s
  | .watchAck x => Sys2Proof.Machine.execWatchAck x s
  | .lampForce m pattern => Sys2Proof.Machine.execLampForce m pattern s
  | .wandRead w => Sys2Proof.Machine.execWandRead w s
  | .evtClear k => Sys2Proof.Machine.execEvtClear k s
  | .evtForce k => Sys2Proof.Machine.execEvtForce k s
  | .evtEnable k => Sys2Proof.Machine.execEvtEnable k s
  | .evtRoute k => Sys2Proof.Machine.execEvtRoute k s
  | .evtRead => Sys2Proof.Machine.execEvtRead s
  | .setWrite key v => Sys2Proof.Machine.execSetWrite key v s
  | .setRead => Sys2Proof.Machine.execSetRead s
  | .frameReceived f => Sys2Proof.Machine.execFrameReceived f s
  | .framingError => Sys2Proof.Machine.execFramingError s
  | .receiverGap => Sys2Proof.Machine.execReceiverGap s
  | .frameSent => Sys2Proof.Machine.execFrameSent s
  | .badFrame w kind => Sys2Proof.Machine.execBadFrame w kind s
  | .hello w => Sys2Proof.Machine.execHello w s
  | .sight w reads => Sys2Proof.Machine.execSight w reads s
  | .claim w S => Sys2Proof.Machine.execClaim w S s
  | .walkendComplete w => Sys2Proof.Machine.execWalkendComplete w s
  | .walkendBreak w => Sys2Proof.Machine.execWalkendBreak w s
  | .whereIs w t => Sys2Proof.Machine.execWhereIs w t s
  | .shelved w t => Sys2Proof.Machine.execShelved w t s
  | .keep w => Sys2Proof.Machine.execKeep w s
  | .decayTick => Sys2Proof.Machine.execDecayTick s
  | .leaseExpiry x => Sys2Proof.Machine.execLeaseExpiry x s
  | .revisionExpiry S => Sys2Proof.Machine.execRevisionExpiry S s
  | .campaignClockSecond => Sys2Proof.Machine.execCampaignClockSecond s
  | .lampPhaseWrap => Sys2Proof.Machine.execLampPhaseWrap s
  | .deviceReset cause => Sys2Proof.Machine.execDeviceReset cause s
  | .byteReceived b => Sys2Proof.Machine.execByteReceived b s
  | .resetRelease => Sys2Proof.Machine.execResetRelease s
  | .walkendOtherMode w mode => Sys2Proof.Machine.execWalkendOtherMode w mode s

end Sys2Proof.Machine
end

