-- ==== Sys2Proof/Machine/Idle.lean ====
section
/-!
DEFINITION. What the part does of its own accord when no command waits: what is due inside it (a
gathered frame to check, a request in hand, a frame to take, a timer at its end, a frame to send), and
otherwise one millisecond passes (notes/assumptions/4.md, 6.md).
-/

namespace Sys2Proof.Machine

/-! ### Time (R137, R138, R166) -/

/-- A remaining time one millisecond on. -/
def countDown (t : Option Nat) : Option Nat := t.map fun ms => ms - 1

/-- A context's lease one millisecond on (R57). -/
def Context.tick (c : Context) : Context := { c with lease := countDown c.lease }

/-- The campaign clock's part of a second and the leases: they run while RUNNING (R57, R137). -/
def State.tickRunning (s : State) : State :=
  if s.campaign = .running then
    { s with
      clockPart := s.clockPart + 1
      contexts := tabulate 16 fun x => (s.ctx x).map Context.tick }
  else s

/-- The decay tick and the revision timers: they run unless PAUSED (R8, R33). -/
def State.tickUnpaused (s : State) : State :=
  if s.campaign = .paused then s
  else
    ({ s with decayLeft := s.decayLeft - 1 } : State).mapSecs fun _ x =>
      { x with revision := countDown x.revision }

/-- The receiver's time since the previous byte of the frame (R173). -/
def Receiver.tick : Receiver → Receiver
  | .hunt => .hunt
  | .gather bytes gap => .gather bytes (gap + 1)

/-- One millisecond passes: each timer that runs in the present campaign state counts (R138). -/
def State.tick (s : State) : State :=
  let t := s.tickRunning.tickUnpaused
  { t with lampPhase := t.lampPhase + 1, receiver := t.receiver.tick }

/-! ### What is due -/

/-- A timer at its end, and the command that is its expiry (7.3). -/
def State.expiryDue (s : State) : Option Instr :=
  if s.gapOver then some .receiverGap
  else if s.phaseOver then some .lampPhaseWrap
  else if s.decayOver then some .decayTick
  else if s.secondOver then some .campaignClockSecond
  else
    (((List.finRange 16).find? s.leaseOver).map Instr.leaseExpiry).or
      (((List.finRange 512).find? s.revisionOver).map Instr.revisionExpiry)

/-- What may be due inside the part: a command, or the refusal of the packet in hand. -/
inductive Due where
  | command (c : Instr)
  | refusal (code : Byte) (lost : Bool)
  deriving DecidableEq, Repr

/-- What is due inside the part, in the order the model takes them: a gathered frame to check, what the
port has in hand, the frame at the head of the receive queue, an expiry, a frame to send
(notes/assumptions/4.md). -/
def State.due (s : State) : Option Due :=
  match s.gathered, s.port, s.rxQueue with
  | f :: _, _, _ => some (.command (.frameReceived f))
  | [], .working (.request r) _, _ => some (.command r)
  | [], .working (.malformed code) lost, _ => some (.refusal code lost)
  | [], _, rx =>
    (if rx ≠ [] ∧ s.sendQueue.length < Config.sendLimit then rx.head?
    else s.expiryDue.or (if s.sendQueue = [] then none else some .frameSent)).map .command

/-- A step with no command waiting. In reset nothing happens. -/
def idle (s : State) : Host.Outcome State Fault Refusal :=
  if s.resetAsserted then .next s
  else
    match s.due with
    | some (.command c) => exec c s
    | some (.refusal code lost) => .next (s.refusePacket code lost)
    | none => .next s.tick

end Sys2Proof.Machine
end

