-- ==== Sys2Proof/WellFormed.lean ====
section
/-!
DEFINITION. Which commands the wires can carry: every number fits the bytes that R209 gives its
field, and a taken frame is one that the checks of R175 let through.
-/

namespace Sys2Proof

/-- A number sent in one byte (R209). -/
abbrev fitsByte (n : Nat) : Prop := n < 256

/-- A number sent in two bytes (R209). -/
abbrev fitsHalf (n : Nat) : Prop := n < 65536

/-- A number sent in four bytes (R209). -/
abbrev fitsWord (n : Nat) : Prop := n < 4294967296

/-- The seven wand frame kinds, 01H to 07H (R175, R210). -/
abbrev isWandKind (kind : Byte) : Prop := 1 ≤ kind.toNat ∧ kind.toNat ≤ 7

/-- The check that the wires can carry a command. -/
def Instr.wellFormed : Instr → Bool
  | .writeTransfer _ => true
  | .readTransfer clocked => decide (1 ≤ clocked)
  | .ignoredTransfer (.badDirection d _) => decide (d ≠ 1 ∧ d ≠ 2)
  | .ignoredTransfer .cutShort => true
  | .ignoredTransfer (.selectHeld _) => true
  | .revOpen S => decide (fitsHalf S)
  | .revInsert S k _ _ => decide (fitsHalf S ∧ fitsHalf k)
  | .revRetire _ => true
  | .revAdopt _ S k => decide (fitsHalf S ∧ fitsHalf k)
  | .revClose S => decide (fitsHalf S)
  | .secUnload S => decide (fitsHalf S)
  | .itemDrop _ => true
  | .itemRead _ => true
  | .secSet S tol lamp mark _ =>
      decide (fitsHalf S ∧ fitsByte tol ∧ fitsByte lamp ∧ ∀ m ∈ mark, fitsHalf m)
  | .walkAbandon S => decide (fitsHalf S)
  | .walkRead x => decide (fitsByte x)
  | .claimqRead => true
  | .attNext => true
  | .attAck S => decide (fitsHalf S)
  | .secRead S => decide (fitsHalf S)
  | .secList S _ start => decide (fitsHalf S ∧ fitsWord start)
  | .secReset S => decide (fitsHalf S)
  | .circOut _ => true
  | .circIn _ => true
  | .itemClear _ => true
  | .campStart => true
  | .campPause => true
  | .campResume => true
  | .campClose => true
  | .campRead => true
  | .watchSet x _ _ cls _ => decide (fitsByte x ∧ fitsByte cls)
  | .watchClear x => decide (fitsByte x)
  | .watchRead x => decide (fitsByte x)
  | .watchNext => true
  | .watchAck x => decide (fitsByte x)
  | .lampForce m _ => decide (fitsByte m)
  | .wandRead w => decide (fitsByte w)
  | .evtClear _ => true
  | .evtForce _ => true
  | .evtEnable _ => true
  | .evtRoute _ => true
  | .evtRead => true
  | .setWrite key value => decide (fitsByte key ∧ fitsHalf value)
  | .setRead => true
  | .frameReceived f => decide (f.payload.length ≤ 255)
  | .framingError => true
  | .receiverGap => true
  | .frameSent => true
  | .badFrame _ kind => decide (¬ isWandKind kind)
  | .hello _ => true
  | .sight _ reads => decide (reads.length ≤ 28)
  | .claim _ S => decide (fitsHalf S)
  | .walkendComplete _ => true
  | .walkendBreak _ => true
  | .whereIs _ _ => true
  | .shelved _ _ => true
  | .keep _ => true
  | .decayTick => true
  | .leaseExpiry _ => true
  | .revisionExpiry _ => true
  | .campaignClockSecond => true
  | .lampPhaseWrap => true
  | .deviceReset _ => true
  | .byteReceived _ => true
  | .resetRelease => true
  | .walkendOtherMode _ mode => decide (mode ≠ 1 ∧ mode ≠ 2)

/-- A command that the wires can carry. -/
abbrev Instr.WellFormed (i : Instr) : Prop := i.wellFormed = true

end Sys2Proof
end

