-- ==== Sys2Proof/Safety.lean ====
section
/-!
DEFINITION. What counts as a safe run, and the terms in which the statements speak: when a request is
served and a frame taken, what an event answers, and the invariants that the manual states of the
whole part.
-/

namespace Sys2Proof.Machine

/-! ### Requests -/

/-- The lost flag, which the port keeps while WORKING (R193). -/
def State.lost (s : State) : Bool :=
  match s.port with
  | .working _ lost => lost
  | .idle => false
  | .holding _ _ => false

/-- The port is free to carry out a request: RESET is released, and no other request is WORKING
(R193, R196, R198). In WORKING it is the request taken; that it is taken and carried out at once in
IDLE and HOLDING is the model's choice (notes/assumptions/2.md). -/
def State.Serves (s : State) (request : Instr) : Prop :=
  s.resetAsserted = false ∧ ∀ h lost, s.port = .working h lost → h = .request request

/-- From `s` the request leads to `u`, and `u` holds its response: the request code echoed, the
status and the results, and the lost flag kept from WORKING (R193, R196, R212). -/
def Answers (s : State) (request : Instr) (u : State) (status : Status) (results : List Field) :
    Prop :=
  exec request s = .next u ∧
    ∃ code args, requestPacket request = some (code, args) ∧
      u.port = .holding ⟨code, status, results⟩ s.lost

/-! ### Frames -/

/-- The frame may be taken: RESET is released, fewer than 32 frames wait to be sent, and the frame is
at the head of the receive queue or comes to an empty one (R176). That a frame may come to an empty
queue without the receiver is the model's choice (notes/assumptions/3.md). -/
def State.Takes (s : State) (frame : Instr) : Prop :=
  s.resetAsserted = false ∧ s.sendQueue.length < 32 ∧
    (s.rxQueue = [] ∨ s.rxQueue.head? = some frame)

/-- From `s` the taking of the frame leads to `u`: it leaves the receive queue, the last-frame time of
its wand is written, and its ANSWER, and then the notices, join the tail of the send queue (R176,
R177, R178). -/
def Taken (s : State) (frame : Instr) (u : State) (code : FrameCode) (fields : List Field)
    (notices : List PartFrame) : Prop :=
  exec frame s = .next u ∧ u.rxQueue = s.rxQueue.tail ∧
    ∃ w kind payload, wandFrame frame = some (w, kind, payload) ∧
      u.lastFrame = s.lastFrame.set w (some s.clock) ∧
      u.sendQueue = s.sendQueue ++ .answer w kind code fields :: notices

/-- A context after the taking of a frame of a wand: its lease loaded if the wand walks in it
(R57). -/
def State.leaseLoaded (s : State) (w : Wand) (x : CtxId) : Option Context :=
  if s.walkOf w = some x then
    (s.ctx x).map fun c => { c with lease := some (s.settings.leaseInterval * 1000) }
  else s.ctx x

/-- The payload length that a kind requires, for the seven wand frame kinds (R175, R210). -/
def requiredLength (kind : Byte) (payload : List Byte) : Option Nat :=
  match kind.toNat with
  | 1 => some 0
  | 2 => some (1 + 9 * (payload.headD 0).toNat)
  | 3 => some 2
  | 4 => some 1
  | 5 => some 8
  | 6 => some 8
  | 7 => some 0
  | _ => none

/-- A frame is a notice, not an ANSWER (R177). -/
def PartFrame.isNotice : PartFrame → Bool
  | .answer _ _ _ _ => false
  | .grant _ _ _ _ => true
  | .suspended _ _ => true
  | .drop _ _ _ => true

/-! ### Placement and completion -/

/-- A home item of a section that a judgement there takes afresh: UNSEEN, PASSED, NOT_FOUND, DESK, or a
stray (R83). -/
def Item.FreshAt (r : Item) (S : SecId) : Prop :=
  r.home = some S ∧ (r.count = .unseen ∨ r.count = .passed ∨ r.count = .notFound ∨ r.count = .desk ∨
    r.count = .elsewhere)

/-- An item judged afresh at home enters a count state: its found fields are written, a stray is moved,
and one on LOAN takes the conflict (R83, R89). -/
def Item.foundAtHome (r : Item) (c : Context) (clock : Nat) (st : CountState)
    (prior : Option CountState) : Item :=
  { r with
    count := st
    found := some ⟨c.sec, c.cursor, clock⟩
    prior := prior
    sight := min 15 (r.sight + 1)
    moved := r.moved || decide (r.count = .elsewhere)
    conflict := r.conflict || decide (r.circ = some .loan) }

/-- The sections after an item has been judged afresh at home: a stray leaves the chain it stood on, the
walked section and that of the chain are bumped once, and attention is set if `attends` (R79, R83,
R108). -/
def SectionsAfterFinding (s : State) (S : SecId) (r : Item) (attends : Bool) (u : State) : Prop :=
  ∀ X : SecId, u.sec X = { s.sec X with
    chain :=
      if r.count = .elsewhere ∧ r.foundIn = some X then (s.sec X).chain.filter fun t => t ≠ r.tag
      else (s.sec X).chain
    attention := (s.sec X).attention || (attends && decide (X = S))
    generation := (s.sec X).generation +
      if X = S ∨ (r.count = .elsewhere ∧ r.foundIn = some X) then 1 else 0 }

/-- What the completion of a walk makes of the state, and the notices it makes ready: the tally of the
section's home items, walks completed, WALK_DONE, the walker's WAITING entries released, the context
freed, TALLIED, and a new walk for the oldest waiter in the free context of lowest index (R54, R60,
R62, R102, R103). -/
def CompletionOf (s : State) (x : CtxId) (c : Context) (u : State) (notices : List PartFrame) : Prop :=
  u.items = (s.items.map fun r =>
    if r.home = some c.sec then
      match r.count with
      | .held => { r with count := .disordered, prior := none }
      | .unseen | .passed =>
        { r with
          count := if r.circ = some .loan then .desk else .notFound
          found := none }
      | _ => r
    else r) ∧
  (∀ S : SecId, S ≠ c.sec → u.sec S = s.sec S) ∧
  (∀ w', c.walker = some w' → ∀ k : Fin 24, (u.table w').entries[k] =
    match (s.table w').entries[k] with
    | .waiting t a f => .confirmed t s.settings.holdTicks a f
    | e => e) ∧
  (∀ v : Wand, c.walker ≠ some v → u.table v = s.table v) ∧
  (∀ v : Wand, u.table v = { s.table v with entries := (u.table v).entries }) ∧
  ∃ attends changed : Bool,
    (attends = true ↔ ∃ r ∈ s.items, r.home = some c.sec ∧ (r.count = .held ∨
      ((r.count = .unseen ∨ r.count = .passed) ∧ r.circ ≠ some .loan))) ∧
    (changed = true ↔ ∃ r ∈ s.items, r.home = some c.sec ∧
      (r.count = .held ∨ r.count = .unseen ∨ r.count = .passed)) ∧
    u.events = { s.events with
      raw := s.events.raw |||
        (if attends && !(s.sec c.sec).attention then EventKind.attention.set else 0) |||
        EventKind.walkDone.set } ∧
    ((∀ q ∈ s.claims, q.sec ≠ c.sec) →
      notices = [] ∧ u.claims = s.claims ∧ u.ctx x = none ∧
      (∀ y : CtxId, y ≠ x → u.ctx y = s.ctx y) ∧
      u.sec c.sec = { s.sec c.sec with
        state := .tallied
        context := none
        walks := min 255 ((s.sec c.sec).walks + 1)
        attention := (s.sec c.sec).attention || attends
        generation := (s.sec c.sec).generation + if changed then 2 else 1 }) ∧
    (∀ q, (s.claims.find? fun q => q.sec = c.sec) = some q →
      ∃ y : CtxId, (y = x ∨ s.ctx y = none) ∧ (∀ z : CtxId, z < y → z ≠ x ∧ s.ctx z ≠ none) ∧
        notices = [.grant q.wand c.sec false y] ∧
        u.claims = s.claims.filter (fun p => p.wand ≠ q.wand) ∧
        (∀ z : CtxId, u.ctx z =
          if z = y then some
            { sec := c.sec, walker := some q.wand, cursor := 0, run := [], park := [],
              lease := some (s.settings.leaseInterval * 1000), markHit := false }
          else if z = x then none
          else s.ctx z) ∧
        u.sec c.sec = { s.sec c.sec with
          state := .walking
          context := some y
          walks := min 255 ((s.sec c.sec).walks + 1)
          attention := (s.sec c.sec).attention || attends
          generation := (s.sec c.sec).generation + if changed then 3 else 2 })

/-! ### The drain (R95, R97) -/

/-- A list up to and with its first element of which a test holds; whole if there is none. -/
def throughFirst {α : Type} (p : α → Bool) : List α → List α
  | [] => []
  | a :: rest => if p a then [a] else a :: throughFirst p rest

/-- The tag at the head of a walk's park queue is removed from it and judged (R95, step 1). -/
def applyParked (x : CtxId) (s : State) (t : Tag) : State :=
  (judge x t (s.modCtx x fun c => { c with park := c.park.tail })).state

/-- A WAITING entry of the walker is made CONFIRMED with its hold set, and its tag is judged (R95,
step 2). -/
def applyWaiting (x : CtxId) (w : Wand) (s : State) (i : Fin 24) : State :=
  match (s.table w).entries[i] with
  | .waiting t a f =>
    (judge x t (s.setTable w { s.table w with
      entries := (s.table w).entries.set i (.confirmed t s.settings.holdTicks a f) })).state
  | _ => s

/-- The confirmation sequence number of a WAITING entry (R27). -/
def CandTable.waitingSeq (t : CandTable) (i : Fin 24) : Option Nat :=
  match t.entries[i] with
  | .waiting _ _ f => some f
  | _ => none

/-- The positions of a table's WAITING entries, in ascending confirmation sequence (R40). -/
def CandTable.WaitingInOrder (t : CandTable) (order : List (Fin 24)) : Prop :=
  (∀ i : Fin 24, i ∈ order ↔ t.waitingSeq i ≠ none) ∧
    order.Pairwise fun i j => ∀ f g, t.waitingSeq i = some f → t.waitingSeq j = some g → f < g

/-! ### Runs -/

/-- The state after commands taken one after another. -/
def runAll : List Instr → State → State
  | [], s => s
  | c :: rest, s =>
    match exec c s with
    | .next t => runAll rest t
    | .fault _ => s
    | .refused _ => s

/-- No step of a run of `k` steps stops with a fault or a refusal. -/
def RunsOn : Nat → State → Prop
  | 0, _ => True
  | k + 1, s => ∃ t, step s = .next t ∧ RunsOn k t

/-! ### Timers at their end (7.3, R138) -/

/-- The command is the expiry of a timer that runs in the present campaign state and has come to its end:
no time remains on a decay tick, a lease or a revision, a whole second or phase has passed, or more than
1 ms since a byte of the frame being gathered (R138). -/
def TimerOut (s : State) : Instr → Prop
  | .receiverGap => ∃ bytes gap, s.receiver = .gather bytes gap ∧ 1 < gap
  | .lampPhaseWrap => 2000 ≤ s.lampPhase
  | .decayTick => s.campaign ≠ .paused ∧ s.decayLeft = 0
  | .campaignClockSecond => s.campaign = .running ∧ 1000 ≤ s.clockPart
  | .leaseExpiry x => s.campaign = .running ∧
      ∃ c, s.ctx x = some c ∧ c.walker.isSome = true ∧ c.lease = some 0
  | .revisionExpiry S => s.campaign ≠ .paused ∧ (s.sec S).revision = some 0
  | _ => False

/-- The command is one of the six expiries of 7.3. -/
def IsExpiry (c : Instr) : Prop :=
  c = .receiverGap ∨ c = .lampPhaseWrap ∨ c = .decayTick ∨ c = .campaignClockSecond ∨
    (∃ x, c = .leaseExpiry x) ∨ ∃ S, c = .revisionExpiry S

/-! ### Invariants -/

/-- Every setting lies within its range (R207). -/
def SettingsInRange (k : Settings) : Prop :=
  k.readFloor ≤ 255 ∧ (64 ≤ k.confirmThreshold ∧ k.confirmThreshold ≤ 1023) ∧
    (k.decayTick = 16 ∨ k.decayTick = 32 ∨ k.decayTick = 64 ∨ k.decayTick = 128) ∧
    (1 ≤ k.holdTicks ∧ k.holdTicks ≤ 63) ∧ (30 ≤ k.leaseInterval ∧ k.leaseInterval ≤ 600) ∧
    (1 ≤ k.revisionLimit ∧ k.revisionLimit ≤ 60) ∧ k.defaultTolerance ≤ 15 ∧
    (2 ≤ k.resyncLength ∧ k.resyncLength ≤ 8) ∧ (1 ≤ k.adoptThreshold ∧ k.adoptThreshold ≤ 4096)

/-- No two records carry the same tag (they rise by tag, the model's canonical form), and there are at
most 131,072 (R1). -/
def ItemsCanonical (items : List Item) : Prop :=
  items.Pairwise (fun a b => a.tag.toNat < b.tag.toNat) ∧ items.length ≤ 131072

/-- The receive queue holds at most 8 frames (R176). -/
def ReceiveBounded (s : State) : Prop := s.rxQueue.length ≤ 8

/-- A score lies within 1..1023 and a hold within 0..63 (R25, R26). -/
def Entry.Bounded : Entry → Prop
  | .free => True
  | .gathering _ score _ => 1 ≤ score ∧ score ≤ 1023
  | .confirmed _ hold _ _ => hold ≤ 63
  | .waiting _ _ _ => True

/-- A candidate table holds no tag twice, and its scores and holds are within their ranges (R25,
R26). -/
def CandTable.Sound (t : CandTable) : Prop :=
  (∀ i : Fin 24, t.entries[i].Bounded) ∧
    ∀ (i j : Fin 24) (tag : Tag), t.entries[i].tag? = some tag → t.entries[j].tag? = some tag → i = j

/-- The settings are in range and every candidate table is sound (R25, R207). -/
def TablesSound (s : State) : Prop := SettingsInRange s.settings ∧ ∀ w : Wand, (s.table w).Sound

/-- A walk exists in this state of a section (R47). -/
def SecState.walked (st : SecState) : Prop := st = .walking ∨ st = .suspended

/-- The walks and the claim queue agree with the sections: a context is in use exactly when its
section is WALKING or SUSPENDED, the two name each other, a WALKING section has a walker and a
SUSPENDED one none, a wand walks at most one section, stands in at most one claim queue entry and
never both, an entry names a WALKING section, and no walk exists in STOPPED and CLOSED (R47, R49,
R57, R136). -/
def WalksSound (s : State) : Prop :=
  (∀ (S : SecId) (x : CtxId),
    (s.sec S).context = some x ↔ ∃ c, s.ctx x = some c ∧ c.sec = S) ∧
  (∀ S : SecId, (s.sec S).context.isSome = true ↔ (s.sec S).state.walked) ∧
  (∀ (x : CtxId) (c : Context), s.ctx x = some c →
    (c.walker.isSome = true ↔ (s.sec c.sec).state = .walking) ∧
    c.lease.isSome = c.walker.isSome) ∧
  (∀ (x y : CtxId) (c d : Context) (w : Wand), s.ctx x = some c → s.ctx y = some d →
    c.walker = some w → d.walker = some w → x = y) ∧
  (s.claims.map fun q => q.wand).Nodup ∧
  (∀ q ∈ s.claims, s.walkOf q.wand = none ∧ (s.sec q.sec).state = .walking) ∧
  (s.campaign = .stopped ∨ s.campaign = .closed → s.claims = [] ∧ ∀ x : CtxId, s.ctx x = none)

/-- Home items and expected sequences agree: every section's sequence holds each of its home items
once and nothing else, and no home item is in UNLISTED or would return to it (R1, R2, R5). -/
def ListsSound (s : State) : Prop :=
  ItemsCanonical s.items ∧
  (∀ r ∈ s.items, (r.home.isSome = true → r.count ≠ .unlisted) ∧ r.prior ≠ some .unlisted) ∧
  ∀ S : SecId, (s.sec S).expected.Nodup ∧
    ∀ t : Tag, t ∈ (s.sec S).expected ↔ ∃ r ∈ s.items, r.tag = t ∧ r.home = some S

/-- The count state is one that a walk or SHELVED gives by a finding at home (R2). -/
def CountState.AtHome (c : CountState) : Prop := c = .held ∨ c = .inPlace ∨ c = .disordered

/-- The count state is that of a record on a foreign chain (R106). -/
def CountState.OnChain (c : CountState) : Prop := c = .elsewhere ∨ c = .unlisted

/-- The fields present in a record follow from its count state: home and circulation but in UNLISTED, the
found group in the found states alone, found-in the home or another section as the state says, and a
prior state in HELD alone, to which the item can return without a finding (R2). -/
def Item.FieldsSound (r : Item) : Prop :=
  (r.home = none ↔ r.count = .unlisted) ∧ (r.circ = none ↔ r.count = .unlisted) ∧
  (r.found.isSome = true ↔ r.count.AtHome ∨ r.count.OnChain) ∧
  (r.count.AtHome → r.foundIn = r.home) ∧ (r.count = .elsewhere → r.foundIn ≠ r.home) ∧
  (r.prior.isSome = true ↔ r.count = .held) ∧
  ∀ p, r.prior = some p → ¬ p.AtHome ∧ ¬ p.OnChain

/-- Every record has the fields of its count state (R2). -/
def RecordsSound (s : State) : Prop := ∀ r ∈ s.items, r.FieldsSound

/-- A record stands on a section's foreign chain exactly when it is ELSEWHERE or UNLISTED with found-in
that section, and once (R106). -/
def ChainsSound (s : State) : Prop :=
  ∀ S : SecId, (s.sec S).chain.Nodup ∧
    ∀ t : Tag, t ∈ (s.sec S).chain ↔
      ∃ r ∈ s.items, r.tag = t ∧ r.count.OnChain ∧ r.foundIn = some S

/-- A walk's cursor lies within 0..n of its section (R73). -/
def CursorsSound (s : State) : Prop :=
  ∀ (x : CtxId) (c : Context), s.ctx x = some c → c.cursor ≤ (s.sec c.sec).expected.length

/-- An item is HELD exactly while it stands in the run list of its home's walk; a run's entries stand in
ascending ordinal order, at most 7 of them (R74). -/
def RunsSound (s : State) : Prop :=
  (∀ r ∈ s.items, r.count = .held →
    ∃ (x : CtxId) (c : Context), s.ctx x = some c ∧ r.home = some c.sec ∧ r.tag ∈ c.run) ∧
  ∀ (x : CtxId) (c : Context), s.ctx x = some c →
    (∀ t ∈ c.run, ∃ r ∈ s.items, r.tag = t ∧ r.home = some c.sec ∧ r.count = .held) ∧
    c.run.Pairwise (fun t u => s.ordinal c.sec t < s.ordinal c.sec u) ∧ c.run.length ≤ 7

/-- A park queue holds at most 32 entries, and is empty while its section's revision is closed (R93). -/
def ParksSound (s : State) : Prop :=
  ∀ (x : CtxId) (c : Context), s.ctx x = some c →
    c.park.length ≤ 32 ∧ ((s.sec c.sec).revision = none → c.park = [])

/-- What the manual states of the part at every moment, as far as it is stated here. -/
def Sound (s : State) : Prop :=
  ReceiveBounded s ∧ TablesSound s ∧ WalksSound s ∧ ListsSound s ∧ RecordsSound s ∧
    ChainsSound s ∧ CursorsSound s ∧ RunsSound s ∧ ParksSound s

end Sys2Proof.Machine
end

