-- ==== Sys2Proof/Certificates/Slice0/Obligations.lean ====
section
/-!
DEFINITION. The statements for the provers. `Answers` and `Taken` (Sys2Proof.Safety) say that a
request is carried out and that a frame is taken; an equation `u = { s with … := u.… }` is a frame:
nothing changes but the fields it names.
-/

open Sys2Proof Sys2Proof.Machine

/-! ### The step -/

/-- The step takes the command at the front of the queue and runs it on the rest. -/
def Obligations.StepRunsTheFrontCommand : Prop :=
  ∀ (c : Instr) (rest : List Instr) (s : State),
    step { s with pending := c :: rest } = exec c { s with pending := rest }

/-- The part never stops: every command, in every state, answers a next state, and leaves the commands
that wait as they are. -/
def Obligations.EveryCommandGoesOnAndKeepsTheQueue : Prop :=
  ∀ (c : Instr) (s : State), ∃ t, exec c s = .next t ∧ t.pending = s.pending

/-! ### The catalogue port -/

/-- Encode and decode agree for all 39 requests: in IDLE and HOLDING, a write transfer of the packet of
a request moves the port to WORKING on exactly that request, and changes nothing else but what SDO
carries: 00H during the direction byte, and high impedance once the transfer is over. That a SEC_SET mark
of 65535 is the number, although R209 also sends a mark of none as FFFFH, is the model's choice
(notes/assumptions/27.md). -/
def Obligations.WriteTransferTakesEveryRequest : Prop :=
  ∀ (i : Instr) (code : Byte) (args : List Byte) (s : State), i.WellFormed →
    requestPacket i = some (code, args) → s.resetAsserted = false →
    (∀ inHand lost, s.port ≠ .working inHand lost) →
    ∃ u, exec (.writeTransfer (code :: (bytesOf 2 args.length ++ args))) s = .next u ∧
      u = { s with
        port := .working (.request i) false, sdoTrace := u.sdoTrace, freeIndex := u.freeIndex } ∧
      u.sdoTrace.head? = some (.driven 0) ∧ u.sdoPin = .highImpedance

/-- What takes no request: a write transfer of fewer than four bytes and an ignored transfer, through
which SDO carries 00H, leave the port; a packet that fails the envelope check goes through WORKING, and
is answered BAD_REQUEST with its code echoed by the next step on an empty queue (that the processing
takes a step is the model's choice, notes/assumptions/4.md). SDO is high impedance after each. -/
def Obligations.TransfersThatTakeNoRequest : Prop :=
  (∀ (packet : List Byte) (s : State), s.resetAsserted = false → packet.length < 3 →
    ∃ u, exec (.writeTransfer packet) s = .next u ∧
      u = { s with sdoTrace := u.sdoTrace, freeIndex := u.freeIndex } ∧
      u.sdoTrace.head? = some (.driven 0) ∧ u.sdoPin = .highImpedance) ∧
  (∀ (why : IgnoredTransfer) (n : Nat) (s : State), s.resetAsserted = false →
    n = (match why with
      | .badDirection _ more => more + 1
      | .cutShort => 0
      | .selectHeld clocked => clocked) →
    ∃ u, exec (.ignoredTransfer why) s = .next u ∧ u = { s with sdoTrace := u.sdoTrace } ∧
      u.sdoTrace = List.replicate n (.driven 0) ++ [.highImpedance] ∧ u.sdoPin = .highImpedance) ∧
  ∀ (code hi lo : Byte) (args : List Byte) (s : State), s.resetAsserted = false →
    (∀ inHand lost, s.port ≠ .working inHand lost) →
    (requestLength code = none ∨ ∃ n, requestLength code = some n ∧
      (hi.toNat * 256 + lo.toNat ≠ n ∨ args.length ≠ hi.toNat * 256 + lo.toNat)) →
    ∃ u, exec (.writeTransfer (code :: hi :: lo :: args)) s = .next u ∧
      u = { s with
        port := .working (.malformed code) false
        sdoTrace := u.sdoTrace
        freeIndex := u.freeIndex } ∧
      u.sdoPin = .highImpedance ∧
      (s.pending = [] → s.gathered = [] →
        step u = .next { u with port := .holding ⟨code, .badRequest, []⟩ false })

/-- A complete write transfer that ends while the port is WORKING is refused: the request or the refused
packet in hand stays, the lost flag is set, and its response is delivered with READY_LOST. That the
command of the request in hand carries it out (notes/assumptions/2.md), and that a step on an empty queue
with nothing gathered ends the processing of a refused packet (notes/assumptions/4.md), is the model's
choice. -/
def Obligations.WriteWhileWorkingIsLost : Prop :=
  ∀ (inHand : InHand) (lost : Bool) (code hi lo : Byte) (args : List Byte) (s : State),
    s.resetAsserted = false → s.port = .working inHand lost →
    ∃ u, exec (.writeTransfer (code :: hi :: lo :: args)) s = .next u ∧
      u = { s with port := .working inHand true, sdoTrace := u.sdoTrace, freeIndex := u.freeIndex } ∧
      ((match inHand with
        | .request r => (requestPacket r).isSome = true
        | .malformed _ => s.pending = [] ∧ s.gathered = []) →
        ∃ v response,
          (match inHand with
            | .request r => exec r u = .next v
            | .malformed c => step u = .next v ∧ response = ⟨c, .badRequest, []⟩) ∧
          v.port = .holding response true ∧
          ∀ n, 2 ≤ n →
            ∃ z, exec (.readTransfer n) v = .next z ∧ z.sdoTrace[1]? = some (.driven 0x0B))

/-- A read transfer sends the marker of the port state, and the response it holds, and leaves SDO high
impedance; delivering the response leaves the port IDLE, and a NONE or a WAIT leaves the port as it
was. -/
def Obligations.ReadTransferReportsThePort : Prop :=
  ∀ (n : Nat) (s : State), s.resetAsserted = false → 2 ≤ n →
    ∃ u, exec (.readTransfer n) s = .next u ∧
      u = { s with port := u.port, sdoTrace := u.sdoTrace, freeIndex := u.freeIndex } ∧
      u.sdoTrace.length = n + 1 ∧ u.sdoTrace[0]? = some (.driven 0) ∧
      u.sdoTrace[n]? = some .highImpedance ∧ u.sdoPin = .highImpedance ∧
      match s.port with
      | .idle =>
        u.port = .idle ∧ u.sdoTrace[1]? = some (.driven 0x00) ∧
          ∀ j, j + 2 < n → u.sdoTrace[j + 2]? = some (.driven 0)
      | .working inHand lost =>
        u.port = .working inHand lost ∧ u.sdoTrace[1]? = some (.driven 0x0E) ∧
          ∀ j, j + 2 < n → u.sdoTrace[j + 2]? = some (.driven 0)
      | .holding r lost =>
        u.port = .idle ∧ u.sdoTrace[1]? = some (.driven (if lost then 0x0B else 0x0A)) ∧
          ∃ results, results = (fieldsBytes s.freeIndex r.results).1 ∧
            ∀ j, j + 2 < n → u.sdoTrace[j + 2]? = some (.driven
              ((r.code :: BitVec.ofNat 8 r.status.code ::
                (bytesOf 2 results.length ++ results)).getD j 0))

/-- A request that is carried out echoes its code; one that is refused carries no results and changes
no state. -/
def Obligations.RefusedRequestsChangeNoState : Prop :=
  ∀ (i : Instr) (code : Byte) (args : List Byte) (s : State),
    requestPacket i = some (code, args) → s.Serves i →
    ∃ u status results, Answers s i u status results ∧
      (status = .done ∨ status = .clamped ∨
        (results = [] ∧ u = { s with port := .holding ⟨code, status, []⟩ s.lost }))

/-! ### Reset and the lines -/

/-- A device reset takes every block to its reset state, whose values are those of the manual. LTX goes to
its idle level, and a frame being sent is cut off before its last byte; the record of it, the commands
that wait and the count of free values are the model's own (notes/assumptions/7.md, 18.md). -/
def Obligations.DeviceResetGivesTheResetValues : Prop :=
  (∀ (cause : ResetCause) (s : State), ∃ u, exec (.deviceReset cause) s = .next u ∧
    u = { State.reset with
      pending := s.pending
      ltxSent := u.ltxSent
      freeIndex := u.freeIndex
      resetAsserted := s.resetAsserted || decide (cause = .pinAsserted) } ∧
    u.ltxPin = .idleHigh ∧
    (s.resetAsserted = true ∨ s.sendQueue = [] →
      u.ltxSent = s.ltxSent ∧ u.freeIndex = s.freeIndex) ∧
    ∀ (f : PartFrame) (rest : List PartFrame), s.resetAsserted = false → s.sendQueue = f :: rest →
      ∃ n whole, whole = (f.bytes s.freeIndex).1 ∧ n < whole.length ∧
        u.ltxSent = some (.cutOff (whole.take n))) ∧
  State.reset.items = [] ∧
  (∀ S : SecId, State.reset.sec S =
    { state := .empty, revision := none, expected := [], tolerance := 3, lamp := none, mark := none,
      endMarker := none, chain := [], attention := false, generation := 0, walks := 0,
      context := none }) ∧
  (∀ (w : Wand) (i : Fin 24), (State.reset.table w).entries[i] = .free) ∧
  State.reset.decayLeft = 32 ∧ State.reset.claims = [] ∧ (∀ x : CtxId, State.reset.ctx x = none) ∧
  (∀ i : WatchId, State.reset.watch[i] =
    { valid := false, value := 0, mask := 0, cls := 0, oneShot := false, hits := 0,
      hitPending := false, last := none }) ∧
  State.reset.campaign = .stopped ∧ State.reset.clock = 0 ∧ State.reset.clockPart = 0 ∧
  (∀ m : LampId, State.reset.forces[m] = none ∧ State.reset.lampLit m = false) ∧
  State.reset.lampPhase = 0 ∧ State.reset.receiver = .hunt ∧ State.reset.rxQueue = [] ∧
  State.reset.sendQueue = [] ∧ (∀ w : Wand, State.reset.lastFrame[w] = none) ∧
  State.reset.ltxPin = .idleHigh ∧ State.reset.port = .idle ∧
  State.reset.sdoPin = .highImpedance ∧ State.reset.events.raw = 0 ∧ State.reset.events.enable = 0 ∧
  (∀ k : EventKind, State.reset.events.urgent.getLsbD k.bit = true ↔
    k = .leaseExpired ∨ k = .revisionExpired ∨ k = .tableFull ∨ k = .filterSaturated) ∧
  State.reset.settings =
    { readFloor := 40, confirmThreshold := 300, decayTick := 32, holdTicks := 8,
      leaseInterval := 120, revisionLimit := 10, defaultTolerance := 3, resyncLength := 3,
      adoptThreshold := 64 }

/-- While RESET is asserted no command but a reset and the release acts (the manual says it of the
ports; of the part's own events it is the model's choice, notes/assumptions/8.md), both lines are
released, SDO is high impedance, LTX is at the idle level and every lamp is dark. The release lets the
part go on from its state. -/
def Obligations.InResetOnlyTheReleaseActs : Prop :=
  (∀ (c : Instr) (s : State), s.resetAsserted = true → (∀ cause, c ≠ .deviceReset cause) →
    c ≠ .resetRelease → exec c s = .next s) ∧
  (∀ s : State, exec .resetRelease s = .next { s with resetAsserted := false }) ∧
  ∀ s : State, s.resetAsserted = true →
    s.attnAsserted = false ∧ s.urgentAsserted = false ∧ s.sdoPin = .highImpedance ∧
      s.ltxPin = .idleHigh ∧
      ∀ m : LampId, s.lampLit m = false

/-- Each notification line is asserted exactly while at least one event kind routed to it is raw-set
and enabled, and both are released while RESET is asserted. -/
def Obligations.LinesFollowRawEnableAndRoute : Prop :=
  ∀ s : State,
    (s.attnAsserted = true ↔ s.resetAsserted = false ∧ ∃ k : EventKind,
      s.events.raw.getLsbD k.bit = true ∧ s.events.enable.getLsbD k.bit = true ∧
        s.events.urgent.getLsbD k.bit = false) ∧
    (s.urgentAsserted = true ↔ s.resetAsserted = false ∧ ∃ k : EventKind,
      s.events.raw.getLsbD k.bit = true ∧ s.events.enable.getLsbD k.bit = true ∧
        s.events.urgent.getLsbD k.bit = true)

/-! ### The stack link -/

/-- The receiver: every frame sent on LRX from the sync byte on is gathered whole, whatever bytes it
holds; in HUNT any byte but the sync byte is ignored; a framing error and a gap abandon a frame, and
the byte after a gap is examined as in HUNT. The gap is counted in whole milliseconds, and a RECEIVER_GAP
that comes before more than one has passed abandons nothing (notes/assumptions/5.md, 6.md). -/
def Obligations.ReceiverGathersWholeFrames : Prop :=
  (∀ (f : RawFrame) (s : State), f.payload.length ≤ 255 → s.resetAsserted = false →
    s.receiver = .hunt →
    runAll ((wireBytes f).map Instr.byteReceived) s = { s with gathered := s.gathered ++ [f] }) ∧
  (∀ (b : Byte) (s : State), s.resetAsserted = false → s.receiver = .hunt →
    exec (.byteReceived b) s =
      .next { s with receiver := if b = 0x7E then .gather [] 0 else .hunt }) ∧
  (∀ (b : Byte) (bytes : List Byte) (gap : Nat) (s : State), s.resetAsserted = false →
    s.receiver = .gather bytes gap → 1 < gap →
    exec (.byteReceived b) s = exec (.byteReceived b) { s with receiver := .hunt }) ∧
  ∀ s : State, s.resetAsserted = false →
    exec .framingError s = .next { s with receiver := .hunt } ∧
    (s.receiver = .hunt → exec .receiverGap s = .next s) ∧
    ∀ bytes gap, s.receiver = .gather bytes gap →
      exec .receiverGap s = .next (if 1 < gap then { s with receiver := .hunt } else s)

/-- The checks of a gathered frame, in their order: a wrong CRC, a wand number above 15 or a wrong
length discards it; any other joins the tail of the receive queue as the frame it is, with its wand,
kind and payload, unless 8 frames stand there. The payload of a kind that is not a wand frame kind is
dropped, the model's choice (notes/assumptions/23.md). -/
def Obligations.FrameChecksDecideItsFate : Prop :=
  ∀ (f : RawFrame) (rest : List RawFrame) (s : State), s.resetAsserted = false →
    s.gathered = f :: rest →
    ∃ u, exec (.frameReceived f) s = .next u ∧
      u = { s with gathered := rest, rxQueue := u.rxQueue } ∧
      if crc16 (f.wand :: f.kind :: BitVec.ofNat 8 f.payload.length :: f.payload) ≠ f.crc then
        u.rxQueue = s.rxQueue
      else if 15 < f.wand.toNat then u.rxQueue = s.rxQueue
      else if (requiredLength f.kind f.payload).any fun n => f.payload.length ≠ n then
        u.rxQueue = s.rxQueue
      else
        ∃ i w, wandFrame i =
            some (w, f.kind, if requiredLength f.kind f.payload = none then [] else f.payload) ∧
          w.val = f.wand.toNat ∧
          u.rxQueue = if s.rxQueue.length < 8 then s.rxQueue ++ [i] else s.rxQueue

/-- Encode and decode agree for all wand frames: a frame sent with its CRC passes the checks and joins
the receive queue as exactly the frame it was. That it is checked although BYTE_RECEIVED has not
gathered it is the model's choice (notes/assumptions/15.md). -/
def Obligations.EveryWandFrameJoinsTheReceiveQueue : Prop :=
  ∀ (i : Instr) (w : Wand) (kind : Byte) (payload : List Byte) (s : State), i.WellFormed →
    wandFrame i = some (w, kind, payload) → s.resetAsserted = false → s.gathered = [] →
    s.rxQueue.length < 8 →
    exec (.frameReceived (rawFrame w kind payload)) s =
      .next { s with rxQueue := s.rxQueue ++ [i] }

/-- The frame at the head of the send queue is sent whole with sync byte, envelope and CRC, a notice
with its payload, and leaves the queue. LTX sends that frame, then the next one, and is idle high when no
frame is to be sent. -/
def Obligations.HeadOfTheSendQueueIsSent : Prop :=
  (∀ s : State, s.resetAsserted = false → s.sendQueue = [] →
    exec .frameSent s = .next s ∧ s.ltxPin = .idleHigh) ∧
  ∀ (f : PartFrame) (rest : List PartFrame) (s : State), s.resetAsserted = false →
    s.sendQueue = f :: rest →
    ∃ u payload, exec .frameSent s = .next u ∧
      u = { s with sendQueue := rest, ltxSent := u.ltxSent, freeIndex := u.freeIndex } ∧
      (∃ covered, covered = BitVec.ofNat 8 f.wand.val :: BitVec.ofNat 8 f.kind ::
          BitVec.ofNat 8 payload.length :: payload ∧
        u.ltxSent = some (.whole (0x7E :: (covered ++ bytesOf 2 (crc16 covered).toNat)))) ∧
      s.ltxPin = .sending f ∧
      u.ltxPin = (match rest with
        | [] => .idleHigh
        | next :: _ => .sending next) ∧
      match f with
      | .answer _ kind code fields =>
        payload = kind :: BitVec.ofNat 8 code.code :: (fieldsBytes s.freeIndex fields).1
      | .grant _ S resumed x =>
        payload = bytesOf 2 S.val ++ [if resumed then 1 else 0, BitVec.ofNat 8 x.val]
      | .suspended _ S => payload = bytesOf 2 S.val
      | .drop _ S closed => payload = bytesOf 2 S.val ++ [if closed then 1 else 0]

/-- A taken frame leaves the receive queue, its wand's last-frame time is written, and exactly one
ANSWER is made ready, ahead of the event's notices; a frame whose answer is a refusal changes nothing
but what the taking itself changes. With 32 frames to send the frame waits. -/
def Obligations.TakenFrameIsAnsweredOnce : Prop :=
  (∀ (i : Instr) (w : Wand) (kind : Byte) (payload : List Byte) (s : State),
    wandFrame i = some (w, kind, payload) → s.Takes i →
    ∃ u code fields notices, Taken s i u code fields notices ∧ (∀ n ∈ notices, n.isNotice = true) ∧
      (code ≠ .ok → code ≠ .granted → code ≠ .queued →
        u = { s with
          contexts := u.contexts
          lastFrame := u.lastFrame
          rxQueue := u.rxQueue
          sendQueue := u.sendQueue } ∧
        notices = [] ∧ ∀ x : CtxId, u.ctx x = s.leaseLoaded w x)) ∧
  ∀ (i : Instr) (rest : List Instr) (s : State), (wandFrame i).isSome = true →
    s.rxQueue = i :: rest → 32 ≤ s.sendQueue.length → exec i s = .next s

/-- Which frames are answered PAUSED and which BAD_FRAME, in the order of R179, and the refusals of CLAIM
and WALKEND in their order. -/
def Obligations.FrameRefusalsComeInOrder : Prop :=
  (∀ (i : Instr) (w : Wand) (kind : Byte) (payload : List Byte) (s : State), i.WellFormed →
    wandFrame i = some (w, kind, payload) → s.Takes i → s.campaign = .paused →
    kind ≠ 0x01 → kind ≠ 0x05 → 1 ≤ kind.toNat → kind.toNat ≤ 7 →
    ∃ u, Taken s i u .paused [] []) ∧
  (∀ (w : Wand) (kind : Byte) (s : State), s.Takes (.badFrame w kind) →
    ∃ u, Taken s (.badFrame w kind) u .badFrame [] []) ∧
  (∀ (w : Wand) (mode : Byte) (s : State), s.Takes (.walkendOtherMode w mode) →
    s.campaign ≠ .paused → ∃ u, Taken s (.walkendOtherMode w mode) u .badFrame [] []) ∧
  (∀ (w : Wand) (reads : List TagRead) (s : State), s.Takes (.sight w reads) →
    s.campaign ≠ .paused → reads.length = 0 ∨ 8 < reads.length →
    ∃ u, Taken s (.sight w reads) u .badFrame [] []) ∧
  (∀ (w : Wand) (S : Nat) (s : State), s.Takes (.claim w S) → s.campaign ≠ .paused →
    (s.campaign ≠ .running → ∃ u, Taken s (.claim w S) u .notRunning [.num16 S] []) ∧
    (s.campaign = .running →
      (∀ x c, s.walkOf w = some x → s.ctx x = some c →
        ∃ u, Taken s (.claim w S) u .holding [.num16 c.sec.val] []) ∧
      (s.walkOf w = none →
        (511 < S → ∃ u, Taken s (.claim w S) u .noSection [.num16 S] []) ∧
        ∀ T : SecId, S = T.val →
          ((s.sec T).state = .empty →
            ∃ u, Taken s (.claim w S) u .noSection [.num16 S] []) ∧
          ((s.sec T).state = .ready ∨ (s.sec T).state = .tallied →
            (∀ x : CtxId, s.ctx x ≠ none) →
            ∃ u, Taken s (.claim w S) u .noContext [.num16 S] [])))) ∧
  ∀ (i : Instr) (w : Wand) (s : State), i = .walkendComplete w ∨ i = .walkendBreak w → s.Takes i →
    s.campaign ≠ .paused →
    (s.walkOf w = none → ∃ u, Taken s i u .notWalking [] []) ∧
    (i = .walkendComplete w → ∀ x c, s.walkOf w = some x → s.ctx x = some c →
      (s.sec c.sec).revision ≠ none → ∃ u, Taken s i u .revising [.num16 c.sec.val] [])

/-- HELLO from a wand that walks nothing frees its candidate table whole, gives up its place in the
claim queue, and answers OK with its standing, in every campaign state. -/
def Obligations.HelloFreesTheTableAndTheClaim : Prop :=
  ∀ (w : Wand) (s : State), s.Takes (.hello w) → s.walkOf w = none →
    ∃ u fields, Taken s (.hello w) u .ok fields [] ∧
      u = { s with
        tables := u.tables
        claims := s.claims.filter fun q => q.wand ≠ w
        lastFrame := u.lastFrame
        rxQueue := u.rxQueue
        sendQueue := u.sendQueue } ∧
      (∀ i : Fin 24, (u.table w).entries[i] = .free) ∧
      u.table w = { s.table w with entries := (u.table w).entries } ∧ (∀ v : Wand, v ≠ w → u.table v = s.table v) ∧
      fields = match s.claims.find? fun q => q.wand = w with
        | some q => [.standing .waiting, .num16 q.sec.val]
        | none => [.standing .none]

/-- WALKEND BREAK and HELLO from a walker suspend its walk: the context keeps all but walker and lease,
the section is SUSPENDED with one bump, no event is raised and no SUSPENDED notice is sent. BREAK
releases the wand's WAITING entries unapplied; HELLO frees its table. The oldest waiter for the section
is granted a resume in the same event: its claim leaves the queue, GRANT is sent, the context takes it
as walker with the lease loaded, and the section is WALKING with a second bump. -/
def Obligations.BreakAndHelloSuspendTheWalk : Prop :=
  ∀ (i : Instr) (w : Wand) (x : CtxId) (c : Context) (s : State),
    (i = .walkendBreak w ∧ s.campaign ≠ .paused) ∨ i = .hello w → s.Takes i →
    s.walkOf w = some x → s.ctx x = some c →
    (s.sec c.sec).context = some x ∨ (∀ q ∈ s.claims, q.sec ≠ c.sec) →
    ∃ u fields notices, Taken s i u .ok fields notices ∧
      u = { s with
        tables := u.tables
        sections := u.sections
        contexts := u.contexts
        claims := u.claims
        lastFrame := u.lastFrame
        rxQueue := u.rxQueue
        sendQueue := u.sendQueue } ∧
      (∀ y : CtxId, y ≠ x → u.ctx y = s.ctx y) ∧
      (∀ S : SecId, S ≠ c.sec → u.sec S = s.sec S) ∧
      (∀ v : Wand, v ≠ w → u.table v = s.table v) ∧
      u.table w = { s.table w with entries := (u.table w).entries } ∧
      (i = .hello w → fields = [.standing .walking, .num16 c.sec.val] ∧
        ∀ k : Fin 24, (u.table w).entries[k] = .free) ∧
      (i = .walkendBreak w → fields = [.num16 c.sec.val, .num8 2] ∧
        ∀ k : Fin 24, (u.table w).entries[k] =
          match (s.table w).entries[k] with
          | .waiting t a f => .confirmed t s.settings.holdTicks a f
          | e => e) ∧
      match s.claims.find? fun q => q.sec = c.sec with
      | none =>
        notices = [] ∧ u.claims = s.claims ∧
        u.ctx x = some { c with walker := none, lease := none } ∧
        u.sec c.sec = { s.sec c.sec with
          state := .suspended, generation := (s.sec c.sec).generation + 1 }
      | some q =>
        notices = [.grant q.wand c.sec true x] ∧
        u.claims = s.claims.filter (fun p => p.wand ≠ q.wand) ∧
        u.ctx x = some { c with
          walker := some q.wand, lease := some (s.settings.leaseInterval * 1000) } ∧
        u.sec c.sec = { s.sec c.sec with
          state := .walking, generation := (s.sec c.sec).generation + 2 }

/-- KEEP answers a wand's standing, and WHERE where a volume belongs, and neither changes anything
beyond the taking, which loads the walker's lease. That a waiter's position takes one byte in KEEP's
answer is the model's choice (notes/assumptions/25.md). -/
def Obligations.KeepAndWhereAnswerAndChangeNothing : Prop :=
  (∀ (w : Wand) (s : State), s.Takes (.keep w) → s.campaign ≠ .paused →
    ∃ u fields, Taken s (.keep w) u .ok fields [] ∧
      u = { s with
        contexts := u.contexts
        lastFrame := u.lastFrame
        rxQueue := u.rxQueue
        sendQueue := u.sendQueue } ∧
      (∀ x : CtxId, u.ctx x = s.leaseLoaded w x) ∧
      (∀ x c, s.walkOf w = some x → s.ctx x = some c →
        fields = [.standing .walking, .num16 c.sec.val, .num8 x.val, .num16 c.cursor,
          .num16 (s.sec c.sec).expected.length, .num8 c.run.length, .num8 c.park.length,
          .flag (s.sec c.sec).revision.isSome]) ∧
      (∀ n q, s.walkOf w = none → s.claims[n]? = some q → q.wand = w →
        (∀ m p, m < n → s.claims[m]? = some p → p.wand ≠ w) →
        fields = [.standing .waiting, .num16 q.sec.val, .num8 (n + 1)]) ∧
      (s.walkOf w = none → (∀ q ∈ s.claims, q.wand ≠ w) → fields = [.standing .none])) ∧
  ∀ (w : Wand) (t : Tag) (s : State), s.Takes (.whereIs w t) →
    ∃ u code fields, Taken s (.whereIs w t) u code fields [] ∧
      u = { s with
        contexts := u.contexts
        lastFrame := u.lastFrame
        rxQueue := u.rxQueue
        sendQueue := u.sendQueue } ∧
      (∀ x : CtxId, u.ctx x = s.leaseLoaded w x) ∧
      match s.item? t with
      | none => code = .noItem ∧ fields = []
      | some r =>
        match r.home with
        | none => code = .noHome ∧ fields = [.num16Opt (r.found.map fun f => f.sec.val)]
        | some H =>
          ∃ k, k = s.ordinal H t ∧ code = .ok ∧
            fields = [.num16 H.val, .num16 k, .count r.count,
              .tagOpt (if k = 0 then none else (s.sec H).expected[k - 1]?),
              .tagOpt (s.sec H).expected[k + 1]?]

/-- SHELVED makes a home item IN_PLACE at home, found at its own ordinal: a stray leaves the chain of the
section it was found in, and the sections concerned are bumped once; its refusals come in order. -/
def Obligations.ShelvedPutsTheVolumeInPlace : Prop :=
  ∀ (w : Wand) (t : Tag) (s : State), s.Takes (.shelved w t) → s.campaign ≠ .paused →
    ∃ u code fields, Taken s (.shelved w t) u code fields [] ∧
      if s.campaign ≠ .running then code = .notRunning ∧ fields = []
      else
        match s.item? t with
        | none => code = .noItem ∧ fields = []
        | some r =>
          match r.home with
          | none => code = .noHome ∧ fields = []
          | some H =>
            if r.count = .held then code = .heldItem ∧ fields = []
            else
              code = .ok ∧ fields = [.num16 H.val, .num16 (s.ordinal H t), .count r.count] ∧
              u = { s with
                items := u.items
                sections := u.sections
                contexts := u.contexts
                lastFrame := u.lastFrame
                rxQueue := u.rxQueue
                sendQueue := u.sendQueue } ∧
              (∀ x : CtxId, u.ctx x = s.leaseLoaded w x) ∧
              u.item? t = some { r with
                count := .inPlace, found := some ⟨H, s.ordinal H t, s.clock⟩, prior := none } ∧
              (∀ t' : Tag, t' ≠ t → u.item? t' = s.item? t') ∧
              (r.count ≠ .unlisted → ∀ X : SecId, u.sec X =
                if r.count = .elsewhere ∧ r.foundIn = some X then
                  { s.sec X with
                    chain := (s.sec X).chain.filter fun t' => t' ≠ t
                    generation := (s.sec X).generation + 1 }
                else if X = H ∧ r.count ≠ .inPlace then
                  { s.sec X with generation := (s.sec X).generation + 1 }
                else s.sec X)

/-- CLAIM by a wand that walks nothing: a READY or TALLIED section is granted a new walk in the free
context of lowest index, a SUSPENDED one resumes its walk, and a WALKING one queues the wand. That the
position in QUEUED takes one byte is the model's choice (notes/assumptions/25.md). -/
def Obligations.ClaimGrantsResumesOrQueues : Prop :=
  ∀ (w : Wand) (S : SecId) (s : State), s.Takes (.claim w S.val) → s.campaign = .running →
    s.walkOf w = none →
    ((s.sec S).state = .ready ∨ (s.sec S).state = .tallied →
      ∀ x : CtxId, s.ctx x = none → (∀ y : CtxId, y < x → s.ctx y ≠ none) →
      ∃ u, Taken s (.claim w S.val) u .granted [.num16 S.val, .num8 x.val, .flag false] [] ∧
        u = { s with
          sections := u.sections
          contexts := u.contexts
          claims := s.claims.filter fun q => q.wand ≠ w
          lastFrame := u.lastFrame
          rxQueue := u.rxQueue
          sendQueue := u.sendQueue } ∧
        u.ctx x = some
          { sec := S, walker := some w, cursor := 0, run := [], park := [],
            lease := some (s.settings.leaseInterval * 1000), markHit := false } ∧
        (∀ y : CtxId, y ≠ x → u.ctx y = s.ctx y) ∧
        u.sec S = { s.sec S with
          state := .walking, context := some x, generation := (s.sec S).generation + 1 } ∧
        ∀ X : SecId, X ≠ S → u.sec X = s.sec X) ∧
    ((s.sec S).state = .suspended → ∀ x c, (s.sec S).context = some x → s.ctx x = some c →
      ∃ u, Taken s (.claim w S.val) u .granted [.num16 S.val, .num8 x.val, .flag true] [] ∧
        u = { s with
          sections := u.sections
          contexts := u.contexts
          claims := s.claims.filter fun q => q.wand ≠ w
          lastFrame := u.lastFrame
          rxQueue := u.rxQueue
          sendQueue := u.sendQueue } ∧
        u.ctx x = some { c with
          walker := some w, lease := some (s.settings.leaseInterval * 1000) } ∧
        (∀ y : CtxId, y ≠ x → u.ctx y = s.ctx y) ∧
        u.sec S = { s.sec S with
          state := .walking, generation := (s.sec S).generation + 1 } ∧
        ∀ X : SecId, X ≠ S → u.sec X = s.sec X) ∧
    ((s.sec S).state = .walking →
      ∃ u n, Taken s (.claim w S.val) u .queued [.num16 S.val, .num8 (n + 1)] [] ∧
        u = { s with
          claims := if s.waitsFor w = some S then s.claims
            else (s.claims.filter fun q => q.wand ≠ w) ++ [⟨w, S⟩]
          lastFrame := u.lastFrame
          rxQueue := u.rxQueue
          sendQueue := u.sendQueue } ∧
        u.claims[n]? = some ⟨w, S⟩ ∧ ∀ m q, m < n → u.claims[m]? = some q → q.wand ≠ w)

/-- WALKEND COMPLETE completes the walk: the tally of the section's home items, walks completed,
WALK_DONE, the context freed and TALLIED; with a waiter, a new walk for the oldest one in the free
context of lowest index (`CompletionOf`). The judgement of the section's end marker completes the walk
in the same way, with verdict MARKER, looks up no item and leaves the cursor's mark unreached. -/
def Obligations.WalkendCompleteTalliesTheSection : Prop :=
  (∀ (w : Wand) (x : CtxId) (c : Context) (s : State), s.Takes (.walkendComplete w) →
    s.campaign ≠ .paused → s.walkOf w = some x → s.ctx x = some c →
    (s.sec c.sec).revision = none →
    ∃ u notices, Taken s (.walkendComplete w) u .ok [.num16 c.sec.val, .num8 1] notices ∧
      u = { s with
        items := u.items
        sections := u.sections
        contexts := u.contexts
        tables := u.tables
        claims := u.claims
        events := u.events
        lastFrame := u.lastFrame
        rxQueue := u.rxQueue
        sendQueue := u.sendQueue } ∧
      CompletionOf s x c u notices) ∧
  ∀ (x : CtxId) (c : Context) (t : Tag) (s : State), s.ctx x = some c →
    (s.sec c.sec).endMarker = some t →
    ∃ u notices, judge x t s = ⟨u, ⟨t, .marker, false, false, false, false, some c.sec⟩⟩ ∧
      u = { s with
        items := u.items
        sections := u.sections
        contexts := u.contexts
        tables := u.tables
        claims := u.claims
        events := u.events
        sendQueue := s.sendQueue ++ notices } ∧
      CompletionOf s x c u notices

/-! ### SIGHT: reads, confirmations, delivery -/

/-- A SIGHT whose reads are all at or below the read floor changes nothing beyond the taking. One read of
positive weight that confirms nothing: a GATHERING score grows, a CONFIRMED hold is set anew, a WAITING
entry stays, and a new tag takes the FREE entry of lowest position; nothing but the wand's table
changes beyond the taking. The reads of a frame of 1 to 8 are applied in their order, each against the
state the read before it left (`stage k` is the state before read k); the ANSWER lists the outcomes in the
order of the reads, after the number of reads discarded, and what the reads make ready follows it. A read
while the wand does not walk confirms as ROAMING, and so does every read after one that judged the end
marker. -/
def Obligations.ReadsGatherRefreshOrAllocate : Prop :=
  (∀ (w : Wand) (reads : List TagRead) (s : State), s.Takes (.sight w reads) →
    s.campaign ≠ .paused → 1 ≤ reads.length → reads.length ≤ 8 →
    (∀ r ∈ reads, r.strength.toNat ≤ s.settings.readFloor) →
    ∃ u, Taken s (.sight w reads) u .ok [.num8 0, .num8 0] [] ∧
      u = { s with
        contexts := u.contexts
        lastFrame := u.lastFrame
        rxQueue := u.rxQueue
        sendQueue := u.sendQueue } ∧
      ∀ x : CtxId, u.ctx x = s.leaseLoaded w x) ∧
  (∀ (w : Wand) (reads : List TagRead) (s : State), s.Takes (.sight w reads) →
    s.campaign ≠ .paused → 1 ≤ reads.length → reads.length ≤ 8 →
    ∃ (u : State) (stage : Nat → State) (done : Fin reads.length → ReadDone)
      (outcomes : List Sighting),
      stage 0 = { s with
        contexts := (stage 0).contexts
        lastFrame := s.lastFrame.set w (some s.clock)
        rxQueue := s.rxQueue.tail
        sendQueue := [] } ∧
      (∀ x : CtxId, (stage 0).ctx x = s.leaseLoaded w x) ∧
      (∀ k, done k = readOne w reads[k] (stage k.val)) ∧
      (∀ k, stage (k.val + 1) = (done k).state) ∧
      outcomes = (List.finRange reads.length).flatMap (fun k => (done k).outcome.toList) ∧
      Taken s (.sight w reads) u .ok
        (.num8 ((List.finRange reads.length).countP fun k => (done k).saturated) ::
          .num8 outcomes.length :: outcomes.map Field.sighting)
        (stage reads.length).sendQueue ∧
      u = { stage reads.length with sendQueue := u.sendQueue } ∧
      (∀ k, (stage k.val).walkOf w = none →
        ∀ o, (done k).outcome = some o → o.verdict = .roaming) ∧
      (WalksSound s → ∀ j k o, j < k → (done j).outcome = some o → o.verdict = .marker →
        ∀ o', (done k).outcome = some o' → o'.verdict = .roaming)) ∧
  ∀ (w : Wand) (tag : Tag) (strength : Byte) (weight : Nat) (i : Fin 24) (s : State),
    s.Takes (.sight w [⟨tag, strength⟩]) → s.campaign ≠ .paused → 0 < weight →
    strength.toNat = s.settings.readFloor + weight → (s.table w).Sound →
    ∀ (e e' : Entry) (next' : Nat), (s.table w).entries[i] = e →
      ((∃ score a, e = .gathering tag score a ∧ next' = (s.table w).nextAlloc ∧
          min 1023 (score + weight) < s.settings.confirmThreshold ∧
          e' = .gathering tag (min 1023 (score + weight)) a) ∨
        (∃ hold a f, e = .confirmed tag hold a f ∧ next' = (s.table w).nextAlloc ∧
          e' = .confirmed tag s.settings.holdTicks a f) ∨
        (∃ a f, e = .waiting tag a f ∧ next' = (s.table w).nextAlloc ∧ e' = e) ∨
        ((∀ j : Fin 24, (s.table w).entries[j].tag? ≠ some tag) ∧ e = .free ∧
          (∀ j : Fin 24, j < i → (s.table w).entries[j] ≠ .free) ∧
          weight < s.settings.confirmThreshold ∧ next' = (s.table w).nextAlloc + 1 ∧
          e' = .gathering tag weight (s.table w).nextAlloc)) →
      ∃ u, Taken s (.sight w [⟨tag, strength⟩]) u .ok [.num8 0, .num8 0] [] ∧
        u = { s with
          tables := u.tables
          contexts := u.contexts
          lastFrame := u.lastFrame
          rxQueue := u.rxQueue
          sendQueue := u.sendQueue } ∧
        (∀ x : CtxId, u.ctx x = s.leaseLoaded w x) ∧
        (∀ v : Wand, v ≠ w → u.table v = s.table v) ∧
        (u.table w).entries[i] = e' ∧ (u.table w).nextAlloc = next' ∧
        (u.table w).nextConf = (s.table w).nextConf ∧
        ∀ j : Fin 24, j ≠ i → (u.table w).entries[j] = (s.table w).entries[j]

/-- With no FREE entry, a new tag evicts the GATHERING entry of lowest score, else the CONFIRMED entry
of lowest hold, ties by allocation sequence: a SIGHT then leaves the new tag GATHERING at that position
with its weight and the next allocation number, and the other entries stand. With every entry WAITING
the read is discarded, FILTER_SATURATED raised and the saturated count 1. -/
def Obligations.EvictionTakesTheWeakestEntry : Prop :=
  (∀ (t : CandTable) (i : Fin 24) (tag : Tag) (score a : Nat), (∀ j : Fin 24, t.entries[j] ≠ .free) →
    t.entries[i] = .gathering tag score a →
    (∀ (j : Fin 24) tag' score' a', j ≠ i → t.entries[j] = .gathering tag' score' a' →
      score < score' ∨ (score = score' ∧ a < a')) →
    t.room = some i) ∧
  (∀ (t : CandTable) (i : Fin 24) (tag : Tag) (hold a f : Nat), (∀ j : Fin 24, t.entries[j] ≠ .free) →
    (∀ (j : Fin 24) tag' score' a', t.entries[j] ≠ .gathering tag' score' a') →
    t.entries[i] = .confirmed tag hold a f →
    (∀ (j : Fin 24) tag' hold' a' f', j ≠ i → t.entries[j] = .confirmed tag' hold' a' f' →
      hold < hold' ∨ (hold = hold' ∧ a < a')) →
    t.room = some i) ∧
  (∀ (w : Wand) (tag : Tag) (strength : Byte) (weight : Nat) (t : CandTable) (i : Fin 24) (s : State),
    s.Takes (.sight w [⟨tag, strength⟩]) → s.campaign ≠ .paused → 0 < weight →
    strength.toNat = s.settings.readFloor + weight → weight < s.settings.confirmThreshold →
    t = s.table w → (∀ j : Fin 24, t.entries[j] ≠ .free ∧ t.entries[j].tag? ≠ some tag) →
    ((∃ old score a, t.entries[i] = .gathering old score a ∧
        ∀ (j : Fin 24) tag' score' a', j ≠ i → t.entries[j] = .gathering tag' score' a' →
          score < score' ∨ (score = score' ∧ a < a')) ∨
      ((∀ (j : Fin 24) tag' score' a', t.entries[j] ≠ .gathering tag' score' a') ∧
        ∃ old hold a f, t.entries[i] = .confirmed old hold a f ∧
          ∀ (j : Fin 24) tag' hold' a' f', j ≠ i → t.entries[j] = .confirmed tag' hold' a' f' →
            hold < hold' ∨ (hold = hold' ∧ a < a'))) →
    ∃ u, Taken s (.sight w [⟨tag, strength⟩]) u .ok [.num8 0, .num8 0] [] ∧
      u = { s with
        tables := u.tables
        contexts := u.contexts
        lastFrame := u.lastFrame
        rxQueue := u.rxQueue
        sendQueue := u.sendQueue } ∧
      (∀ x : CtxId, u.ctx x = s.leaseLoaded w x) ∧
      (∀ v : Wand, v ≠ w → u.table v = s.table v) ∧
      (u.table w).entries[i] = .gathering tag weight t.nextAlloc ∧
      (u.table w).nextAlloc = t.nextAlloc + 1 ∧ (u.table w).nextConf = t.nextConf ∧
      ∀ j : Fin 24, j ≠ i → (u.table w).entries[j] = t.entries[j]) ∧
  ∀ (w : Wand) (tag : Tag) (strength : Byte) (s : State), s.Takes (.sight w [⟨tag, strength⟩]) →
    s.campaign ≠ .paused → s.settings.readFloor < strength.toNat →
    (∀ j : Fin 24, ∃ tag' a f, (s.table w).entries[j] = .waiting tag' a f ∧ tag' ≠ tag) →
    ∃ u, Taken s (.sight w [⟨tag, strength⟩]) u .ok [.num8 1, .num8 0] [] ∧
      u = { s with
        events := { s.events with raw := s.events.raw ||| EventKind.filterSaturated.set }
        contexts := u.contexts
        lastFrame := u.lastFrame
        rxQueue := u.rxQueue
        sendQueue := u.sendQueue } ∧
      ∀ x : CtxId, u.ctx x = s.leaseLoaded w x

/-- The read that brings a score to the confirm threshold confirms its entry, and so does the read of a
new tag whose weight alone reaches it, in the entry allocated to it. The confirmation is matched with
the watch table (`WatchWinnerTakesTheHit` says how), and is delivered by what the wand is doing: ROAMING,
PARKED, DEFERRED or the judgement of the walk, the outcome carrying WATCH if an entry took the hit. -/
def Obligations.ConfirmationIsDelivered : Prop :=
  ∀ (w : Wand) (tag : Tag) (strength : Byte) (weight a nextAlloc : Nat) (i : Fin 24)
      (watched s : State) (hit : Bool),
    s.Takes (.sight w [⟨tag, strength⟩]) → s.campaign ≠ .paused → 0 < weight →
    strength.toNat = s.settings.readFloor + weight → (s.table w).Sound →
    (∃ score, (s.table w).entries[i] = .gathering tag score a ∧ nextAlloc = (s.table w).nextAlloc ∧
        s.settings.confirmThreshold ≤ min 1023 (score + weight)) ∨
      ((∀ j : Fin 24, (s.table w).entries[j].tag? ≠ some tag) ∧ (s.table w).room = some i ∧
        a = (s.table w).nextAlloc ∧ nextAlloc = (s.table w).nextAlloc + 1 ∧
        s.settings.confirmThreshold ≤ weight) →
    s.matchWatch w tag = (watched, hit) →
    ∃ (u : State) (outcome : Sighting) (notices : List PartFrame)
        (after : Entry → Wand → CandTable),
      Taken s (.sight w [⟨tag, strength⟩]) u .ok [.num8 0, .num8 1, .sighting outcome] notices ∧
      (∀ e v, after e v =
        if v = w then
          { entries := (s.table w).entries.set i e
            nextAlloc := nextAlloc
            nextConf := (s.table w).nextConf + 1 }
        else s.table v) ∧
      (s.walkOf w = none →
        u = { s with
          tables := u.tables
          watch := watched.watch
          events := watched.events
          lastFrame := u.lastFrame
          rxQueue := u.rxQueue
          sendQueue := u.sendQueue } ∧
        outcome = ⟨tag, .roaming, hit, false, false, false, (s.item? tag).bind fun r => r.home⟩ ∧
        notices = [] ∧
        ∀ v : Wand, u.table v =
          after (.confirmed tag s.settings.holdTicks a (s.table w).nextConf) v) ∧
      ∀ x c, s.walkOf w = some x → s.ctx x = some c →
        ((s.sec c.sec).revision ≠ none →
          u = { s with
            tables := u.tables
            contexts := u.contexts
            watch := watched.watch
            events := watched.events
            lastFrame := u.lastFrame
            rxQueue := u.rxQueue
            sendQueue := u.sendQueue } ∧
          notices = [] ∧ (∀ y : CtxId, y ≠ x → u.ctx y = s.ctx y) ∧
          (c.park.length < 32 →
            outcome = ⟨tag, .parked, hit, false, false, false, none⟩ ∧
            u.ctx x = some { c with
              park := c.park ++ [tag], lease := some (s.settings.leaseInterval * 1000) } ∧
            ∀ v : Wand, u.table v =
              after (.confirmed tag s.settings.holdTicks a (s.table w).nextConf) v) ∧
          (32 ≤ c.park.length →
            outcome = ⟨tag, .deferred, hit, false, false, false, none⟩ ∧
            u.ctx x = s.leaseLoaded w x ∧
            ∀ v : Wand, u.table v = after (.waiting tag a (s.table w).nextConf) v)) ∧
        ((s.sec c.sec).revision = none →
          ∃ t, t = { s with
              tables := t.tables
              contexts := t.contexts
              watch := watched.watch
              events := watched.events
              lastFrame := s.lastFrame.set w (some s.clock)
              rxQueue := s.rxQueue.tail
              sendQueue := [] } ∧
            (∀ y : CtxId, t.ctx y = s.leaseLoaded w y) ∧
            (∀ v : Wand, t.table v =
              after (.confirmed tag s.settings.holdTicks a (s.table w).nextConf) v) ∧
            outcome = { (judge x tag t).outcome with watch := hit } ∧
            u = { (judge x tag t).state with sendQueue := u.sendQueue } ∧
            notices = (judge x tag t).state.sendQueue)

/-- A confirmation's match: of the valid entries whose pattern the tag agrees with, the one of lowest
class, and of lowest index within it, takes the hit, a one-shot one stands down, and WATCH_HIT is
raised; with none the table stands. A SIGHT that confirms the tag, by its score or at its allocation,
records that hit, raises WATCH_HIT, and its outcome carries WATCH; with no match it changes no watch
entry and carries none. -/
def Obligations.WatchWinnerTakesTheHit : Prop :=
  ∀ (w : Wand) (tag : Tag) (s : State),
    ((∀ j : WatchId, s.watch[j].valid = true → (tag ^^^ s.watch[j].value) &&& s.watch[j].mask ≠ 0) →
      s.matchWatch w tag = (s, false)) ∧
    (∀ i : WatchId, s.watch[i].valid = true → (tag ^^^ s.watch[i].value) &&& s.watch[i].mask = 0 →
      (∀ j : WatchId, s.watch[j].valid = true →
        (tag ^^^ s.watch[j].value) &&& s.watch[j].mask = 0 →
        s.watch[i].cls < s.watch[j].cls ∨ (s.watch[i].cls = s.watch[j].cls ∧ i ≤ j)) →
      ∃ u, s.matchWatch w tag = (u, true) ∧
        u = { s with
          watch := u.watch
          events := { s.events with raw := s.events.raw ||| EventKind.watchHit.set } } ∧
        u.watch[i] = { s.watch[i] with
          hits := min 255 (s.watch[i].hits + 1)
          hitPending := true
          last := some ⟨w, s.walkedSec w, s.clock⟩
          valid := !s.watch[i].oneShot } ∧
        ∀ j : WatchId, j ≠ i → u.watch[j] = s.watch[j]) ∧
    ∀ (strength : Byte) (weight : Nat) (k : Fin 24), s.Takes (.sight w [⟨tag, strength⟩]) →
      s.campaign ≠ .paused → 0 < weight → strength.toNat = s.settings.readFloor + weight →
      (s.table w).Sound →
      (∃ score a, (s.table w).entries[k] = .gathering tag score a ∧
          s.settings.confirmThreshold ≤ min 1023 (score + weight)) ∨
        ((∀ j : Fin 24, (s.table w).entries[j].tag? ≠ some tag) ∧ (s.table w).room = some k ∧
          s.settings.confirmThreshold ≤ weight) →
      ∃ (u : State) (outcome : Sighting) (notices : List PartFrame),
        Taken s (.sight w [⟨tag, strength⟩]) u .ok [.num8 0, .num8 1, .sighting outcome] notices ∧
        u.watch = (s.matchWatch w tag).1.watch ∧ outcome.watch = (s.matchWatch w tag).2 ∧
        (outcome.watch = true → u.events.raw.getLsbD EventKind.watchHit.bit = true) ∧
        (outcome.watch = false → u.events.raw.getLsbD EventKind.watchHit.bit =
          s.events.raw.getLsbD EventKind.watchHit.bit)

/-! ### Placement verdicts -/

/-- A tag that no record carries: the walk creates a provisional record at its cursor, at the tail of
the section's chain, with attention, one bump and ADOPT_DUE at the threshold; with the table full it
raises TABLE_FULL and changes nothing else. A provisional record seen again in the section it was found
in is a REPEAT that changes its sight count alone; in another it is UNLISTED, moved, and found there: it
leaves the former chain for the tail of the new one, and each of the two sections is bumped once. -/
def Obligations.UnknownTagCreatesAProvisionalRecord : Prop :=
  (∀ (x : CtxId) (c : Context) (t : Tag) (s : State), s.ctx x = some c →
    (s.sec c.sec).endMarker ≠ some t → s.item? t = none →
    (131072 ≤ s.items.length → judge x t s =
      ⟨{ s with events := { s.events with raw := s.events.raw ||| EventKind.tableFull.set } },
        ⟨t, .tableFull, false, false, false, false, none⟩⟩) ∧
    (s.items.length < 131072 →
      ∃ u, judge x t s = ⟨u, ⟨t, .unlisted, false, false, false, false, none⟩⟩ ∧
        u = { s with items := u.items, sections := u.sections, events := u.events } ∧
        u.item? t = some
          { tag := t, home := none, circ := none, count := .unlisted,
            found := some ⟨c.sec, c.cursor, s.clock⟩, prior := none, sight := 1, moved := false,
            conflict := false } ∧
        (∀ t' : Tag, t' ≠ t → u.item? t' = s.item? t') ∧
        u.unlisted = s.unlisted + 1 ∧
        u.sec c.sec = { s.sec c.sec with
          chain := (s.sec c.sec).chain ++ [t]
          attention := true
          generation := (s.sec c.sec).generation + 1 } ∧
        (∀ S : SecId, S ≠ c.sec → u.sec S = s.sec S) ∧
        u.events = { s.events with
          raw := s.events.raw |||
            (if (s.sec c.sec).attention then 0 else EventKind.attention.set) |||
            if s.settings.adoptThreshold ≤ s.unlisted + 1 then EventKind.adoptDue.set else 0 })) ∧
  ∀ (x : CtxId) (c : Context) (t : Tag) (r : Item) (s : State), s.ctx x = some c →
    (s.sec c.sec).endMarker ≠ some t → s.item? t = some r → r.home = none →
    (r.foundIn = some c.sec →
      ∃ u, judge x t s = ⟨u, ⟨t, .repeated, false, false, false, false, none⟩⟩ ∧
        u = { s with items := u.items } ∧
        u.item? t = some { r with sight := min 15 (r.sight + 1) } ∧
        ∀ t' : Tag, t' ≠ t → u.item? t' = s.item? t') ∧
    (r.count = .unlisted → r.foundIn ≠ some c.sec →
      ∃ u, judge x t s = ⟨u, ⟨t, .unlisted, false, false, false, false, none⟩⟩ ∧
        u = { s with items := u.items, sections := u.sections, events := u.events } ∧
        u.item? t = some { r with
          found := some ⟨c.sec, c.cursor, s.clock⟩
          sight := min 15 (r.sight + 1)
          moved := true } ∧
        (∀ t' : Tag, t' ≠ t → u.item? t' = s.item? t') ∧ u.unlisted = s.unlisted ∧
        (∀ X : SecId, u.sec X = { s.sec X with
          chain :=
            if X = c.sec then (s.sec X).chain ++ [t]
            else if r.foundIn = some X then (s.sec X).chain.filter fun t' => t' ≠ t
            else (s.sec X).chain
          attention := (s.sec X).attention || decide (X = c.sec)
          generation := (s.sec X).generation +
            if X = c.sec ∨ r.foundIn = some X then 1 else 0 }) ∧
        u.events = { s.events with
          raw := s.events.raw |||
            if (s.sec c.sec).attention then 0 else EventKind.attention.set })

/-- A home item of another section becomes a stray of the walked one: it leaves its former chain or run,
joins the chain's tail as ELSEWHERE, and each section concerned is bumped once; an item on LOAN takes
the loan conflict. A second sighting there is a REPEAT. -/
def Obligations.ForeignFindingMakesAStray : Prop :=
  ∀ (x : CtxId) (c : Context) (t : Tag) (r : Item) (H : SecId) (s : State), s.ctx x = some c →
    (s.sec c.sec).endMarker ≠ some t → s.item? t = some r → r.home = some H → H ≠ c.sec →
    r.count ≠ .unlisted →
    ∃ u, (judge x t s).state = u ∧
      (∀ t' : Tag, t' ≠ t → u.item? t' = s.item? t') ∧
      (r.count = .elsewhere → r.foundIn = some c.sec → ∀ newly : Bool,
        (newly = true ↔ r.circ = some .loan ∧ r.conflict = false) →
        (judge x t s).outcome =
          ⟨t, .repeated, false, decide (r.circ = some .loan), false, false, some H⟩ ∧
        u = { s with items := u.items, sections := u.sections, events := u.events } ∧
        u.item? t = some { r with
          sight := min 15 (r.sight + 1), conflict := r.conflict || decide (r.circ = some .loan) } ∧
        (∀ X : SecId, u.sec X = { s.sec X with
          attention := (s.sec X).attention || (newly && decide (X = c.sec))
          generation := (s.sec X).generation + if newly = true ∧ X = H then 1 else 0 }) ∧
        u.events = { s.events with
          raw := s.events.raw |||
            if newly && !(s.sec c.sec).attention then EventKind.attention.set else 0 }) ∧
      (¬ (r.count = .elsewhere ∧ r.foundIn = some c.sec) →
        (judge x t s).outcome =
          ⟨t, .foreign, false, decide (r.circ = some .loan), false, false, some H⟩ ∧
        u = { s with
          items := u.items, sections := u.sections, contexts := u.contexts, events := u.events } ∧
        u.item? t = some { r with
          count := .elsewhere
          found := some ⟨c.sec, c.cursor, s.clock⟩
          prior := none
          sight := min 15 (r.sight + 1)
          moved := r.moved || decide (r.count = .held ∨ r.count = .inPlace ∨
            r.count = .disordered ∨ r.count = .elsewhere)
          conflict := r.conflict || decide (r.circ = some .loan) } ∧
        (∀ X : SecId, u.sec X = { s.sec X with
          chain :=
            if X = c.sec then (s.sec X).chain ++ [t]
            else if r.count = .elsewhere ∧ r.foundIn = some X then
              (s.sec X).chain.filter fun t' => t' ≠ t
            else (s.sec X).chain
          attention := (s.sec X).attention || decide (X = c.sec)
          generation := (s.sec X).generation +
            if X = c.sec ∨ X = H ∨ (r.count = .elsewhere ∧ r.foundIn = some X) then 1 else 0 }) ∧
        u.events = { s.events with
          raw := s.events.raw |||
            if (s.sec c.sec).attention then 0 else EventKind.attention.set } ∧
        ∀ y : CtxId, u.ctx y = (s.ctx y).map fun d =>
          if r.count = .held ∧ (s.sec H).context = some y then
            { d with run := d.run.filter fun t' => t' ≠ t }
          else d)

/-- Step B, an item judged afresh at home at or ahead of the cursor, with an empty run or one that it
breaks: within the tolerance it is IN_PLACE, the UNSEEN items passed over become PASSED, the cursor
stands behind it and the mark may be reached; beyond it, the item starts a run as HELD with its prior
state. A run so broken becomes DISORDERED, sets attention and BROKEN; an item on LOAN takes the loan
conflict and LOAN; a stray is withdrawn from its chain, moved, with prior state UNSEEN. -/
def Obligations.ItemAheadIsPlacedOrHeld : Prop :=
  ∀ (x : CtxId) (c : Context) (t : Tag) (r : Item) (s : State), s.ctx x = some c →
    (s.sec c.sec).endMarker ≠ some t → s.item? t = some r → r.FreshAt c.sec →
    (s.sec c.sec).expected.Nodup → t ∈ (s.sec c.sec).expected →
    ∀ (k : Nat) (loan broken attends : Bool), k = s.ordinal c.sec t → c.cursor ≤ k →
    (loan = true ↔ r.circ = some .loan) → (broken = true ↔ c.run ≠ []) →
    (∀ last, c.run.getLast? = some last → k ≤ s.ordinal c.sec last ∨
      s.ordinal c.sec last + (s.sec c.sec).tolerance + 1 < k) →
    (attends = true ↔ broken = true ∨ (loan = true ∧ r.conflict = false)) →
    ∃ u, (judge x t s).state = u ∧
      u = { s with
        items := u.items, sections := u.sections, contexts := u.contexts, events := u.events } ∧
      SectionsAfterFinding s c.sec r attends u ∧ (∀ y : CtxId, y ≠ x → u.ctx y = s.ctx y) ∧
      (k - c.cursor ≤ (s.sec c.sec).tolerance →
        ∃ reached : Bool,
          (reached = true ↔ c.markHit = false ∧ ∃ m, (s.sec c.sec).mark = some m ∧
            c.cursor < m ∧ m ≤ k + 1) ∧
          (judge x t s).outcome = ⟨t, .inPlace, false, loan, reached, broken, some c.sec⟩ ∧
          u.item? t = some (r.foundAtHome c s.clock .inPlace none) ∧
          (∀ t' : Tag, t' ≠ t → u.item? t' = (s.item? t').map fun q =>
            if t' ∈ c.run then { q with count := .disordered, prior := none }
            else if q.home = some c.sec ∧ q.count = .unseen ∧ c.cursor ≤ s.ordinal c.sec t' ∧
              s.ordinal c.sec t' < k then { q with count := .passed } else q) ∧
          u.ctx x = some { c with cursor := k + 1, run := [], markHit := c.markHit || reached } ∧
          u.events = { s.events with
            raw := s.events.raw |||
              (if attends && !(s.sec c.sec).attention then EventKind.attention.set else 0) |||
              if reached then EventKind.markReached.set else 0 }) ∧
      ((s.sec c.sec).tolerance < k - c.cursor →
        (judge x t s).outcome = ⟨t, .pending, false, loan, false, broken, some c.sec⟩ ∧
        u.item? t = some (r.foundAtHome c s.clock .held
          (some (if r.count = .elsewhere then .unseen else r.count))) ∧
        (∀ t' : Tag, t' ≠ t → u.item? t' = (s.item? t').map fun q =>
          if t' ∈ c.run then { q with count := .disordered, prior := none } else q) ∧
        u.ctx x = some { c with run := [t] } ∧
        u.events = { s.events with
          raw := s.events.raw |||
            if attends && !(s.sec c.sec).attention then EventKind.attention.set else 0 })

/-- An item at home that does not move the cursor. Step B behind the cursor, with an empty run or one
that it breaks: within the tolerance it is a late find, IN_PLACE; further back it is DISORDERED and sets
attention; a broken run, an item on LOAN and a stray are treated as ahead of the cursor. An item already
IN_PLACE, DISORDERED or HELD at home is a REPEAT, whose sight count alone changes, with the loan
conflict if it is newly on LOAN. -/
def Obligations.ItemBehindIsLateOrDisordered : Prop :=
  (∀ (x : CtxId) (c : Context) (t : Tag) (r : Item) (s : State), s.ctx x = some c →
    (s.sec c.sec).endMarker ≠ some t → s.item? t = some r → r.FreshAt c.sec →
    ∀ (k : Nat) (loan broken late attends : Bool), k = s.ordinal c.sec t → k < c.cursor →
    (loan = true ↔ r.circ = some .loan) → (broken = true ↔ c.run ≠ []) →
    (∀ last, c.run.getLast? = some last → k ≤ s.ordinal c.sec last ∨
      s.ordinal c.sec last + (s.sec c.sec).tolerance + 1 < k) →
    (late = true ↔ c.cursor - 1 - k ≤ (s.sec c.sec).tolerance) →
    (attends = true ↔ broken = true ∨ late = false ∨ (loan = true ∧ r.conflict = false)) →
    ∃ u, (judge x t s).state = u ∧
      (judge x t s).outcome =
        ⟨t, if late then .inPlace else .disordered, false, loan, false, broken, some c.sec⟩ ∧
      u = { s with
        items := u.items, sections := u.sections, contexts := u.contexts, events := u.events } ∧
      u.item? t = some (r.foundAtHome c s.clock (if late then .inPlace else .disordered) none) ∧
      (∀ t' : Tag, t' ≠ t → u.item? t' = (s.item? t').map fun q =>
        if t' ∈ c.run then { q with count := .disordered, prior := none } else q) ∧
      SectionsAfterFinding s c.sec r attends u ∧
      u.ctx x = some { c with run := [] } ∧ (∀ y : CtxId, y ≠ x → u.ctx y = s.ctx y) ∧
      u.events = { s.events with
        raw := s.events.raw |||
          if attends && !(s.sec c.sec).attention then EventKind.attention.set else 0 }) ∧
  ∀ (x : CtxId) (c : Context) (t : Tag) (r : Item) (s : State), s.ctx x = some c →
    (s.sec c.sec).endMarker ≠ some t → s.item? t = some r → r.home = some c.sec →
    r.count = .inPlace ∨ r.count = .disordered ∨ r.count = .held →
    ∀ loan newly : Bool, (loan = true ↔ r.circ = some .loan) →
    (newly = true ↔ loan = true ∧ r.conflict = false) →
    ∃ u, judge x t s = ⟨u, ⟨t, .repeated, false, loan, false, false, some c.sec⟩⟩ ∧
      u = { s with items := u.items, sections := u.sections, events := u.events } ∧
      u.item? t = some { r with sight := min 15 (r.sight + 1), conflict := r.conflict || loan } ∧
      (∀ t' : Tag, t' ≠ t → u.item? t' = s.item? t') ∧
      (∀ X : SecId, u.sec X = { s.sec X with
        attention := (s.sec X).attention || (newly && decide (X = c.sec))
        generation := (s.sec X).generation + if newly = true ∧ X = c.sec then 1 else 0 }) ∧
      u.events = { s.events with
        raw := s.events.raw |||
          if newly && !(s.sec c.sec).attention then EventKind.attention.set else 0 }

/-- Step A: an item judged afresh at home that continues the run joins it as HELD; when the run has
reached the resync length it becomes IN_PLACE whole, the UNSEEN items from the cursor to its end that do
not stand in it become PASSED, and the cursor stands behind its last entry. An item on LOAN takes the
loan conflict and LOAN; a stray is withdrawn from its chain, moved, with prior state UNSEEN. -/
def Obligations.ContinuationExtendsOrResyncsTheRun : Prop :=
  ∀ (x : CtxId) (c : Context) (t last : Tag) (r : Item) (s : State), s.ctx x = some c →
    c.run.getLast? = some last → (s.sec c.sec).endMarker ≠ some t → s.item? t = some r →
    r.FreshAt c.sec → (s.sec c.sec).expected.Nodup → t ∈ (s.sec c.sec).expected →
    (∀ t' ∈ c.run, ∃ q, s.item? t' = some q ∧ q.count = .held) →
    ∀ (k : Nat) (loan attends : Bool), k = s.ordinal c.sec t → s.ordinal c.sec last < k →
    k ≤ s.ordinal c.sec last + (s.sec c.sec).tolerance + 1 →
    (loan = true ↔ r.circ = some .loan) → (attends = true ↔ loan = true ∧ r.conflict = false) →
    ∃ u, (judge x t s).state = u ∧
      u = { s with
        items := u.items, sections := u.sections, contexts := u.contexts, events := u.events } ∧
      SectionsAfterFinding s c.sec r attends u ∧ (∀ y : CtxId, y ≠ x → u.ctx y = s.ctx y) ∧
      (c.run.length + 1 < s.settings.resyncLength →
        (judge x t s).outcome = ⟨t, .pending, false, loan, false, false, some c.sec⟩ ∧
        u.item? t = some (r.foundAtHome c s.clock .held
          (some (if r.count = .elsewhere then .unseen else r.count))) ∧
        (∀ t' : Tag, t' ≠ t → u.item? t' = s.item? t') ∧
        u.ctx x = some { c with run := c.run ++ [t] } ∧
        u.events = { s.events with
          raw := s.events.raw |||
            if attends && !(s.sec c.sec).attention then EventKind.attention.set else 0 }) ∧
      (s.settings.resyncLength ≤ c.run.length + 1 →
        ∃ reached : Bool,
          (reached = true ↔ c.markHit = false ∧ ∃ m, (s.sec c.sec).mark = some m ∧
            c.cursor < m ∧ m ≤ k + 1) ∧
          (judge x t s).outcome = ⟨t, .resync, false, loan, reached, false, some c.sec⟩ ∧
          u.item? t = some (r.foundAtHome c s.clock .inPlace none) ∧
          (∀ t' : Tag, t' ≠ t → u.item? t' = (s.item? t').map fun q =>
            if t' ∈ c.run then { q with count := .inPlace, prior := none }
            else if q.home = some c.sec ∧ q.count = .unseen ∧ c.cursor ≤ s.ordinal c.sec t' ∧
              s.ordinal c.sec t' < k then { q with count := .passed } else q) ∧
          u.ctx x = some { c with
            cursor := k + 1, run := [], markHit := c.markHit || reached } ∧
          u.events = { s.events with
            raw := s.events.raw |||
              (if attends && !(s.sec c.sec).attention then EventKind.attention.set else 0) |||
              if reached then EventKind.markReached.set else 0 })

/-! ### Timers -/

/-- Idle steps and expiries. With no command waiting a step takes what is due inside the part: a gathered
frame to check, the request in hand, the frame at the head of the receive queue, a timer at its end, a
frame to send; with nothing due it is one millisecond, in which each timer counts in the campaign states
that R138 gives it. That a step does so, one thing at a time and in this order, is the model's choice
(notes/assumptions/4.md, 6.md). An expiry whose timer is not at its end changes nothing
(notes/assumptions/5.md). At its end the decay tick halves every GATHERING score and lowers every
CONFIRMED hold in all sixteen tables, frees what comes to 0, keeps WAITING entries and loads its timer;
the campaign clock counts a second, up to its limit; the lamp phase wraps. -/
def Obligations.TimersCountAndExpire : Prop :=
  (∀ s : State, s.pending = [] → s.resetAsserted = false →
    (∀ f rest, s.gathered = f :: rest → step s = exec (.frameReceived f) s) ∧
    (s.gathered = [] → ∀ r lost, s.port = .working (.request r) lost → step s = exec r s) ∧
    (s.gathered = [] → (∀ inHand lost, s.port ≠ .working inHand lost) →
      (∀ i rest, s.rxQueue = i :: rest → s.sendQueue.length < 32 → step s = exec i s) ∧
      (s.rxQueue = [] ∨ 32 ≤ s.sendQueue.length →
        (∀ c, TimerOut s c → ∃ c', TimerOut s c' ∧ step s = exec c' s) ∧
        ((∀ c, ¬ TimerOut s c) →
          (s.sendQueue ≠ [] → step s = exec .frameSent s) ∧
          (s.sendQueue = [] → ∃ u, step s = .next u ∧
            u = { s with
              clockPart := u.clockPart, decayLeft := u.decayLeft, contexts := u.contexts,
              sections := u.sections, lampPhase := u.lampPhase, receiver := u.receiver } ∧
            u.lampPhase = s.lampPhase + 1 ∧
            u.clockPart = (if s.campaign = .running then s.clockPart + 1 else s.clockPart) ∧
            u.decayLeft = (if s.campaign = .paused then s.decayLeft else s.decayLeft - 1) ∧
            (∀ x : CtxId, u.ctx x = (s.ctx x).map fun c =>
              if s.campaign = .running then { c with lease := c.lease.map fun ms => ms - 1 } else c) ∧
            (∀ S : SecId, u.sec S =
              if s.campaign = .paused then s.sec S
              else { s.sec S with revision := (s.sec S).revision.map fun ms => ms - 1 }) ∧
            match s.receiver with
            | .hunt => u.receiver = .hunt
            | .gather bytes gap => u.receiver = .gather bytes (gap + 1)))))) ∧
  (∀ (c : Instr) (s : State), IsExpiry c → ¬ TimerOut s c → exec c s = .next s) ∧
  ∀ s : State, s.resetAsserted = false →
    (s.campaign ≠ .paused → s.decayLeft = 0 → ∃ u, exec .decayTick s = .next u ∧
      u = { s with tables := u.tables, decayLeft := s.settings.decayTick } ∧
      (∀ w : Wand, u.table w = { s.table w with entries := (u.table w).entries }) ∧
      ∀ (w : Wand) (i : Fin 24), (u.table w).entries[i] =
        match (s.table w).entries[i] with
        | .free => .free
        | .gathering t score a => if score / 2 = 0 then .free else .gathering t (score / 2) a
        | .confirmed t hold a f => if hold - 1 = 0 then .free else .confirmed t (hold - 1) a f
        | .waiting t a f => .waiting t a f) ∧
    (s.campaign = .running → 1000 ≤ s.clockPart → exec .campaignClockSecond s =
      .next { s with clock := min 4294967295 (s.clock + 1), clockPart := 0 }) ∧
    (2000 ≤ s.lampPhase → exec .lampPhaseWrap s = .next { s with lampPhase := 0 })

/-- The expiry of a lease of which no time remains suspends the walk, releases the walker's WAITING
entries, sends it SUSPENDED, raises LEASE_EXPIRED and grants the oldest waiter a resume, in this order.
There is no expiry while time remains, as it does once a frame of the walker has loaded the lease, nor
without a walker, nor unless the campaign is RUNNING. -/
def Obligations.LeaseExpirySuspendsAndGrants : Prop :=
  (∀ (x : CtxId) (s : State), s.resetAsserted = false →
    s.campaign ≠ .running ∨ (∀ c, s.ctx x = some c → c.walker = none ∨ c.lease ≠ some 0) →
    exec (.leaseExpiry x) s = .next s) ∧
  ∀ (x : CtxId) (c : Context) (w : Wand) (s : State), s.resetAsserted = false →
    s.campaign = .running → s.ctx x = some c → c.walker = some w → c.lease = some 0 →
    (s.sec c.sec).context = some x →
    ∃ u, exec (.leaseExpiry x) s = .next u ∧
      u = { s with
        tables := u.tables
        sections := u.sections
        contexts := u.contexts
        claims := u.claims
        sendQueue := u.sendQueue
        events := { s.events with raw := s.events.raw ||| EventKind.leaseExpired.set } } ∧
      (∀ k : Fin 24, (u.table w).entries[k] =
        match (s.table w).entries[k] with
        | .waiting t a f => .confirmed t s.settings.holdTicks a f
        | e => e) ∧
      (∀ v : Wand, v ≠ w → u.table v = s.table v) ∧
      u.table w = { s.table w with entries := (u.table w).entries } ∧
      (∀ y : CtxId, y ≠ x → u.ctx y = s.ctx y) ∧ (∀ S : SecId, S ≠ c.sec → u.sec S = s.sec S) ∧
      match s.claims.find? fun q => q.sec = c.sec with
      | none =>
        u.sendQueue = s.sendQueue ++ [.suspended w c.sec] ∧ u.claims = s.claims ∧
        u.ctx x = some { c with walker := none, lease := none } ∧
        u.sec c.sec = { s.sec c.sec with
          state := .suspended, generation := (s.sec c.sec).generation + 1 }
      | some q =>
        u.sendQueue = s.sendQueue ++ [.suspended w c.sec, .grant q.wand c.sec true x] ∧
        u.claims = s.claims.filter (fun p => p.wand ≠ q.wand) ∧
        u.ctx x = some { c with
          walker := some q.wand, lease := some (s.settings.leaseInterval * 1000) } ∧
        u.sec c.sec = { s.sec c.sec with
          state := .walking, generation := (s.sec c.sec).generation + 2 }

/-! ### Shelf-lists -/

/-- REV_OPEN sets the revision flag and loads its timer; REV_CLOSE of a section with no walk clears the
flag, and makes an EMPTY section READY; each entry and each flag change bumps once, and other sections
stand. The expiry of the timer, when no time remains, closes the revision exactly as REV_CLOSE does from
the same state with the port idle, and raises REVISION_EXPIRED; the port stands as it was, whatever it
does. While PAUSED, with the revision closed, and while time remains there is no expiry. -/
def Obligations.RevisionOpensClosesAndExpires : Prop :=
  (∀ S, 511 < S →
    (∀ s : State, s.Serves (.revOpen S) → ∃ u, Answers s (.revOpen S) u .noSection []) ∧
    ∀ s : State, s.Serves (.revClose S) → ∃ u, Answers s (.revClose S) u .noSection []) ∧
  (∀ (S : SecId) (s : State),
    (s.Serves (.revOpen S.val) → (s.sec S).revision = none →
      ∃ u, Answers s (.revOpen S.val) u .done [] ∧
        u = { s with sections := u.sections, port := u.port } ∧
        u.sec S = { s.sec S with
          revision := some (s.settings.revisionLimit * 1000)
          generation := (s.sec S).generation + 1 } ∧
        ∀ X : SecId, X ≠ S → u.sec X = s.sec X) ∧
    (s.Serves (.revOpen S.val) → (s.sec S).revision ≠ none →
      ∃ u, Answers s (.revOpen S.val) u .revising []) ∧
    (s.Serves (.revClose S.val) → (s.sec S).revision = none →
      ∃ u, Answers s (.revClose S.val) u .notRevising []) ∧
    (s.Serves (.revClose S.val) → (s.sec S).revision ≠ none → (s.sec S).context = none →
      ∃ u, Answers s (.revClose S.val) u .done [.num8 0] ∧
        u = { s with sections := u.sections, port := u.port } ∧
        u.sec S = { s.sec S with
          revision := none
          state := if (s.sec S).state = .empty then .ready else (s.sec S).state
          generation := (s.sec S).generation + if (s.sec S).state = .empty then 2 else 1 } ∧
        ∀ X : SecId, X ≠ S → u.sec X = s.sec X)) ∧
  ∀ (S : SecId) (s : State), s.resetAsserted = false →
    (s.campaign = .paused ∨ (s.sec S).revision ≠ some 0 →
      exec (.revisionExpiry S) s = .next s) ∧
    (s.campaign ≠ .paused → (s.sec S).revision = some 0 →
      ∃ u results, Answers { s with port := .idle } (.revClose S.val) u .done results ∧
        exec (.revisionExpiry S) s = .next { u with
          port := s.port
          events := { u.events with
            raw := u.events.raw ||| EventKind.revisionExpired.set } })

/-- REV_CLOSE of a section with a walk drains it: from the state with the revision closed, the parked
tags are removed and judged in queue order, each against the state that the ones before it left, and
then the walker's WAITING entries in ascending confirmation sequence, each made CONFIRMED; the response
counts the parked tags judged. The tag of the section's end marker ends the drain where it stands: the
walk is complete, and what is left is discarded or released unjudged. With no end marker the walk goes
on, its park queue empty and no WAITING entry of its walker left. -/
def Obligations.RevCloseDrainsTheWalk : Prop :=
  ∀ (S : SecId) (x : CtxId) (c : Context) (s : State), s.Serves (.revClose S.val) →
    (s.sec S).revision ≠ none → (s.sec S).context = some x → s.ctx x = some c → c.sec = S →
    ∃ (u closed parked : State) (marks : Tag → Bool) (c' : Context),
      (∀ t, marks t = true ↔ (s.sec S).endMarker = some t) ∧
      closed = { s with sections := closed.sections } ∧
      closed.sec S = { s.sec S with
        revision := none
        state := if (s.sec S).state = .empty then .ready else (s.sec S).state
        generation := (s.sec S).generation + if (s.sec S).state = .empty then 2 else 1 } ∧
      (∀ X : SecId, X ≠ S → closed.sec X = s.sec X) ∧
      parked = (throughFirst marks c.park).foldl (applyParked x) closed ∧
      Answers s (.revClose S.val) u .done [.num8 (throughFirst marks c.park).length] ∧
      u.sendQueue.take s.sendQueue.length = s.sendQueue ∧ u.watch = s.watch ∧
      (c.walker = none ∨ c.park.any marks = true → u = { parked with port := u.port }) ∧
      (∀ w order, c.walker = some w → c.park.any marks = false →
        (s.table w).WaitingInOrder order →
        u = { (throughFirst (fun i => ((s.table w).entries[i].tag?).any marks) order).foldl
          (applyWaiting x w) parked with port := u.port }) ∧
      (∀ w, c.walker = some w → ∀ k : Fin 24,
        (u.table w).entries[k] =
          match (s.table w).entries[k] with
          | .waiting t a f => .confirmed t s.settings.holdTicks a f
          | e => e) ∧
      (c.park.any marks = true → (u.sec S).walks = min 255 ((s.sec S).walks + 1) ∧
        u.events.raw.getLsbD EventKind.walkDone.bit = true ∧
        ((∀ q ∈ s.claims, q.sec ≠ S) → (u.sec S).state = .tallied ∧ u.ctx x = none) ∧
        ((∃ q ∈ s.claims, q.sec = S) → (u.sec S).state = .walking)) ∧
      ((s.sec S).endMarker = none → u.ctx x = some c' ∧ c'.sec = S ∧ c'.park = [] ∧
        c'.walker = c.walker ∧ c'.lease = c.lease ∧ u.sendQueue = s.sendQueue ∧
        (u.sec S).revision = none)

/-- REV_INSERT: its refusals in the order of its table; accepted, a new UNSEEN record stands at the
ordinal given or, CLAMPED, at the end, a cursor above it moves with its item, the timer is reloaded and
the section bumped once. -/
def Obligations.RevInsertStandsANewRecord : Prop :=
  ∀ (S k : Nat) (t : Tag) (circ : Byte) (s : State), s.Serves (.revInsert S k t circ) →
    (511 < S → ∃ u, Answers s (.revInsert S k t circ) u .noSection []) ∧
    ∀ T : SecId, S = T.val →
      if circ ≠ 0 ∧ circ ≠ 1 then ∃ u, Answers s (.revInsert S k t circ) u .badRequest []
      else if (s.sec T).revision = none then
        ∃ u, Answers s (.revInsert S k t circ) u .notRevising []
      else if s.item? t ≠ none then ∃ u, Answers s (.revInsert S k t circ) u .duplicateTag []
      else if 1024 ≤ (s.sec T).expected.length then
        ∃ u, Answers s (.revInsert S k t circ) u .sectionFull []
      else if 131072 ≤ s.items.length then ∃ u, Answers s (.revInsert S k t circ) u .tableFull []
      else
        ∃ u n k', n = (s.sec T).expected.length ∧ k' = min k n ∧
          Answers s (.revInsert S k t circ) u (if n < k then .clamped else .done)
            [.num16 k', .num16 (n + 1)] ∧
          u = { s with
            items := u.items, sections := u.sections, contexts := u.contexts, port := u.port } ∧
          u.item? t = some
            { tag := t, home := some T, circ := some (if circ = 0 then .shelf else .loan),
              count := .unseen, found := none, prior := none, sight := 0, moved := false,
              conflict := false } ∧
          (∀ t' : Tag, t' ≠ t → u.item? t' = s.item? t') ∧
          u.sec T = { s.sec T with
            expected := (s.sec T).expected.take k' ++ t :: (s.sec T).expected.drop k'
            revision := some (s.settings.revisionLimit * 1000)
            generation := (s.sec T).generation + 1 } ∧
          (∀ X : SecId, X ≠ T → u.sec X = s.sec X) ∧
          ∀ y : CtxId, u.ctx y = (s.ctx y).map fun c =>
            if (s.sec T).context = some y ∧ k' < c.cursor then { c with cursor := c.cursor + 1 }
            else c

/-- REV_RETIRE: its refusals in order; accepted, the record leaves every list it stands on and the item
table, a cursor above it moves with its item, the mark is lowered to the new length, the timer is
reloaded, and its home, and the section of a chain it leaves, are bumped once. -/
def Obligations.RevRetireWithdrawsTheRecord : Prop :=
  ∀ (t : Tag) (s : State), s.Serves (.revRetire t) →
    match s.item? t with
    | none => ∃ u, Answers s (.revRetire t) u .noItem []
    | some r =>
      match r.home with
      | none => ∃ u, Answers s (.revRetire t) u .noHome []
      | some H =>
        if (s.sec H).revision = none then ∃ u, Answers s (.revRetire t) u .notRevising []
        else
          ∃ u k, k = s.ordinal H t ∧
            Answers s (.revRetire t) u .done [.num16 H.val, .num16 k] ∧
            u = { s with
              items := u.items, sections := u.sections, contexts := u.contexts, port := u.port } ∧
            u.item? t = none ∧ (∀ t' : Tag, t' ≠ t → u.item? t' = s.item? t') ∧
            (r.count ≠ .unlisted → r.foundIn ≠ some H ∨ r.count ≠ .elsewhere →
              (∀ X : SecId, u.sec X =
                if X = H then
                  { s.sec H with
                    expected := (s.sec H).expected.eraseIdx k
                    mark := (s.sec H).mark.map fun m =>
                      min m ((s.sec H).expected.eraseIdx k).length
                    revision := some (s.settings.revisionLimit * 1000)
                    generation := (s.sec H).generation + 1 }
                else if r.count = .elsewhere ∧ r.foundIn = some X then
                  { s.sec X with
                    chain := (s.sec X).chain.filter fun t' => t' ≠ t
                    generation := (s.sec X).generation + 1 }
                else s.sec X)) ∧
            ∀ y : CtxId, u.ctx y = (s.ctx y).map fun c =>
              if (s.sec H).context = some y then
                { c with
                  run := if r.count = .held then c.run.filter fun t' => t' ≠ t else c.run
                  cursor := if k < c.cursor then c.cursor - 1 else c.cursor }
              else c

/-- REV_ADOPT: its refusals in order; accepted, a provisional record becomes a home item on SHELF,
IN_PLACE if it was found in the adopting section, whose chain it then leaves, and ELSEWHERE otherwise,
keeping its place there; it stands in the sequence as an insertion does. -/
def Obligations.RevAdoptGivesARecordAHome : Prop :=
  ∀ (t : Tag) (S k : Nat) (s : State), s.Serves (.revAdopt t S k) →
    (511 < S → ∃ u, Answers s (.revAdopt t S k) u .noSection []) ∧
    ∀ T : SecId, S = T.val →
      match s.item? t with
      | none => ∃ u, Answers s (.revAdopt t S k) u .noItem []
      | some r =>
        if r.home ≠ none then ∃ u, Answers s (.revAdopt t S k) u .notUnlisted []
        else if (s.sec T).revision = none then
          ∃ u, Answers s (.revAdopt t S k) u .notRevising []
        else if 1024 ≤ (s.sec T).expected.length then
          ∃ u, Answers s (.revAdopt t S k) u .sectionFull []
        else
          ∃ u n k' count, n = (s.sec T).expected.length ∧ k' = min k n ∧
            count = (if r.foundIn = some T then CountState.inPlace else .elsewhere) ∧
            Answers s (.revAdopt t S k) u (if n < k then .clamped else .done)
              [.num16 k', .count count] ∧
            u = { s with
              items := u.items, sections := u.sections, contexts := u.contexts, port := u.port } ∧
            u.item? t = some { r with home := some T, circ := some .shelf, count := count } ∧
            (∀ t' : Tag, t' ≠ t → u.item? t' = s.item? t') ∧
            (∀ X : SecId, u.sec X = { s.sec X with
              expected :=
                if X = T then (s.sec T).expected.take k' ++ t :: (s.sec T).expected.drop k'
                else (s.sec X).expected
              revision :=
                if X = T then some (s.settings.revisionLimit * 1000) else (s.sec X).revision
              chain :=
                if X = T ∧ r.foundIn = some T then (s.sec X).chain.filter fun t' => t' ≠ t
                else (s.sec X).chain
              generation := (s.sec X).generation +
                if X = T ∨ r.foundIn = some X then 1 else 0 }) ∧
            ∀ y : CtxId, u.ctx y = (s.ctx y).map fun c =>
              if (s.sec T).context = some y ∧ k' < c.cursor then { c with cursor := c.cursor + 1 }
              else c

/-- SEC_UNLOAD of a READY or TALLIED section with its revision closed: its home records and the
provisional records of its chain leave the item table, the strays of its chain return to UNSEEN, and it
is EMPTY with the default settings, bumped once for that and once for any change to its items, chain or
settings (no bump without one is the model's reading, notes/assumptions/13.md); each other section loses
its records from its chain and is bumped once for what it felt. -/
def Obligations.SecUnloadEmptiesTheSection : Prop :=
  (∀ (S : Nat) (s : State), s.Serves (.secUnload S) →
    (511 < S → ∃ u, Answers s (.secUnload S) u .noSection []) ∧
    ∀ T : SecId, S = T.val →
      ((s.sec T).state = .empty → ∃ u, Answers s (.secUnload S) u .noSection []) ∧
      ((s.sec T).state = .walking ∨ (s.sec T).state = .suspended →
        ∃ u, Answers s (.secUnload S) u .busy []) ∧
      ((s.sec T).state = .ready ∨ (s.sec T).state = .tallied → (s.sec T).revision ≠ none →
        ∃ u, Answers s (.secUnload S) u .revising [])) ∧
  ∀ (S : SecId) (s : State), s.Serves (.secUnload S.val) →
    (s.sec S).state = .ready ∨ (s.sec S).state = .tallied → (s.sec S).revision = none →
    ∃ u, Answers s (.secUnload S.val) u .done
        [.num16 (s.items.countP fun r => r.home = some S), .num32 (s.sec S).chain.length] ∧
      u = { s with items := u.items, sections := u.sections, port := u.port } ∧
      u.items = ((s.items.filter fun r =>
          !(r.home = some S || (r.home = none && r.tag ∈ (s.sec S).chain))).map fun r =>
        if r.home ≠ none ∧ r.count = .elsewhere ∧ r.tag ∈ (s.sec S).chain then
          { r with count := .unseen, found := none, prior := none } else r) ∧
      (∃ changed : Bool,
        (changed = true ↔ (∃ r ∈ s.items, r.home = some S) ∨ (s.sec S).expected ≠ [] ∨
          (s.sec S).chain ≠ [] ∨ (s.sec S).tolerance ≠ s.settings.defaultTolerance ∨
          (s.sec S).lamp ≠ none ∨ (s.sec S).mark ≠ none ∨ (s.sec S).endMarker ≠ none) ∧
        u.sec S =
          { state := .empty, revision := none, expected := [],
            tolerance := s.settings.defaultTolerance, lamp := none, mark := none,
            endMarker := none, chain := [], attention := false,
            generation := (s.sec S).generation + if changed then 2 else 1, walks := 0,
            context := none }) ∧
      ∀ X : SecId, X ≠ S → u.sec X = { s.sec X with
        chain := (s.sec X).chain.filter fun t => !(s.item? t).any fun r => r.home = some S
        generation := (s.sec X).generation +
          if (∃ t ∈ (s.sec X).chain, ∃ r, s.item? t = some r ∧ r.home = some S) ∨
            (∃ r ∈ s.items, r.home = some X ∧ r.count = .elsewhere ∧ r.tag ∈ (s.sec S).chain)
          then 1 else 0 }

/-- SEC_RESET of a READY or TALLIED section: its home items and the strays of its chain return to
UNSEEN, the provisional records of its chain leave, and its results start again while its list,
settings and revision stand; the response counts the items changed and the records released. It is
bumped once for its entry into READY from TALLIED and once for any change to its items or chain (no bump
without one is the model's reading, notes/assumptions/13.md), and each other section once if it loses a
chain record or gets an item back. -/
def Obligations.SecResetRestartsTheResults : Prop :=
  (∀ (S : Nat) (s : State), s.Serves (.secReset S) →
    (511 < S → ∃ u, Answers s (.secReset S) u .noSection []) ∧
    ∀ T : SecId, S = T.val →
      ((s.sec T).state = .empty → ∃ u, Answers s (.secReset S) u .noSection []) ∧
      ((s.sec T).state = .walking ∨ (s.sec T).state = .suspended →
        ∃ u, Answers s (.secReset S) u .busy [])) ∧
  ∀ (S : SecId) (s : State), s.Serves (.secReset S.val) →
    (s.sec S).state = .ready ∨ (s.sec S).state = .tallied →
    ∃ u, Answers s (.secReset S.val) u .done
        [.num16 (s.items.countP fun r => r.home = some S && r.count ≠ .unseen),
          .num32 (s.sec S).chain.length] ∧
      u = { s with items := u.items, sections := u.sections, port := u.port } ∧
      u.items = ((s.items.filter fun r =>
          !(r.home = none && r.tag ∈ (s.sec S).chain)).map fun r =>
        if r.home = some S ∨ (r.home ≠ none ∧ r.count = .elsewhere ∧ r.tag ∈ (s.sec S).chain) then
          { r with count := .unseen, found := none, prior := none } else r) ∧
      u.sec S = { s.sec S with
        state := .ready
        chain := []
        attention := false
        walks := 0
        generation := (s.sec S).generation +
          (if (s.sec S).chain ≠ [] ∨ ∃ r ∈ s.items, r.home = some S ∧ r.count ≠ .unseen then 1
            else 0) + if (s.sec S).state = .tallied then 1 else 0 } ∧
      ∀ X : SecId, X ≠ S → u.sec X = { s.sec X with
        chain := (s.sec X).chain.filter fun t => !(s.item? t).any fun r => r.home = some S
        generation := (s.sec X).generation +
          if (∃ t ∈ (s.sec X).chain, ∃ r, s.item? t = some r ∧ r.home = some S) ∨
            (∃ r ∈ s.items, r.home = some X ∧ r.count = .elsewhere ∧ r.tag ∈ (s.sec S).chain)
          then 1 else 0 }

/-- ITEM_DROP removes a provisional record: it leaves its chain, whose section is bumped once, and the
item table; a home item is refused NOT_UNLISTED. -/
def Obligations.ItemDropRemovesAProvisionalRecord : Prop :=
  ∀ (t : Tag) (s : State), s.Serves (.itemDrop t) →
    match s.item? t with
    | none => ∃ u, Answers s (.itemDrop t) u .noItem []
    | some r =>
      if r.home ≠ none then ∃ u, Answers s (.itemDrop t) u .notUnlisted []
      else
        ∃ u, Answers s (.itemDrop t) u .done [] ∧
          u = { s with items := u.items, sections := u.sections, port := u.port } ∧
          u.item? t = none ∧ (∀ t' : Tag, t' ≠ t → u.item? t' = s.item? t') ∧
          ∀ X : SecId, u.sec X =
            if r.foundIn = some X then
              { s.sec X with
                chain := (s.sec X).chain.filter fun t' => t' ≠ t
                generation := (s.sec X).generation + 1 }
            else s.sec X

/-! ### Section settings, walks and results from the catalogue server -/

/-- SEC_SET writes the four settings of a non-EMPTY section, a tolerance above 15 as 15, a mark above
the length as the length, a lamp of 48 or above as none, bumps the section once, and clears the walk's
mark-hit flag if the mark as written differs from the one held (that the lowered mark is compared is the
model's reading, notes/assumptions/21.md). -/
def Obligations.SecSetWritesTheFourSettings : Prop :=
  ∀ (S tol lamp : Nat) (mark : Option Nat) (endMarker : Option Tag) (s : State),
    s.Serves (.secSet S tol lamp mark endMarker) →
    (511 < S → ∃ u, Answers s (.secSet S tol lamp mark endMarker) u .noSection []) ∧
    ∀ T : SecId, S = T.val →
      if (s.sec T).state = .empty then
        ∃ u, Answers s (.secSet S tol lamp mark endMarker) u .noSection []
      else
        ∃ u n mark', n = (s.sec T).expected.length ∧ mark' = mark.map (fun m => min m n) ∧
          Answers s (.secSet S tol lamp mark endMarker) u
            (if 15 < tol ∨ ∃ m, mark = some m ∧ n < m then .clamped else .done) [] ∧
          u = { s with sections := u.sections, contexts := u.contexts, port := u.port } ∧
          u.sec T = { s.sec T with
            tolerance := min tol 15
            lamp := if h : lamp < 48 then some ⟨lamp, h⟩ else none
            mark := mark'
            endMarker := endMarker
            generation := (s.sec T).generation + 1 } ∧
          (∀ X : SecId, X ≠ T → u.sec X = s.sec X) ∧
          ∀ y : CtxId, u.ctx y = (s.ctx y).map fun c =>
            if (s.sec T).context = some y ∧ mark' ≠ (s.sec T).mark then { c with markHit := false }
            else c

/-- WALK_ABANDON of a walk: its run entries return to their prior states, the walker's WAITING entries
are released and it is sent DROP, the context is freed, and the section is TALLIED if a walk of it has
completed and READY otherwise; with a waiter, the oldest is granted a new walk.
Two readings are the model's: there is no bump for record changes when the run is empty
(notes/assumptions/13.md), and a run entry without a prior state, which no run of the part has, returns
to UNSEEN (notes/assumptions/20.md). -/
def Obligations.WalkAbandonEndsTheWalk : Prop :=
  (∀ (S : Nat) (s : State), s.Serves (.walkAbandon S) → 511 < S →
    ∃ u, Answers s (.walkAbandon S) u .noSection []) ∧
  ∀ (S : SecId) (x : CtxId) (c : Context) (s : State), s.Serves (.walkAbandon S.val) →
    ((s.sec S).state ≠ .walking → (s.sec S).state ≠ .suspended →
      ∃ u, Answers s (.walkAbandon S.val) u .wrongState []) ∧
    ((s.sec S).state = .walking ∨ (s.sec S).state = .suspended → (s.sec S).context = some x →
      s.ctx x = some c → c.sec = S →
      ∃ u, Answers s (.walkAbandon S.val) u .done [.num8 c.run.length, .num8 c.park.length] ∧
        u = { s with
          items := u.items
          sections := u.sections
          contexts := u.contexts
          tables := u.tables
          claims := u.claims
          sendQueue := u.sendQueue
          port := u.port } ∧
        u.items = (s.items.map fun r =>
          if r.tag ∈ c.run then
            { r with count := r.prior.getD .unseen, found := none, prior := none }
          else r) ∧
        (∀ X : SecId, X ≠ S → u.sec X = s.sec X) ∧
        (∀ w, c.walker = some w → ∀ k : Fin 24, (u.table w).entries[k] =
          match (s.table w).entries[k] with
          | .waiting t a f => .confirmed t s.settings.holdTicks a f
          | e => e) ∧
        (∀ v : Wand, c.walker ≠ some v → u.table v = s.table v) ∧
        (∀ v : Wand, u.table v = { s.table v with entries := (u.table v).entries }) ∧
        ((∀ q ∈ s.claims, q.sec ≠ S) →
          u.sendQueue = s.sendQueue ++
            (c.walker.map fun w => PartFrame.drop w S false).toList ∧
          u.claims = s.claims ∧ u.ctx x = none ∧ (∀ y : CtxId, y ≠ x → u.ctx y = s.ctx y) ∧
          u.sec S = { s.sec S with
            state := if 1 ≤ (s.sec S).walks then .tallied else .ready
            context := none
            generation := (s.sec S).generation + if c.run = [] then 1 else 2 }) ∧
        (∀ q, (s.claims.find? fun q => q.sec = S) = some q →
          ∃ y : CtxId, (y = x ∨ s.ctx y = none) ∧ (∀ z : CtxId, z < y → z ≠ x ∧ s.ctx z ≠ none) ∧
            u.sendQueue = s.sendQueue ++
              (c.walker.map fun w => PartFrame.drop w S false).toList ++
              [.grant q.wand S false y] ∧
            u.claims = s.claims.filter (fun p => p.wand ≠ q.wand) ∧
            (∀ z : CtxId, u.ctx z =
              if z = y then some
                { sec := S, walker := some q.wand, cursor := 0, run := [], park := [],
                  lease := some (s.settings.leaseInterval * 1000), markHit := false }
              else if z = x then none
              else s.ctx z) ∧
            u.sec S = { s.sec S with
              state := .walking
              context := some y
              generation := (s.sec S).generation + if c.run = [] then 2 else 3 }))

/-- ATT_ACK clears a section's attention and reports whether it was set, changes nothing else, and does
not clear the raw bit of ATTENTION; ATT_NEXT returns the lowest section whose attention is set, or
none. -/
def Obligations.AttentionIsFoundAndAcknowledged : Prop :=
  (∀ (S : Nat) (s : State), s.Serves (.attAck S) →
    (511 < S → ∃ u, Answers s (.attAck S) u .noSection []) ∧
    ∀ T : SecId, S = T.val →
      ∃ u, Answers s (.attAck S) u .done [.flag (s.sec T).attention] ∧
        u = { s with sections := u.sections, port := u.port } ∧
        u.sec T = { s.sec T with attention := false } ∧
        ∀ X : SecId, X ≠ T → u.sec X = s.sec X) ∧
  ∀ s : State, s.Serves .attNext →
    ∃ u found, Answers s .attNext u .done [.num16Opt (found.map fun S : SecId => S.val)] ∧
      u = { s with port := u.port } ∧
      (∀ S, found = some S → (s.sec S).attention = true ∧
        ∀ X : SecId, X < S → (s.sec X).attention = false) ∧
      (found = none → ∀ X : SecId, (s.sec X).attention = false)

/-! ### Circulation -/

/-- CIRC_OUT and CIRC_IN set the circulation of a home item; outside CLOSED they move an UNSEEN, PASSED
or NOT_FOUND item to DESK, and CIRC_IN clears the loan conflict flag; the home is bumped once for a
change of the two latter kinds. ITEM_CLEAR clears the review flags of any record. -/
def Obligations.NoticesMoveTheItemToTheDesk : Prop :=
  ∀ (t : Tag) (s : State),
    (s.item? t = none →
      (s.Serves (.circOut t) → ∃ u, Answers s (.circOut t) u .noItem []) ∧
      (s.Serves (.circIn t) → ∃ u, Answers s (.circIn t) u .noItem []) ∧
      (s.Serves (.itemClear t) → ∃ u, Answers s (.itemClear t) u .noItem [])) ∧
    ∀ r, s.item? t = some r →
      (r.home = none →
        (s.Serves (.circOut t) → ∃ u, Answers s (.circOut t) u .noHome []) ∧
        (s.Serves (.circIn t) → ∃ u, Answers s (.circIn t) u .noHome [])) ∧
      (∀ H moves count, r.home = some H →
        (moves = true ↔ s.campaign ≠ .closed ∧
          (r.count = .unseen ∨ r.count = .passed ∨ r.count = .notFound)) →
        count = (if moves then .desk else r.count) →
        (s.Serves (.circOut t) →
          ∃ u, Answers s (.circOut t) u .done [.num16 H.val, .count count, .flag moves] ∧
            u = { s with items := u.items, sections := u.sections, port := u.port } ∧
            u.item? t = some { r with circ := some .loan, count := count } ∧
            (∀ t' : Tag, t' ≠ t → u.item? t' = s.item? t') ∧
            ∀ X : SecId, u.sec X = { s.sec X with
              generation := (s.sec X).generation + if X = H ∧ moves = true then 1 else 0 }) ∧
        (s.Serves (.circIn t) →
          ∃ u, Answers s (.circIn t) u .done
              [.num16 H.val, .count count, .flag moves, .flag r.conflict] ∧
            u = { s with items := u.items, sections := u.sections, port := u.port } ∧
            u.item? t = some { r with
              circ := some .shelf
              count := count
              conflict := r.conflict && decide (s.campaign = .closed) } ∧
            (∀ t' : Tag, t' ≠ t → u.item? t' = s.item? t') ∧
            ∀ X : SecId, u.sec X = { s.sec X with
              generation := (s.sec X).generation +
                if X = H ∧ (moves = true ∨ (r.conflict = true ∧ s.campaign ≠ .closed)) then 1
                else 0 })) ∧
      (s.Serves (.itemClear t) →
        ∃ u, Answers s (.itemClear t) u .done [.flag r.moved, .flag r.conflict] ∧
          u = { s with items := u.items, sections := u.sections, port := u.port } ∧
          u.item? t = some { r with moved := false, conflict := false } ∧
          (∀ t' : Tag, t' ≠ t → u.item? t' = s.item? t') ∧
          ∀ X : SecId, u.sec X = { s.sec X with
            generation := (s.sec X).generation +
              if r.home = some X ∧ (r.moved = true ∨ r.conflict = true) then 1 else 0 })

/-! ### The campaign -/

/-- CAMP_START in STOPPED or CLOSED: provisional records leave, every home item is UNSEEN with no
finding, a sight count of 0 and both flags clear, every section that is not EMPTY is READY with starting
results, and the campaign runs from a clock of 0. The bumps are the model's reading: a section is bumped
only for what changes (notes/assumptions/13.md), and a review flag cleared is such a change in a READY
section too (notes/assumptions/24.md). -/
def Obligations.CampStartBeginsTheCount : Prop :=
  ∀ s : State, s.Serves .campStart → s.campaign = .stopped ∨ s.campaign = .closed →
    ∃ u, Answers s .campStart u .done
        [.num16 (s.countSecs fun x => x.state = .tallied),
          .num32 (s.items.countP fun r => r.home = none)] ∧
      u = { s with
        items := u.items, sections := u.sections, campaign := .running, clock := 0, clockPart := 0
        port := u.port } ∧
      u.items = ((s.items.filter fun r => r.home ≠ none).map fun r =>
        { r with
          count := .unseen, found := none, prior := none, sight := 0, moved := false,
          conflict := false }) ∧
      ∀ S : SecId,
        ((s.sec S).state = .ready ∨ (s.sec S).state = .tallied →
          u.sec S = { s.sec S with
            state := .ready, chain := [], attention := false, walks := 0
            generation := (s.sec S).generation +
              (if (s.sec S).chain ≠ [] ∨ ∃ r ∈ s.items, r.home = some S ∧
                (r.count ≠ .unseen ∨ r.moved = true ∨ r.conflict = true) then 1 else 0) +
              if (s.sec S).state = .tallied then 1 else 0 }) ∧
        ((s.sec S).state = .empty → (s.sec S).chain = [] →
          u.sec S = { s.sec S with
            generation := (s.sec S).generation +
              if ∃ r ∈ s.items, r.home = some S ∧
                (r.count ≠ .unseen ∨ r.moved = true ∨ r.conflict = true) then 1 else 0 })

/-- CAMP_PAUSE and CAMP_RESUME change the campaign state alone, so that every timer keeps its value, and
every campaign request in a state it does not accept is refused WRONG_STATE. -/
def Obligations.PauseAndResumeKeepEveryTimer : Prop :=
  ∀ s : State,
    (s.Serves .campPause → if s.campaign = .running then
      ∃ u, Answers s .campPause u .done [] ∧ u = { s with campaign := .paused, port := u.port }
      else ∃ u, Answers s .campPause u .wrongState []) ∧
    (s.Serves .campResume → if s.campaign = .paused then
      ∃ u, Answers s .campResume u .done [] ∧ u = { s with campaign := .running, port := u.port }
      else ∃ u, Answers s .campResume u .wrongState []) ∧
    (s.Serves .campStart → s.campaign = .running ∨ s.campaign = .paused →
      ∃ u, Answers s .campStart u .wrongState []) ∧
    (s.Serves .campClose → s.campaign = .stopped ∨ s.campaign = .closed →
      ∃ u, Answers s .campClose u .wrongState []) ∧
    (s.Serves .campClose → s.campaign = .running ∨ s.campaign = .paused →
      (∃ S : SecId, (s.sec S).revision ≠ none) → ∃ u, Answers s .campClose u .revising [])

/-- CAMP_CLOSE with no revision open: every walk ends without a tally, walkers and then waiters are sent
DROP, run entries become DISORDERED, and every home item not found is MISSING, or DESK if on LOAN. -/
def Obligations.CampCloseGivesFinalFindings : Prop :=
  ∀ s : State, s.Serves .campClose → s.campaign = .running ∨ s.campaign = .paused →
    (∀ S : SecId, (s.sec S).revision = none) →
    ∃ u, Answers s .campClose u .done
        [.num8 ((List.finRange 16).countP fun x => (s.ctx x).isSome), .num8 s.claims.length,
          .num32 (s.items.countP fun r => decide (r.home ≠ none ∧
            (r.count = .unseen ∨ r.count = .passed ∨ r.count = .notFound) ∧
              r.circ ≠ some .loan)),
          .num32 (s.items.countP fun r => decide (r.home ≠ none ∧
            (r.count = .unseen ∨ r.count = .passed ∨ r.count = .notFound) ∧
              r.circ = some .loan))] ∧
      u = { s with
        items := u.items
        sections := u.sections
        contexts := u.contexts
        claims := []
        campaign := .closed
        sendQueue := u.sendQueue
        events := u.events
        port := u.port } ∧
      (∀ x : CtxId, u.ctx x = none) ∧
      u.items = (s.items.map fun r =>
        if r.home = none then r
        else
          match r.count with
          | .held => { r with count := .disordered, prior := none }
          | .unseen | .passed | .notFound =>
            { r with
              count := if r.circ = some .loan then .desk else .missing
              found := none }
          | _ => r) ∧
      u.sendQueue = s.sendQueue ++
        ((List.finRange 16).filterMap fun x =>
          (s.ctx x).bind fun c => c.walker.map fun w => PartFrame.drop w c.sec true) ++
        s.claims.map (fun q => PartFrame.drop q.wand q.sec true) ∧
      (∀ S : SecId, ∃ walked attends changed : Bool,
        (walked = true ↔ ∃ x c, s.ctx x = some c ∧ c.sec = S) ∧
        (attends = true ↔ ∃ r ∈ s.items, r.home = some S ∧ (r.count = .held ∨
          ((r.count = .unseen ∨ r.count = .passed ∨ r.count = .notFound) ∧ r.circ ≠ some .loan))) ∧
        (changed = true ↔ ∃ r ∈ s.items, r.home = some S ∧
          (r.count = .held ∨ r.count = .unseen ∨ r.count = .passed ∨ r.count = .notFound)) ∧
        u.sec S = { s.sec S with
          state := if walked then .tallied else (s.sec S).state
          context := if walked then none else (s.sec S).context
          attention := (s.sec S).attention || attends
          generation := (s.sec S).generation + (if changed then 1 else 0) +
            if walked then 1 else 0 }) ∧
      ∃ newly : Bool,
        (newly = true ↔ ∃ S : SecId, (s.sec S).attention = false ∧ (u.sec S).attention = true) ∧
        u.events = { s.events with
          raw := s.events.raw ||| if newly then EventKind.attention.set else 0 }

/-! ### The watch table, lamps, events, settings -/

/-- WATCH_SET writes and arms an entry and clears its hit record; WATCH_CLEAR clears its valid flag and
WATCH_ACK its hit pending flag, and keep the rest; each reports what stood before; an index above 15
is refused. -/
def Obligations.WatchRequestsWriteOneEntry : Prop :=
  (∀ (x : Nat) (s : State), 15 < x →
    (∀ value mask cls oneShot, s.Serves (.watchSet x value mask cls oneShot) →
      ∃ u, Answers s (.watchSet x value mask cls oneShot) u .badRequest []) ∧
    (s.Serves (.watchClear x) → ∃ u, Answers s (.watchClear x) u .badRequest []) ∧
    (s.Serves (.watchAck x) → ∃ u, Answers s (.watchAck x) u .badRequest [])) ∧
  ∀ (i : WatchId) (s : State),
    (∀ (value mask : Tag) (cls : Nat) (oneShot : Bool),
      s.Serves (.watchSet i.val value mask cls oneShot) →
      ∃ u, Answers s (.watchSet i.val value mask cls oneShot) u
          (if 3 < cls then .clamped else .done)
          [.flag s.watch[i].valid, .flag s.watch[i].hitPending] ∧
        u = { s with watch := u.watch, port := u.port } ∧
        u.watch[i] =
          { valid := true, value := value, mask := mask,
            cls := if h : cls < 4 then ⟨cls, h⟩ else 3, oneShot := oneShot, hits := 0,
            hitPending := false, last := none } ∧
        ∀ j : WatchId, j ≠ i → u.watch[j] = s.watch[j]) ∧
    (s.Serves (.watchClear i.val) →
      ∃ u, Answers s (.watchClear i.val) u .done [.flag s.watch[i].valid] ∧
        u = { s with watch := u.watch, port := u.port } ∧
        u.watch[i] = { s.watch[i] with valid := false } ∧
        ∀ j : WatchId, j ≠ i → u.watch[j] = s.watch[j]) ∧
    (s.Serves (.watchAck i.val) →
      ∃ u, Answers s (.watchAck i.val) u .done [.flag s.watch[i].hitPending] ∧
        u = { s with watch := u.watch, port := u.port } ∧
        u.watch[i] = { s.watch[i] with hitPending := false } ∧
        ∀ j : WatchId, j ≠ i → u.watch[j] = s.watch[j])

/-- LAMP_FORCE sets or releases the force of one lamp; the lamp shows its force, or the highest-ranked
display status among the sections on it, and an out-of-range lamp or pattern is refused. A section's
display status follows from its attention and its state, attention first; a lamp is lit in the intervals
of the lamp phase that its pattern has, each with its start and without its end, and dark while RESET is
asserted. -/
def Obligations.LampForceAndDerivedPattern : Prop :=
  (∀ (m : Nat) (pattern : Byte) (s : State), s.Serves (.lampForce m pattern) →
    47 < m ∨ (4 < pattern.toNat ∧ pattern ≠ 0x0F) →
    ∃ u, Answers s (.lampForce m pattern) u .badRequest []) ∧
  (∀ (m : LampId) (pattern : Byte) (force : Option Pattern) (s : State),
    s.Serves (.lampForce m.val pattern) →
    (pattern = 0x0F ∧ force = none) ∨
      (∃ p : Pattern, force = some p ∧ pattern.toNat = p.code) →
    ∃ u, Answers s (.lampForce m.val pattern) u .done
        [.patternOpt s.forces[m], .patternOpt (some (s.derivedPattern m)),
          .num16 ((List.finRange 512).countP fun S => (s.sec S).lamp = some m)] ∧
      u = { s with forces := u.forces, port := u.port } ∧ u.forces[m] = force ∧
      (∀ n : LampId, n ≠ m → u.forces[n] = s.forces[n]) ∧
      u.shownPattern m = force.getD (s.derivedPattern m)) ∧
  (∀ (S : SecId) (s : State), s.displayStatus S =
    if (s.sec S).attention = true then .flicker
    else if (s.sec S).state = .suspended then .blinkLong
    else if (s.sec S).state = .walking then .blinkEven
    else if (s.sec S).state = .tallied then .on
    else .off) ∧
  (∀ (m : LampId) (s : State), s.lampPhase < 2000 → (s.lampLit m = true ↔
    s.resetAsserted = false ∧
      match s.forces[m].getD (s.derivedPattern m) with
      | .flicker => ∃ k, k < 8 ∧ 250 * k ≤ s.lampPhase ∧ s.lampPhase < 250 * k + 125
      | .blinkLong => s.lampPhase < 1500
      | .blinkEven => s.lampPhase < 500 ∨ (1000 ≤ s.lampPhase ∧ s.lampPhase < 1500)
      | .on => True
      | .off => False)) ∧
  ∀ (m : LampId) (s : State),
    (∀ S : SecId, (s.sec S).lamp = some m →
      (s.displayStatus S).rank ≤ (s.derivedPattern m).rank) ∧
    (s.derivedPattern m = .off ∨
      ∃ S : SecId, (s.sec S).lamp = some m ∧ s.displayStatus S = s.derivedPattern m)

/-- EVT_CLEAR, EVT_FORCE, EVT_ENABLE and EVT_ROUTE write the raw bits, the enable bits and the routes of
exactly the kinds they name, report the former set, and refuse a set that names no kind of the nine. -/
def Obligations.EventRequestsWriteTheSetsNamed : Prop :=
  ∀ (k : BitVec 16) (s : State),
    (s.Serves (.evtClear k) → if 512 ≤ k.toNat then
        ∃ u, Answers s (.evtClear k) u .badRequest []
      else ∃ u, Answers s (.evtClear k) u .done [.kinds s.events.raw] ∧
        u = { s with events := u.events, port := u.port } ∧
        u.events.enable = s.events.enable ∧ u.events.urgent = s.events.urgent ∧
        ∀ n, n < 9 → u.events.raw.getLsbD n = (s.events.raw.getLsbD n && !k.getLsbD n)) ∧
    (s.Serves (.evtForce k) → if 512 ≤ k.toNat then
        ∃ u, Answers s (.evtForce k) u .badRequest []
      else ∃ u, Answers s (.evtForce k) u .done [.kinds s.events.raw] ∧
        u = { s with events := u.events, port := u.port } ∧
        u.events.enable = s.events.enable ∧ u.events.urgent = s.events.urgent ∧
        ∀ n, n < 9 → u.events.raw.getLsbD n = (s.events.raw.getLsbD n || k.getLsbD n)) ∧
    (s.Serves (.evtEnable k) → if 512 ≤ k.toNat then
        ∃ u, Answers s (.evtEnable k) u .badRequest []
      else ∃ u, Answers s (.evtEnable k) u .done [.kinds s.events.enable] ∧
        u = { s with events := u.events, port := u.port } ∧
        u.events.raw = s.events.raw ∧ u.events.urgent = s.events.urgent ∧
        ∀ n, n < 9 → u.events.enable.getLsbD n = k.getLsbD n) ∧
    (s.Serves (.evtRoute k) → if 512 ≤ k.toNat then
        ∃ u, Answers s (.evtRoute k) u .badRequest []
      else ∃ u, Answers s (.evtRoute k) u .done [.kinds s.events.urgent] ∧
        u = { s with events := u.events, port := u.port } ∧
        u.events.raw = s.events.raw ∧ u.events.enable = s.events.enable ∧
        ∀ n, n < 9 → u.events.urgent.getLsbD n = k.getLsbD n)

/-- SET_WRITE writes one of the nine settings, a value outside its range as the nearer limit and a decay
tick as the nearest of the four, answering CLAMPED; the other settings stand. SET_READ returns all nine
in key order. -/
def Obligations.SettingsAreWrittenWithinRange : Prop :=
  (∀ (key v : Nat) (s : State), s.Serves (.setWrite key v) →
    (key = 0 ∨ 9 < key → ∃ u, Answers s (.setWrite key v) u .badRequest []) ∧
    (1 ≤ key → key ≤ 9 →
      ∃ u v', Answers s (.setWrite key v) u (if v' = v then .done else .clamped)
          [.num8 key, .num16 v', .num16 (s.settings.get key)] ∧
        u = { s with settings := u.settings, port := u.port } ∧ u.settings.get key = v' ∧
        (∀ j, 1 ≤ j → j ≤ 9 → j ≠ key → u.settings.get j = s.settings.get j) ∧
        (key = 3 → v' = if v ≤ 23 then 16 else if v ≤ 47 then 32 else if v ≤ 95 then 64 else 128) ∧
        ∀ lo hi, ((key = 1 ∧ lo = 0 ∧ hi = 255) ∨ (key = 2 ∧ lo = 64 ∧ hi = 1023) ∨
            (key = 4 ∧ lo = 1 ∧ hi = 63) ∨ (key = 5 ∧ lo = 30 ∧ hi = 600) ∨
            (key = 6 ∧ lo = 1 ∧ hi = 60) ∨ (key = 7 ∧ lo = 0 ∧ hi = 15) ∨
            (key = 8 ∧ lo = 2 ∧ hi = 8) ∨ (key = 9 ∧ lo = 1 ∧ hi = 4096)) →
          v' = if v < lo then lo else if hi < v then hi else v)) ∧
  ∀ s : State, s.Serves .setRead →
    ∃ u, Answers s .setRead u .done
        [.num16 s.settings.readFloor, .num16 s.settings.confirmThreshold,
          .num16 s.settings.decayTick, .num16 s.settings.holdTicks,
          .num16 s.settings.leaseInterval, .num16 s.settings.revisionLimit,
          .num16 s.settings.defaultTolerance, .num16 s.settings.resyncLength,
          .num16 s.settings.adoptThreshold] ∧
      u = { s with port := u.port }

/-! ### Reads -/

/-- The reads of the event unit, the campaign, the claim queue and the watch table return what stands
and change no state. Of an absent last hit WATCH_READ sends the section bytes as for a roaming one, the
model's choice (notes/assumptions/26.md). -/
def Obligations.UnitReadsReturnWhatStands : Prop :=
  ∀ s : State,
    (s.Serves .evtRead → ∃ u masked, Answers s .evtRead u .done
        [.kinds s.events.raw, .kinds s.events.enable, .kinds masked, .kinds s.events.urgent,
          .flag (masked &&& ~~~s.events.urgent ≠ 0), .flag (masked &&& s.events.urgent ≠ 0)] ∧
      masked = s.events.raw &&& s.events.enable ∧ u = { s with port := u.port }) ∧
    (s.Serves .campRead → ∃ u, Answers s .campRead u .done
        [.campState s.campaign, .num32 s.clock, .num32 s.items.length,
          .num32 (s.items.countP fun r => r.count = .unlisted),
          .num8 ((List.finRange 16).countP fun x => (s.ctx x).isSome), .num8 s.claims.length,
          .num16 ((List.finRange 512).countP fun S => (s.sec S).revision.isSome)] ∧
      u = { s with port := u.port }) ∧
    (s.Serves .claimqRead → ∃ u, Answers s .claimqRead u .done
        (.num8 s.claims.length ::
          s.claims.flatMap fun q => [.num8 q.wand.val, .num16 q.sec.val]) ∧
      u = { s with port := u.port }) ∧
    (∀ i : WatchId, s.Serves (.watchRead i.val) → ∃ u e, e = s.watch[i] ∧
      Answers s (.watchRead i.val) u .done
        [.flag e.valid, .tag e.value, .tag e.mask, .num8 e.cls.val, .flag e.oneShot, .num8 e.hits,
          .flag e.hitPending, .num8Opt (e.last.map fun l => l.wand.val),
          .num16Opt (e.last.bind fun l => l.sec.map Fin.val),
          .time (e.last.map fun l => l.time)] ∧
      u = { s with port := u.port }) ∧
    (s.Serves .watchNext → ∃ u found,
      Answers s .watchNext u .done [.num8Opt (found.map fun i : WatchId => i.val)] ∧
      u = { s with port := u.port } ∧
      (∀ i, found = some i → s.watch[i].hitPending = true ∧
        ∀ j : WatchId, j < i → s.watch[j].hitPending = false) ∧
      (found = none → ∀ j : WatchId, s.watch[j].hitPending = false))

/-- The reads of an item record, a section, its lists, a walk context and a wand return what stands and
change no state; the result of ITEM_READ has the layout and the 26 bytes of R213. What no record,
section, context, wand or watch entry answers to is refused. That the claim queue position of WAND_READ
takes one byte, FFH when absent (notes/assumptions/25.md), and that the end marker of SEC_READ has a
presence byte (notes/assumptions/10.md), is the model's reading. -/
def Obligations.RecordReadsReturnWhatStands : Prop :=
  ∀ s : State,
    (∀ t r, s.Serves (.itemRead t) → s.item? t = some r → ∃ (u : State) (fields : List Field), fields =
        [.tag t,
          .num8 ((if r.home = none then 0 else 1) + (if r.found = none then 0 else 2) +
            if r.prior = none then 0 else 4),
          .num16Opt (r.home.map Fin.val), .num16Opt (r.home.map fun H => s.ordinal H t),
          .circOpt r.circ, .count r.count, .num16Opt (r.found.map fun f => f.sec.val),
          .num16Opt (r.found.map fun f => f.pos), .foundTime (r.found.map fun f => f.time),
          .countOpt r.prior, .num8 r.sight,
          .num8 ((if r.moved then 1 else 0) + if r.conflict then 2 else 0)] ∧
      Answers s (.itemRead t) u .done fields ∧ u = { s with port := u.port } ∧
      ∀ i, (fieldsBytes i fields).1.length = 26) ∧
    (∀ (S : SecId) (start : Nat) (list : Byte) (tags : List Tag), s.Serves (.secList S.val list start) →
      (list = 0 ∧ tags = (s.sec S).expected) ∨ (list = 1 ∧ tags = (s.sec S).chain) →
      ∃ (u : State) (n : Nat) (entries : List Field), n = min 32 (tags.length - start) ∧
        Answers s (.secList S.val list start) u .done
          (.num32 tags.length :: .generation (s.sec S).generation :: .num8 n :: entries) ∧
        u = { s with port := u.port } ∧
        entries = ((tags.drop start).take n).flatMap fun t =>
          if list = 0 then
            [.tag t, .countOpt ((s.item? t).map fun r => r.count),
              .flag ((s.item? t).any fun r => r.moved),
              .flag ((s.item? t).any fun r => r.conflict)]
          else
            [.tag t, .num16Opt ((s.item? t).bind fun r => r.home.map Fin.val),
              .num16Opt ((s.item? t).bind fun r => r.found.map fun f => f.pos)]) ∧
    (∀ S : SecId, s.Serves (.secRead S.val) → ∃ (u : State) (x : SectionRec), x = s.sec S ∧
      Answers s (.secRead S.val) u .done (
        [Field.secState x.state, .flag x.revision.isSome,
          .num16Opt (x.revision.map fun ms => (ms + 999) / 1000), .num16 x.expected.length,
          .num8 x.tolerance, .num8Opt (x.lamp.map Fin.val), .num16Opt x.mark,
          .tagOpt x.endMarker].append <|
        (([.unseen, .passed, .held, .inPlace, .disordered, .elsewhere, .notFound, .desk,
          .missing] : List CountState).map fun c =>
            Field.num16 (s.items.countP fun r => r.home = some S && r.count = c)).append
        [Field.num32 x.chain.length, .flag x.attention, .generation x.generation, .num8 x.walks,
          .num8Opt (x.context.map Fin.val)]) ∧
      u = { s with port := u.port }) ∧
    (∀ x : CtxId, s.Serves (.walkRead x.val) → ∃ u : State, u = { s with port := u.port } ∧
      (s.ctx x = none → Answers s (.walkRead x.val) u .done [.flag false]) ∧
      ∀ c, s.ctx x = some c → ∃ run park : List Field,
        run = (c.run.flatMap fun t => [Field.tag t, .num16 (s.ordinal c.sec t),
          .countOpt ((s.item? t).bind fun r => r.prior)]) ∧
        park = (c.park.map fun t => Field.tag t) ∧
        Answers s (.walkRead x.val) u .done
          (.flag true :: .num16 c.sec.val :: .num8Opt (c.walker.map Fin.val) :: .num16 c.cursor ::
            .num16 (s.sec c.sec).expected.length :: .num8 c.run.length ::
            (run ++ .num8 c.park.length ::
              (park ++ [.num16Opt (c.lease.map fun ms => (ms + 999) / 1000), .flag c.markHit])))) ∧
    (∀ w : Wand, s.Serves (.wandRead w.val) → ∃ (u : State) (waits place : Option Nat) (gathering confirmed waiting : Nat),
      Answers s (.wandRead w.val) u .done
        [.time s.lastFrame[w], .num16Opt ((s.walkedSec w).map Fin.val),
          .num8Opt ((s.walkOf w).map Fin.val), .num16Opt waits, .num8Opt place,
          .num8 gathering, .num8 confirmed, .num8 waiting] ∧
      u = { s with port := u.port } ∧
      waits = (s.claims.find? fun q => q.wand = w).map (fun q => q.sec.val) ∧
      place = (s.claims.find? fun q => q.wand = w).map (fun _ =>
        s.claims.findIdx (fun q => q.wand = w) + 1) ∧
      gathering = (s.table w).entries.toList.countP Entry.isGathering ∧
      confirmed = (s.table w).entries.toList.countP Entry.isConfirmed ∧
      waiting = (s.table w).entries.toList.countP Entry.isWaiting) ∧
    (∀ t, s.item? t = none → s.Serves (.itemRead t) → ∃ u, Answers s (.itemRead t) u .noItem []) ∧
    (∀ (S : Nat) (list : Byte) (start : Nat), 511 < S →
      (s.Serves (.secRead S) → ∃ u, Answers s (.secRead S) u .noSection []) ∧
      (s.Serves (.secList S list start) →
        ∃ u, Answers s (.secList S list start) u .noSection [])) ∧
    (∀ (S : SecId) (list : Byte) (start : Nat), list ≠ 0 → list ≠ 1 →
      s.Serves (.secList S.val list start) →
      ∃ u, Answers s (.secList S.val list start) u .badRequest []) ∧
    ∀ x, 15 < x →
      (s.Serves (.walkRead x) → ∃ u, Answers s (.walkRead x) u .badRequest []) ∧
      (s.Serves (.wandRead x) → ∃ u, Answers s (.wandRead x) u .badRequest []) ∧
      (s.Serves (.watchRead x) → ∃ u, Answers s (.watchRead x) u .badRequest [])

/-! ### Invariants -/

/-- The reset state has every invariant stated of the steps below. -/
def Obligations.ResetStateIsSound : Prop := Sound State.reset

/-- Every step keeps the item table in its canonical form (no two records carry the same tag, and there
are at most 131,072), and the receive queue at 8 frames or fewer. -/
def Obligations.StepKeepsTheItemTableAndReceiveQueue : Prop :=
  (∀ s t : State, ItemsCanonical s.items → step s = .next t → ItemsCanonical t.items) ∧
  ∀ s t : State, ReceiveBounded s → step s = .next t → ReceiveBounded t

/-- Every step keeps the settings in their ranges and the candidate tables sound: no tag twice in one
table, every score within 1..1023. -/
def Obligations.StepKeepsTheCandidateTablesSound : Prop :=
  ∀ s t : State, TablesSound s → step s = .next t → TablesSound t

/-- Every step keeps the walks, the sections and the claim queue in agreement. From a state with every
invariant it also keeps each cursor within 0..n, each item HELD exactly while it stands in its home's run,
a run in ascending order and at most 7 long, and each park queue at 32 entries or fewer, empty while the
revision is closed. -/
def Obligations.StepKeepsTheWalksSound : Prop :=
  (∀ s t : State, WalksSound s → step s = .next t → WalksSound t) ∧
  ∀ s t : State, Sound s → step s = .next t → CursorsSound t ∧ RunsSound t ∧ ParksSound t

/-- Every step keeps home items and expected sequences in agreement. From a state with every invariant it
also keeps in each record the fields of its count state, and on each foreign chain exactly the records
ELSEWHERE or UNLISTED with found-in that section, once each. -/
def Obligations.StepKeepsTheListsSound : Prop :=
  (∀ s t : State, ListsSound s → step s = .next t → ListsSound t) ∧
  ∀ s t : State, Sound s → step s = .next t → RecordsSound t ∧ ChainsSound t

/-- For every section, its nine counts sum to its length. -/
def Obligations.CountsSumToTheLength : Prop :=
  ∀ (s : State) (S : SecId), ListsSound s →
    (([.unseen, .passed, .held, .inPlace, .disordered, .elsewhere, .notFound, .desk,
      .missing].map fun c => s.tally S c).sum = (s.sec S).expected.length)
end

