-- ==== Sys2Proof/Laws/State.lean ====
section
/-!
SUPPORT. What each update of the state leaves as it is: for every named update one lemma for each field
and each read that it does not touch, true by definition.
-/

namespace Sys2Proof.Machine

/-- A state with another send queue, as the taking of a frame leaves it. -/
def State.sending (s : State) (q : List PartFrame) : State := { s with sendQueue := q }

variable (s : State)

/-! ### setSec -/

@[simp] theorem State.setSec_items (S : SecId) (x : SectionRec) :
    (s.setSec S x).items = s.items := rfl
@[simp] theorem State.setSec_tables (S : SecId) (x : SectionRec) :
    (s.setSec S x).tables = s.tables := rfl
@[simp] theorem State.setSec_decayLeft (S : SecId) (x : SectionRec) :
    (s.setSec S x).decayLeft = s.decayLeft := rfl
@[simp] theorem State.setSec_claims (S : SecId) (x : SectionRec) :
    (s.setSec S x).claims = s.claims := rfl
@[simp] theorem State.setSec_contexts (S : SecId) (x : SectionRec) :
    (s.setSec S x).contexts = s.contexts := rfl
@[simp] theorem State.setSec_watch (S : SecId) (x : SectionRec) :
    (s.setSec S x).watch = s.watch := rfl
@[simp] theorem State.setSec_campaign (S : SecId) (x : SectionRec) :
    (s.setSec S x).campaign = s.campaign := rfl
@[simp] theorem State.setSec_clock (S : SecId) (x : SectionRec) :
    (s.setSec S x).clock = s.clock := rfl
@[simp] theorem State.setSec_clockPart (S : SecId) (x : SectionRec) :
    (s.setSec S x).clockPart = s.clockPart := rfl
@[simp] theorem State.setSec_forces (S : SecId) (x : SectionRec) :
    (s.setSec S x).forces = s.forces := rfl
@[simp] theorem State.setSec_lampPhase (S : SecId) (x : SectionRec) :
    (s.setSec S x).lampPhase = s.lampPhase := rfl
@[simp] theorem State.setSec_receiver (S : SecId) (x : SectionRec) :
    (s.setSec S x).receiver = s.receiver := rfl
@[simp] theorem State.setSec_gathered (S : SecId) (x : SectionRec) :
    (s.setSec S x).gathered = s.gathered := rfl
@[simp] theorem State.setSec_rxQueue (S : SecId) (x : SectionRec) :
    (s.setSec S x).rxQueue = s.rxQueue := rfl
@[simp] theorem State.setSec_sendQueue (S : SecId) (x : SectionRec) :
    (s.setSec S x).sendQueue = s.sendQueue := rfl
@[simp] theorem State.setSec_lastFrame (S : SecId) (x : SectionRec) :
    (s.setSec S x).lastFrame = s.lastFrame := rfl
@[simp] theorem State.setSec_ltxSent (S : SecId) (x : SectionRec) :
    (s.setSec S x).ltxSent = s.ltxSent := rfl
@[simp] theorem State.setSec_port (S : SecId) (x : SectionRec) :
    (s.setSec S x).port = s.port := rfl
@[simp] theorem State.setSec_sdoTrace (S : SecId) (x : SectionRec) :
    (s.setSec S x).sdoTrace = s.sdoTrace := rfl
@[simp] theorem State.setSec_events (S : SecId) (x : SectionRec) :
    (s.setSec S x).events = s.events := rfl
@[simp] theorem State.setSec_settings (S : SecId) (x : SectionRec) :
    (s.setSec S x).settings = s.settings := rfl
@[simp] theorem State.setSec_resetAsserted (S : SecId) (x : SectionRec) :
    (s.setSec S x).resetAsserted = s.resetAsserted := rfl
@[simp] theorem State.setSec_freeIndex (S : SecId) (x : SectionRec) :
    (s.setSec S x).freeIndex = s.freeIndex := rfl
@[simp] theorem State.setSec_pending (S : SecId) (x : SectionRec) :
    (s.setSec S x).pending = s.pending := rfl
@[simp] theorem State.setSec_item_eq (S : SecId) (x : SectionRec) (a : Tag) :
    (s.setSec S x).item? a = s.item? a := rfl
@[simp] theorem State.setSec_tally_eq (S : SecId) (x : SectionRec) (X : SecId) (k' : CountState) :
    (s.setSec S x).tally X k' = s.tally X k' := rfl
@[simp] theorem State.setSec_unlisted_eq (S : SecId) (x : SectionRec) :
    (s.setSec S x).unlisted  = s.unlisted := rfl
@[simp] theorem State.setSec_ctx_eq (S : SecId) (x : SectionRec) (y : CtxId) :
    (s.setSec S x).ctx y = s.ctx y := rfl
@[simp] theorem State.setSec_freeCtx_eq (S : SecId) (x : SectionRec) :
    (s.setSec S x).freeCtx  = s.freeCtx := rfl
@[simp] theorem State.setSec_walkOf_eq (S : SecId) (x : SectionRec) (v : Wand) :
    (s.setSec S x).walkOf v = s.walkOf v := rfl
@[simp] theorem State.setSec_walkedSec_eq (S : SecId) (x : SectionRec) (v : Wand) :
    (s.setSec S x).walkedSec v = s.walkedSec v := rfl
@[simp] theorem State.setSec_table_eq (S : SecId) (x : SectionRec) (v : Wand) :
    (s.setSec S x).table v = s.table v := rfl
@[simp] theorem State.setSec_waitsFor_eq (S : SecId) (x : SectionRec) (v : Wand) :
    (s.setSec S x).waitsFor v = s.waitsFor v := rfl
@[simp] theorem State.setSec_place_eq (S : SecId) (x : SectionRec) (v : Wand) :
    (s.setSec S x).place v = s.place v := rfl

/-! ### modSec -/

@[simp] theorem State.modSec_items (S : SecId) (f : SectionRec → SectionRec) :
    (s.modSec S f).items = s.items := rfl
@[simp] theorem State.modSec_tables (S : SecId) (f : SectionRec → SectionRec) :
    (s.modSec S f).tables = s.tables := rfl
@[simp] theorem State.modSec_decayLeft (S : SecId) (f : SectionRec → SectionRec) :
    (s.modSec S f).decayLeft = s.decayLeft := rfl
@[simp] theorem State.modSec_claims (S : SecId) (f : SectionRec → SectionRec) :
    (s.modSec S f).claims = s.claims := rfl
@[simp] theorem State.modSec_contexts (S : SecId) (f : SectionRec → SectionRec) :
    (s.modSec S f).contexts = s.contexts := rfl
@[simp] theorem State.modSec_watch (S : SecId) (f : SectionRec → SectionRec) :
    (s.modSec S f).watch = s.watch := rfl
@[simp] theorem State.modSec_campaign (S : SecId) (f : SectionRec → SectionRec) :
    (s.modSec S f).campaign = s.campaign := rfl
@[simp] theorem State.modSec_clock (S : SecId) (f : SectionRec → SectionRec) :
    (s.modSec S f).clock = s.clock := rfl
@[simp] theorem State.modSec_clockPart (S : SecId) (f : SectionRec → SectionRec) :
    (s.modSec S f).clockPart = s.clockPart := rfl
@[simp] theorem State.modSec_forces (S : SecId) (f : SectionRec → SectionRec) :
    (s.modSec S f).forces = s.forces := rfl
@[simp] theorem State.modSec_lampPhase (S : SecId) (f : SectionRec → SectionRec) :
    (s.modSec S f).lampPhase = s.lampPhase := rfl
@[simp] theorem State.modSec_receiver (S : SecId) (f : SectionRec → SectionRec) :
    (s.modSec S f).receiver = s.receiver := rfl
@[simp] theorem State.modSec_gathered (S : SecId) (f : SectionRec → SectionRec) :
    (s.modSec S f).gathered = s.gathered := rfl
@[simp] theorem State.modSec_rxQueue (S : SecId) (f : SectionRec → SectionRec) :
    (s.modSec S f).rxQueue = s.rxQueue := rfl
@[simp] theorem State.modSec_sendQueue (S : SecId) (f : SectionRec → SectionRec) :
    (s.modSec S f).sendQueue = s.sendQueue := rfl
@[simp] theorem State.modSec_lastFrame (S : SecId) (f : SectionRec → SectionRec) :
    (s.modSec S f).lastFrame = s.lastFrame := rfl
@[simp] theorem State.modSec_ltxSent (S : SecId) (f : SectionRec → SectionRec) :
    (s.modSec S f).ltxSent = s.ltxSent := rfl
@[simp] theorem State.modSec_port (S : SecId) (f : SectionRec → SectionRec) :
    (s.modSec S f).port = s.port := rfl
@[simp] theorem State.modSec_sdoTrace (S : SecId) (f : SectionRec → SectionRec) :
    (s.modSec S f).sdoTrace = s.sdoTrace := rfl
@[simp] theorem State.modSec_events (S : SecId) (f : SectionRec → SectionRec) :
    (s.modSec S f).events = s.events := rfl
@[simp] theorem State.modSec_settings (S : SecId) (f : SectionRec → SectionRec) :
    (s.modSec S f).settings = s.settings := rfl
@[simp] theorem State.modSec_resetAsserted (S : SecId) (f : SectionRec → SectionRec) :
    (s.modSec S f).resetAsserted = s.resetAsserted := rfl
@[simp] theorem State.modSec_freeIndex (S : SecId) (f : SectionRec → SectionRec) :
    (s.modSec S f).freeIndex = s.freeIndex := rfl
@[simp] theorem State.modSec_pending (S : SecId) (f : SectionRec → SectionRec) :
    (s.modSec S f).pending = s.pending := rfl
@[simp] theorem State.modSec_item_eq (S : SecId) (f : SectionRec → SectionRec) (a : Tag) :
    (s.modSec S f).item? a = s.item? a := rfl
@[simp] theorem State.modSec_tally_eq (S : SecId) (f : SectionRec → SectionRec) (X : SecId) (k' : CountState) :
    (s.modSec S f).tally X k' = s.tally X k' := rfl
@[simp] theorem State.modSec_unlisted_eq (S : SecId) (f : SectionRec → SectionRec) :
    (s.modSec S f).unlisted  = s.unlisted := rfl
@[simp] theorem State.modSec_ctx_eq (S : SecId) (f : SectionRec → SectionRec) (y : CtxId) :
    (s.modSec S f).ctx y = s.ctx y := rfl
@[simp] theorem State.modSec_freeCtx_eq (S : SecId) (f : SectionRec → SectionRec) :
    (s.modSec S f).freeCtx  = s.freeCtx := rfl
@[simp] theorem State.modSec_walkOf_eq (S : SecId) (f : SectionRec → SectionRec) (v : Wand) :
    (s.modSec S f).walkOf v = s.walkOf v := rfl
@[simp] theorem State.modSec_walkedSec_eq (S : SecId) (f : SectionRec → SectionRec) (v : Wand) :
    (s.modSec S f).walkedSec v = s.walkedSec v := rfl
@[simp] theorem State.modSec_table_eq (S : SecId) (f : SectionRec → SectionRec) (v : Wand) :
    (s.modSec S f).table v = s.table v := rfl
@[simp] theorem State.modSec_waitsFor_eq (S : SecId) (f : SectionRec → SectionRec) (v : Wand) :
    (s.modSec S f).waitsFor v = s.waitsFor v := rfl
@[simp] theorem State.modSec_place_eq (S : SecId) (f : SectionRec → SectionRec) (v : Wand) :
    (s.modSec S f).place v = s.place v := rfl

/-! ### mapSecs -/

@[simp] theorem State.mapSecs_items (f : SecId → SectionRec → SectionRec) :
    (s.mapSecs f).items = s.items := by rw [State.mapSecs]
@[simp] theorem State.mapSecs_tables (f : SecId → SectionRec → SectionRec) :
    (s.mapSecs f).tables = s.tables := by rw [State.mapSecs]
@[simp] theorem State.mapSecs_decayLeft (f : SecId → SectionRec → SectionRec) :
    (s.mapSecs f).decayLeft = s.decayLeft := by rw [State.mapSecs]
@[simp] theorem State.mapSecs_claims (f : SecId → SectionRec → SectionRec) :
    (s.mapSecs f).claims = s.claims := by rw [State.mapSecs]
@[simp] theorem State.mapSecs_contexts (f : SecId → SectionRec → SectionRec) :
    (s.mapSecs f).contexts = s.contexts := by rw [State.mapSecs]
@[simp] theorem State.mapSecs_watch (f : SecId → SectionRec → SectionRec) :
    (s.mapSecs f).watch = s.watch := by rw [State.mapSecs]
@[simp] theorem State.mapSecs_campaign (f : SecId → SectionRec → SectionRec) :
    (s.mapSecs f).campaign = s.campaign := by rw [State.mapSecs]
@[simp] theorem State.mapSecs_clock (f : SecId → SectionRec → SectionRec) :
    (s.mapSecs f).clock = s.clock := by rw [State.mapSecs]
@[simp] theorem State.mapSecs_clockPart (f : SecId → SectionRec → SectionRec) :
    (s.mapSecs f).clockPart = s.clockPart := by rw [State.mapSecs]
@[simp] theorem State.mapSecs_forces (f : SecId → SectionRec → SectionRec) :
    (s.mapSecs f).forces = s.forces := by rw [State.mapSecs]
@[simp] theorem State.mapSecs_lampPhase (f : SecId → SectionRec → SectionRec) :
    (s.mapSecs f).lampPhase = s.lampPhase := by rw [State.mapSecs]
@[simp] theorem State.mapSecs_receiver (f : SecId → SectionRec → SectionRec) :
    (s.mapSecs f).receiver = s.receiver := by rw [State.mapSecs]
@[simp] theorem State.mapSecs_gathered (f : SecId → SectionRec → SectionRec) :
    (s.mapSecs f).gathered = s.gathered := by rw [State.mapSecs]
@[simp] theorem State.mapSecs_rxQueue (f : SecId → SectionRec → SectionRec) :
    (s.mapSecs f).rxQueue = s.rxQueue := by rw [State.mapSecs]
@[simp] theorem State.mapSecs_sendQueue (f : SecId → SectionRec → SectionRec) :
    (s.mapSecs f).sendQueue = s.sendQueue := by rw [State.mapSecs]
@[simp] theorem State.mapSecs_lastFrame (f : SecId → SectionRec → SectionRec) :
    (s.mapSecs f).lastFrame = s.lastFrame := by rw [State.mapSecs]
@[simp] theorem State.mapSecs_ltxSent (f : SecId → SectionRec → SectionRec) :
    (s.mapSecs f).ltxSent = s.ltxSent := by rw [State.mapSecs]
@[simp] theorem State.mapSecs_port (f : SecId → SectionRec → SectionRec) :
    (s.mapSecs f).port = s.port := by rw [State.mapSecs]
@[simp] theorem State.mapSecs_sdoTrace (f : SecId → SectionRec → SectionRec) :
    (s.mapSecs f).sdoTrace = s.sdoTrace := by rw [State.mapSecs]
@[simp] theorem State.mapSecs_events (f : SecId → SectionRec → SectionRec) :
    (s.mapSecs f).events = s.events := by rw [State.mapSecs]
@[simp] theorem State.mapSecs_settings (f : SecId → SectionRec → SectionRec) :
    (s.mapSecs f).settings = s.settings := by rw [State.mapSecs]
@[simp] theorem State.mapSecs_resetAsserted (f : SecId → SectionRec → SectionRec) :
    (s.mapSecs f).resetAsserted = s.resetAsserted := by rw [State.mapSecs]
@[simp] theorem State.mapSecs_freeIndex (f : SecId → SectionRec → SectionRec) :
    (s.mapSecs f).freeIndex = s.freeIndex := by rw [State.mapSecs]
@[simp] theorem State.mapSecs_pending (f : SecId → SectionRec → SectionRec) :
    (s.mapSecs f).pending = s.pending := by rw [State.mapSecs]
@[simp] theorem State.mapSecs_item_eq (f : SecId → SectionRec → SectionRec) (a : Tag) :
    (s.mapSecs f).item? a = s.item? a := by
  simp only [State.item?, State.mapSecs_items]
@[simp] theorem State.mapSecs_tally_eq (f : SecId → SectionRec → SectionRec) (X : SecId) (k' : CountState) :
    (s.mapSecs f).tally X k' = s.tally X k' := by
  simp only [State.tally, State.mapSecs_items]
@[simp] theorem State.mapSecs_unlisted_eq (f : SecId → SectionRec → SectionRec) :
    (s.mapSecs f).unlisted  = s.unlisted := by
  simp only [State.unlisted, State.mapSecs_items]
@[simp] theorem State.mapSecs_ctx_eq (f : SecId → SectionRec → SectionRec) (y : CtxId) :
    (s.mapSecs f).ctx y = s.ctx y := by
  simp only [State.ctx, State.mapSecs_contexts]
@[simp] theorem State.mapSecs_freeCtx_eq (f : SecId → SectionRec → SectionRec) :
    (s.mapSecs f).freeCtx  = s.freeCtx := by
  simp only [State.freeCtx, State.ctx, State.mapSecs_contexts]
@[simp] theorem State.mapSecs_walkOf_eq (f : SecId → SectionRec → SectionRec) (v : Wand) :
    (s.mapSecs f).walkOf v = s.walkOf v := by
  simp only [State.walkOf, State.ctx, State.mapSecs_contexts]
@[simp] theorem State.mapSecs_walkedSec_eq (f : SecId → SectionRec → SectionRec) (v : Wand) :
    (s.mapSecs f).walkedSec v = s.walkedSec v := by
  have h : (s.mapSecs f).ctx = s.ctx := funext fun y => State.mapSecs_ctx_eq s f y
  rw [State.walkedSec, State.mapSecs_walkOf_eq, h, State.walkedSec]
@[simp] theorem State.mapSecs_table_eq (f : SecId → SectionRec → SectionRec) (v : Wand) :
    (s.mapSecs f).table v = s.table v := by
  simp only [State.table, State.mapSecs_tables]
@[simp] theorem State.mapSecs_waitsFor_eq (f : SecId → SectionRec → SectionRec) (v : Wand) :
    (s.mapSecs f).waitsFor v = s.waitsFor v := by
  simp only [State.waitsFor, State.mapSecs_claims]
@[simp] theorem State.mapSecs_place_eq (f : SecId → SectionRec → SectionRec) (v : Wand) :
    (s.mapSecs f).place v = s.place v := by
  simp only [State.place, State.mapSecs_claims]

/-! ### bump -/

@[simp] theorem State.bump_items (S : SecId) :
    (s.bump S).items = s.items := rfl
@[simp] theorem State.bump_tables (S : SecId) :
    (s.bump S).tables = s.tables := rfl
@[simp] theorem State.bump_decayLeft (S : SecId) :
    (s.bump S).decayLeft = s.decayLeft := rfl
@[simp] theorem State.bump_claims (S : SecId) :
    (s.bump S).claims = s.claims := rfl
@[simp] theorem State.bump_contexts (S : SecId) :
    (s.bump S).contexts = s.contexts := rfl
@[simp] theorem State.bump_watch (S : SecId) :
    (s.bump S).watch = s.watch := rfl
@[simp] theorem State.bump_campaign (S : SecId) :
    (s.bump S).campaign = s.campaign := rfl
@[simp] theorem State.bump_clock (S : SecId) :
    (s.bump S).clock = s.clock := rfl
@[simp] theorem State.bump_clockPart (S : SecId) :
    (s.bump S).clockPart = s.clockPart := rfl
@[simp] theorem State.bump_forces (S : SecId) :
    (s.bump S).forces = s.forces := rfl
@[simp] theorem State.bump_lampPhase (S : SecId) :
    (s.bump S).lampPhase = s.lampPhase := rfl
@[simp] theorem State.bump_receiver (S : SecId) :
    (s.bump S).receiver = s.receiver := rfl
@[simp] theorem State.bump_gathered (S : SecId) :
    (s.bump S).gathered = s.gathered := rfl
@[simp] theorem State.bump_rxQueue (S : SecId) :
    (s.bump S).rxQueue = s.rxQueue := rfl
@[simp] theorem State.bump_sendQueue (S : SecId) :
    (s.bump S).sendQueue = s.sendQueue := rfl
@[simp] theorem State.bump_lastFrame (S : SecId) :
    (s.bump S).lastFrame = s.lastFrame := rfl
@[simp] theorem State.bump_ltxSent (S : SecId) :
    (s.bump S).ltxSent = s.ltxSent := rfl
@[simp] theorem State.bump_port (S : SecId) :
    (s.bump S).port = s.port := rfl
@[simp] theorem State.bump_sdoTrace (S : SecId) :
    (s.bump S).sdoTrace = s.sdoTrace := rfl
@[simp] theorem State.bump_events (S : SecId) :
    (s.bump S).events = s.events := rfl
@[simp] theorem State.bump_settings (S : SecId) :
    (s.bump S).settings = s.settings := rfl
@[simp] theorem State.bump_resetAsserted (S : SecId) :
    (s.bump S).resetAsserted = s.resetAsserted := rfl
@[simp] theorem State.bump_freeIndex (S : SecId) :
    (s.bump S).freeIndex = s.freeIndex := rfl
@[simp] theorem State.bump_pending (S : SecId) :
    (s.bump S).pending = s.pending := rfl
@[simp] theorem State.bump_item_eq (S : SecId) (a : Tag) :
    (s.bump S).item? a = s.item? a := rfl
@[simp] theorem State.bump_tally_eq (S : SecId) (X : SecId) (k' : CountState) :
    (s.bump S).tally X k' = s.tally X k' := rfl
@[simp] theorem State.bump_unlisted_eq (S : SecId) :
    (s.bump S).unlisted  = s.unlisted := rfl
@[simp] theorem State.bump_ctx_eq (S : SecId) (y : CtxId) :
    (s.bump S).ctx y = s.ctx y := rfl
@[simp] theorem State.bump_freeCtx_eq (S : SecId) :
    (s.bump S).freeCtx  = s.freeCtx := rfl
@[simp] theorem State.bump_walkOf_eq (S : SecId) (v : Wand) :
    (s.bump S).walkOf v = s.walkOf v := rfl
@[simp] theorem State.bump_walkedSec_eq (S : SecId) (v : Wand) :
    (s.bump S).walkedSec v = s.walkedSec v := rfl
@[simp] theorem State.bump_table_eq (S : SecId) (v : Wand) :
    (s.bump S).table v = s.table v := rfl
@[simp] theorem State.bump_waitsFor_eq (S : SecId) (v : Wand) :
    (s.bump S).waitsFor v = s.waitsFor v := rfl
@[simp] theorem State.bump_place_eq (S : SecId) (v : Wand) :
    (s.bump S).place v = s.place v := rfl

/-! ### bumpWhere -/

@[simp] theorem State.bumpWhere_items (p : SecId → Bool) :
    (s.bumpWhere p).items = s.items := State.mapSecs_items s _
@[simp] theorem State.bumpWhere_tables (p : SecId → Bool) :
    (s.bumpWhere p).tables = s.tables := State.mapSecs_tables s _
@[simp] theorem State.bumpWhere_decayLeft (p : SecId → Bool) :
    (s.bumpWhere p).decayLeft = s.decayLeft := State.mapSecs_decayLeft s _
@[simp] theorem State.bumpWhere_claims (p : SecId → Bool) :
    (s.bumpWhere p).claims = s.claims := State.mapSecs_claims s _
@[simp] theorem State.bumpWhere_contexts (p : SecId → Bool) :
    (s.bumpWhere p).contexts = s.contexts := State.mapSecs_contexts s _
@[simp] theorem State.bumpWhere_watch (p : SecId → Bool) :
    (s.bumpWhere p).watch = s.watch := State.mapSecs_watch s _
@[simp] theorem State.bumpWhere_campaign (p : SecId → Bool) :
    (s.bumpWhere p).campaign = s.campaign := State.mapSecs_campaign s _
@[simp] theorem State.bumpWhere_clock (p : SecId → Bool) :
    (s.bumpWhere p).clock = s.clock := State.mapSecs_clock s _
@[simp] theorem State.bumpWhere_clockPart (p : SecId → Bool) :
    (s.bumpWhere p).clockPart = s.clockPart := State.mapSecs_clockPart s _
@[simp] theorem State.bumpWhere_forces (p : SecId → Bool) :
    (s.bumpWhere p).forces = s.forces := State.mapSecs_forces s _
@[simp] theorem State.bumpWhere_lampPhase (p : SecId → Bool) :
    (s.bumpWhere p).lampPhase = s.lampPhase := State.mapSecs_lampPhase s _
@[simp] theorem State.bumpWhere_receiver (p : SecId → Bool) :
    (s.bumpWhere p).receiver = s.receiver := State.mapSecs_receiver s _
@[simp] theorem State.bumpWhere_gathered (p : SecId → Bool) :
    (s.bumpWhere p).gathered = s.gathered := State.mapSecs_gathered s _
@[simp] theorem State.bumpWhere_rxQueue (p : SecId → Bool) :
    (s.bumpWhere p).rxQueue = s.rxQueue := State.mapSecs_rxQueue s _
@[simp] theorem State.bumpWhere_sendQueue (p : SecId → Bool) :
    (s.bumpWhere p).sendQueue = s.sendQueue := State.mapSecs_sendQueue s _
@[simp] theorem State.bumpWhere_lastFrame (p : SecId → Bool) :
    (s.bumpWhere p).lastFrame = s.lastFrame := State.mapSecs_lastFrame s _
@[simp] theorem State.bumpWhere_ltxSent (p : SecId → Bool) :
    (s.bumpWhere p).ltxSent = s.ltxSent := State.mapSecs_ltxSent s _
@[simp] theorem State.bumpWhere_port (p : SecId → Bool) :
    (s.bumpWhere p).port = s.port := State.mapSecs_port s _
@[simp] theorem State.bumpWhere_sdoTrace (p : SecId → Bool) :
    (s.bumpWhere p).sdoTrace = s.sdoTrace := State.mapSecs_sdoTrace s _
@[simp] theorem State.bumpWhere_events (p : SecId → Bool) :
    (s.bumpWhere p).events = s.events := State.mapSecs_events s _
@[simp] theorem State.bumpWhere_settings (p : SecId → Bool) :
    (s.bumpWhere p).settings = s.settings := State.mapSecs_settings s _
@[simp] theorem State.bumpWhere_resetAsserted (p : SecId → Bool) :
    (s.bumpWhere p).resetAsserted = s.resetAsserted := State.mapSecs_resetAsserted s _
@[simp] theorem State.bumpWhere_freeIndex (p : SecId → Bool) :
    (s.bumpWhere p).freeIndex = s.freeIndex := State.mapSecs_freeIndex s _
@[simp] theorem State.bumpWhere_pending (p : SecId → Bool) :
    (s.bumpWhere p).pending = s.pending := State.mapSecs_pending s _
@[simp] theorem State.bumpWhere_item_eq (p : SecId → Bool) (a : Tag) :
    (s.bumpWhere p).item? a = s.item? a := State.mapSecs_item_eq s _ a
@[simp] theorem State.bumpWhere_tally_eq (p : SecId → Bool) (X : SecId) (k' : CountState) :
    (s.bumpWhere p).tally X k' = s.tally X k' := State.mapSecs_tally_eq s _ X k'
@[simp] theorem State.bumpWhere_unlisted_eq (p : SecId → Bool) :
    (s.bumpWhere p).unlisted  = s.unlisted := State.mapSecs_unlisted_eq s _
@[simp] theorem State.bumpWhere_ctx_eq (p : SecId → Bool) (y : CtxId) :
    (s.bumpWhere p).ctx y = s.ctx y := State.mapSecs_ctx_eq s _ y
@[simp] theorem State.bumpWhere_freeCtx_eq (p : SecId → Bool) :
    (s.bumpWhere p).freeCtx  = s.freeCtx := State.mapSecs_freeCtx_eq s _
@[simp] theorem State.bumpWhere_walkOf_eq (p : SecId → Bool) (v : Wand) :
    (s.bumpWhere p).walkOf v = s.walkOf v := State.mapSecs_walkOf_eq s _ v
@[simp] theorem State.bumpWhere_walkedSec_eq (p : SecId → Bool) (v : Wand) :
    (s.bumpWhere p).walkedSec v = s.walkedSec v := State.mapSecs_walkedSec_eq s _ v
@[simp] theorem State.bumpWhere_table_eq (p : SecId → Bool) (v : Wand) :
    (s.bumpWhere p).table v = s.table v := State.mapSecs_table_eq s _ v
@[simp] theorem State.bumpWhere_waitsFor_eq (p : SecId → Bool) (v : Wand) :
    (s.bumpWhere p).waitsFor v = s.waitsFor v := State.mapSecs_waitsFor_eq s _ v
@[simp] theorem State.bumpWhere_place_eq (p : SecId → Bool) (v : Wand) :
    (s.bumpWhere p).place v = s.place v := State.mapSecs_place_eq s _ v

/-! ### enter -/

@[simp] theorem State.enter_items (S : SecId) (st : SecState) :
    (s.enter S st).items = s.items := rfl
@[simp] theorem State.enter_tables (S : SecId) (st : SecState) :
    (s.enter S st).tables = s.tables := rfl
@[simp] theorem State.enter_decayLeft (S : SecId) (st : SecState) :
    (s.enter S st).decayLeft = s.decayLeft := rfl
@[simp] theorem State.enter_claims (S : SecId) (st : SecState) :
    (s.enter S st).claims = s.claims := rfl
@[simp] theorem State.enter_contexts (S : SecId) (st : SecState) :
    (s.enter S st).contexts = s.contexts := rfl
@[simp] theorem State.enter_watch (S : SecId) (st : SecState) :
    (s.enter S st).watch = s.watch := rfl
@[simp] theorem State.enter_campaign (S : SecId) (st : SecState) :
    (s.enter S st).campaign = s.campaign := rfl
@[simp] theorem State.enter_clock (S : SecId) (st : SecState) :
    (s.enter S st).clock = s.clock := rfl
@[simp] theorem State.enter_clockPart (S : SecId) (st : SecState) :
    (s.enter S st).clockPart = s.clockPart := rfl
@[simp] theorem State.enter_forces (S : SecId) (st : SecState) :
    (s.enter S st).forces = s.forces := rfl
@[simp] theorem State.enter_lampPhase (S : SecId) (st : SecState) :
    (s.enter S st).lampPhase = s.lampPhase := rfl
@[simp] theorem State.enter_receiver (S : SecId) (st : SecState) :
    (s.enter S st).receiver = s.receiver := rfl
@[simp] theorem State.enter_gathered (S : SecId) (st : SecState) :
    (s.enter S st).gathered = s.gathered := rfl
@[simp] theorem State.enter_rxQueue (S : SecId) (st : SecState) :
    (s.enter S st).rxQueue = s.rxQueue := rfl
@[simp] theorem State.enter_sendQueue (S : SecId) (st : SecState) :
    (s.enter S st).sendQueue = s.sendQueue := rfl
@[simp] theorem State.enter_lastFrame (S : SecId) (st : SecState) :
    (s.enter S st).lastFrame = s.lastFrame := rfl
@[simp] theorem State.enter_ltxSent (S : SecId) (st : SecState) :
    (s.enter S st).ltxSent = s.ltxSent := rfl
@[simp] theorem State.enter_port (S : SecId) (st : SecState) :
    (s.enter S st).port = s.port := rfl
@[simp] theorem State.enter_sdoTrace (S : SecId) (st : SecState) :
    (s.enter S st).sdoTrace = s.sdoTrace := rfl
@[simp] theorem State.enter_events (S : SecId) (st : SecState) :
    (s.enter S st).events = s.events := rfl
@[simp] theorem State.enter_settings (S : SecId) (st : SecState) :
    (s.enter S st).settings = s.settings := rfl
@[simp] theorem State.enter_resetAsserted (S : SecId) (st : SecState) :
    (s.enter S st).resetAsserted = s.resetAsserted := rfl
@[simp] theorem State.enter_freeIndex (S : SecId) (st : SecState) :
    (s.enter S st).freeIndex = s.freeIndex := rfl
@[simp] theorem State.enter_pending (S : SecId) (st : SecState) :
    (s.enter S st).pending = s.pending := rfl
@[simp] theorem State.enter_item_eq (S : SecId) (st : SecState) (a : Tag) :
    (s.enter S st).item? a = s.item? a := rfl
@[simp] theorem State.enter_tally_eq (S : SecId) (st : SecState) (X : SecId) (k' : CountState) :
    (s.enter S st).tally X k' = s.tally X k' := rfl
@[simp] theorem State.enter_unlisted_eq (S : SecId) (st : SecState) :
    (s.enter S st).unlisted  = s.unlisted := rfl
@[simp] theorem State.enter_ctx_eq (S : SecId) (st : SecState) (y : CtxId) :
    (s.enter S st).ctx y = s.ctx y := rfl
@[simp] theorem State.enter_freeCtx_eq (S : SecId) (st : SecState) :
    (s.enter S st).freeCtx  = s.freeCtx := rfl
@[simp] theorem State.enter_walkOf_eq (S : SecId) (st : SecState) (v : Wand) :
    (s.enter S st).walkOf v = s.walkOf v := rfl
@[simp] theorem State.enter_walkedSec_eq (S : SecId) (st : SecState) (v : Wand) :
    (s.enter S st).walkedSec v = s.walkedSec v := rfl
@[simp] theorem State.enter_table_eq (S : SecId) (st : SecState) (v : Wand) :
    (s.enter S st).table v = s.table v := rfl
@[simp] theorem State.enter_waitsFor_eq (S : SecId) (st : SecState) (v : Wand) :
    (s.enter S st).waitsFor v = s.waitsFor v := rfl
@[simp] theorem State.enter_place_eq (S : SecId) (st : SecState) (v : Wand) :
    (s.enter S st).place v = s.place v := rfl

/-! ### joinChain -/

@[simp] theorem State.joinChain_items (S : SecId) (t : Tag) :
    (s.joinChain S t).items = s.items := rfl
@[simp] theorem State.joinChain_tables (S : SecId) (t : Tag) :
    (s.joinChain S t).tables = s.tables := rfl
@[simp] theorem State.joinChain_decayLeft (S : SecId) (t : Tag) :
    (s.joinChain S t).decayLeft = s.decayLeft := rfl
@[simp] theorem State.joinChain_claims (S : SecId) (t : Tag) :
    (s.joinChain S t).claims = s.claims := rfl
@[simp] theorem State.joinChain_contexts (S : SecId) (t : Tag) :
    (s.joinChain S t).contexts = s.contexts := rfl
@[simp] theorem State.joinChain_watch (S : SecId) (t : Tag) :
    (s.joinChain S t).watch = s.watch := rfl
@[simp] theorem State.joinChain_campaign (S : SecId) (t : Tag) :
    (s.joinChain S t).campaign = s.campaign := rfl
@[simp] theorem State.joinChain_clock (S : SecId) (t : Tag) :
    (s.joinChain S t).clock = s.clock := rfl
@[simp] theorem State.joinChain_clockPart (S : SecId) (t : Tag) :
    (s.joinChain S t).clockPart = s.clockPart := rfl
@[simp] theorem State.joinChain_forces (S : SecId) (t : Tag) :
    (s.joinChain S t).forces = s.forces := rfl
@[simp] theorem State.joinChain_lampPhase (S : SecId) (t : Tag) :
    (s.joinChain S t).lampPhase = s.lampPhase := rfl
@[simp] theorem State.joinChain_receiver (S : SecId) (t : Tag) :
    (s.joinChain S t).receiver = s.receiver := rfl
@[simp] theorem State.joinChain_gathered (S : SecId) (t : Tag) :
    (s.joinChain S t).gathered = s.gathered := rfl
@[simp] theorem State.joinChain_rxQueue (S : SecId) (t : Tag) :
    (s.joinChain S t).rxQueue = s.rxQueue := rfl
@[simp] theorem State.joinChain_sendQueue (S : SecId) (t : Tag) :
    (s.joinChain S t).sendQueue = s.sendQueue := rfl
@[simp] theorem State.joinChain_lastFrame (S : SecId) (t : Tag) :
    (s.joinChain S t).lastFrame = s.lastFrame := rfl
@[simp] theorem State.joinChain_ltxSent (S : SecId) (t : Tag) :
    (s.joinChain S t).ltxSent = s.ltxSent := rfl
@[simp] theorem State.joinChain_port (S : SecId) (t : Tag) :
    (s.joinChain S t).port = s.port := rfl
@[simp] theorem State.joinChain_sdoTrace (S : SecId) (t : Tag) :
    (s.joinChain S t).sdoTrace = s.sdoTrace := rfl
@[simp] theorem State.joinChain_events (S : SecId) (t : Tag) :
    (s.joinChain S t).events = s.events := rfl
@[simp] theorem State.joinChain_settings (S : SecId) (t : Tag) :
    (s.joinChain S t).settings = s.settings := rfl
@[simp] theorem State.joinChain_resetAsserted (S : SecId) (t : Tag) :
    (s.joinChain S t).resetAsserted = s.resetAsserted := rfl
@[simp] theorem State.joinChain_freeIndex (S : SecId) (t : Tag) :
    (s.joinChain S t).freeIndex = s.freeIndex := rfl
@[simp] theorem State.joinChain_pending (S : SecId) (t : Tag) :
    (s.joinChain S t).pending = s.pending := rfl
@[simp] theorem State.joinChain_item_eq (S : SecId) (t : Tag) (a : Tag) :
    (s.joinChain S t).item? a = s.item? a := rfl
@[simp] theorem State.joinChain_tally_eq (S : SecId) (t : Tag) (X : SecId) (k' : CountState) :
    (s.joinChain S t).tally X k' = s.tally X k' := rfl
@[simp] theorem State.joinChain_unlisted_eq (S : SecId) (t : Tag) :
    (s.joinChain S t).unlisted  = s.unlisted := rfl
@[simp] theorem State.joinChain_ctx_eq (S : SecId) (t : Tag) (y : CtxId) :
    (s.joinChain S t).ctx y = s.ctx y := rfl
@[simp] theorem State.joinChain_freeCtx_eq (S : SecId) (t : Tag) :
    (s.joinChain S t).freeCtx  = s.freeCtx := rfl
@[simp] theorem State.joinChain_walkOf_eq (S : SecId) (t : Tag) (v : Wand) :
    (s.joinChain S t).walkOf v = s.walkOf v := rfl
@[simp] theorem State.joinChain_walkedSec_eq (S : SecId) (t : Tag) (v : Wand) :
    (s.joinChain S t).walkedSec v = s.walkedSec v := rfl
@[simp] theorem State.joinChain_table_eq (S : SecId) (t : Tag) (v : Wand) :
    (s.joinChain S t).table v = s.table v := rfl
@[simp] theorem State.joinChain_waitsFor_eq (S : SecId) (t : Tag) (v : Wand) :
    (s.joinChain S t).waitsFor v = s.waitsFor v := rfl
@[simp] theorem State.joinChain_place_eq (S : SecId) (t : Tag) (v : Wand) :
    (s.joinChain S t).place v = s.place v := rfl

/-! ### leaveChain -/

@[simp] theorem State.leaveChain_items (S : SecId) (t : Tag) :
    (s.leaveChain S t).items = s.items := rfl
@[simp] theorem State.leaveChain_tables (S : SecId) (t : Tag) :
    (s.leaveChain S t).tables = s.tables := rfl
@[simp] theorem State.leaveChain_decayLeft (S : SecId) (t : Tag) :
    (s.leaveChain S t).decayLeft = s.decayLeft := rfl
@[simp] theorem State.leaveChain_claims (S : SecId) (t : Tag) :
    (s.leaveChain S t).claims = s.claims := rfl
@[simp] theorem State.leaveChain_contexts (S : SecId) (t : Tag) :
    (s.leaveChain S t).contexts = s.contexts := rfl
@[simp] theorem State.leaveChain_watch (S : SecId) (t : Tag) :
    (s.leaveChain S t).watch = s.watch := rfl
@[simp] theorem State.leaveChain_campaign (S : SecId) (t : Tag) :
    (s.leaveChain S t).campaign = s.campaign := rfl
@[simp] theorem State.leaveChain_clock (S : SecId) (t : Tag) :
    (s.leaveChain S t).clock = s.clock := rfl
@[simp] theorem State.leaveChain_clockPart (S : SecId) (t : Tag) :
    (s.leaveChain S t).clockPart = s.clockPart := rfl
@[simp] theorem State.leaveChain_forces (S : SecId) (t : Tag) :
    (s.leaveChain S t).forces = s.forces := rfl
@[simp] theorem State.leaveChain_lampPhase (S : SecId) (t : Tag) :
    (s.leaveChain S t).lampPhase = s.lampPhase := rfl
@[simp] theorem State.leaveChain_receiver (S : SecId) (t : Tag) :
    (s.leaveChain S t).receiver = s.receiver := rfl
@[simp] theorem State.leaveChain_gathered (S : SecId) (t : Tag) :
    (s.leaveChain S t).gathered = s.gathered := rfl
@[simp] theorem State.leaveChain_rxQueue (S : SecId) (t : Tag) :
    (s.leaveChain S t).rxQueue = s.rxQueue := rfl
@[simp] theorem State.leaveChain_sendQueue (S : SecId) (t : Tag) :
    (s.leaveChain S t).sendQueue = s.sendQueue := rfl
@[simp] theorem State.leaveChain_lastFrame (S : SecId) (t : Tag) :
    (s.leaveChain S t).lastFrame = s.lastFrame := rfl
@[simp] theorem State.leaveChain_ltxSent (S : SecId) (t : Tag) :
    (s.leaveChain S t).ltxSent = s.ltxSent := rfl
@[simp] theorem State.leaveChain_port (S : SecId) (t : Tag) :
    (s.leaveChain S t).port = s.port := rfl
@[simp] theorem State.leaveChain_sdoTrace (S : SecId) (t : Tag) :
    (s.leaveChain S t).sdoTrace = s.sdoTrace := rfl
@[simp] theorem State.leaveChain_events (S : SecId) (t : Tag) :
    (s.leaveChain S t).events = s.events := rfl
@[simp] theorem State.leaveChain_settings (S : SecId) (t : Tag) :
    (s.leaveChain S t).settings = s.settings := rfl
@[simp] theorem State.leaveChain_resetAsserted (S : SecId) (t : Tag) :
    (s.leaveChain S t).resetAsserted = s.resetAsserted := rfl
@[simp] theorem State.leaveChain_freeIndex (S : SecId) (t : Tag) :
    (s.leaveChain S t).freeIndex = s.freeIndex := rfl
@[simp] theorem State.leaveChain_pending (S : SecId) (t : Tag) :
    (s.leaveChain S t).pending = s.pending := rfl
@[simp] theorem State.leaveChain_item_eq (S : SecId) (t : Tag) (a : Tag) :
    (s.leaveChain S t).item? a = s.item? a := rfl
@[simp] theorem State.leaveChain_tally_eq (S : SecId) (t : Tag) (X : SecId) (k' : CountState) :
    (s.leaveChain S t).tally X k' = s.tally X k' := rfl
@[simp] theorem State.leaveChain_unlisted_eq (S : SecId) (t : Tag) :
    (s.leaveChain S t).unlisted  = s.unlisted := rfl
@[simp] theorem State.leaveChain_ctx_eq (S : SecId) (t : Tag) (y : CtxId) :
    (s.leaveChain S t).ctx y = s.ctx y := rfl
@[simp] theorem State.leaveChain_freeCtx_eq (S : SecId) (t : Tag) :
    (s.leaveChain S t).freeCtx  = s.freeCtx := rfl
@[simp] theorem State.leaveChain_walkOf_eq (S : SecId) (t : Tag) (v : Wand) :
    (s.leaveChain S t).walkOf v = s.walkOf v := rfl
@[simp] theorem State.leaveChain_walkedSec_eq (S : SecId) (t : Tag) (v : Wand) :
    (s.leaveChain S t).walkedSec v = s.walkedSec v := rfl
@[simp] theorem State.leaveChain_table_eq (S : SecId) (t : Tag) (v : Wand) :
    (s.leaveChain S t).table v = s.table v := rfl
@[simp] theorem State.leaveChain_waitsFor_eq (S : SecId) (t : Tag) (v : Wand) :
    (s.leaveChain S t).waitsFor v = s.waitsFor v := rfl
@[simp] theorem State.leaveChain_place_eq (S : SecId) (t : Tag) (v : Wand) :
    (s.leaveChain S t).place v = s.place v := rfl

/-! ### addItem -/

@[simp] theorem State.addItem_sections (r : Item) :
    (s.addItem r).sections = s.sections := rfl
@[simp] theorem State.addItem_tables (r : Item) :
    (s.addItem r).tables = s.tables := rfl
@[simp] theorem State.addItem_decayLeft (r : Item) :
    (s.addItem r).decayLeft = s.decayLeft := rfl
@[simp] theorem State.addItem_claims (r : Item) :
    (s.addItem r).claims = s.claims := rfl
@[simp] theorem State.addItem_contexts (r : Item) :
    (s.addItem r).contexts = s.contexts := rfl
@[simp] theorem State.addItem_watch (r : Item) :
    (s.addItem r).watch = s.watch := rfl
@[simp] theorem State.addItem_campaign (r : Item) :
    (s.addItem r).campaign = s.campaign := rfl
@[simp] theorem State.addItem_clock (r : Item) :
    (s.addItem r).clock = s.clock := rfl
@[simp] theorem State.addItem_clockPart (r : Item) :
    (s.addItem r).clockPart = s.clockPart := rfl
@[simp] theorem State.addItem_forces (r : Item) :
    (s.addItem r).forces = s.forces := rfl
@[simp] theorem State.addItem_lampPhase (r : Item) :
    (s.addItem r).lampPhase = s.lampPhase := rfl
@[simp] theorem State.addItem_receiver (r : Item) :
    (s.addItem r).receiver = s.receiver := rfl
@[simp] theorem State.addItem_gathered (r : Item) :
    (s.addItem r).gathered = s.gathered := rfl
@[simp] theorem State.addItem_rxQueue (r : Item) :
    (s.addItem r).rxQueue = s.rxQueue := rfl
@[simp] theorem State.addItem_sendQueue (r : Item) :
    (s.addItem r).sendQueue = s.sendQueue := rfl
@[simp] theorem State.addItem_lastFrame (r : Item) :
    (s.addItem r).lastFrame = s.lastFrame := rfl
@[simp] theorem State.addItem_ltxSent (r : Item) :
    (s.addItem r).ltxSent = s.ltxSent := rfl
@[simp] theorem State.addItem_port (r : Item) :
    (s.addItem r).port = s.port := rfl
@[simp] theorem State.addItem_sdoTrace (r : Item) :
    (s.addItem r).sdoTrace = s.sdoTrace := rfl
@[simp] theorem State.addItem_events (r : Item) :
    (s.addItem r).events = s.events := rfl
@[simp] theorem State.addItem_settings (r : Item) :
    (s.addItem r).settings = s.settings := rfl
@[simp] theorem State.addItem_resetAsserted (r : Item) :
    (s.addItem r).resetAsserted = s.resetAsserted := rfl
@[simp] theorem State.addItem_freeIndex (r : Item) :
    (s.addItem r).freeIndex = s.freeIndex := rfl
@[simp] theorem State.addItem_pending (r : Item) :
    (s.addItem r).pending = s.pending := rfl
@[simp] theorem State.addItem_sec_eq (r : Item) (X : SecId) :
    (s.addItem r).sec X = s.sec X := rfl
@[simp] theorem State.addItem_length_eq (r : Item) (X : SecId) :
    (s.addItem r).length X = s.length X := rfl
@[simp] theorem State.addItem_ordinal_eq (r : Item) (X : SecId) (a : Tag) :
    (s.addItem r).ordinal X a = s.ordinal X a := rfl
@[simp] theorem State.addItem_span_eq (r : Item) (X : SecId) (lo hi : Nat) :
    (s.addItem r).span X lo hi = s.span X lo hi := rfl
@[simp] theorem State.addItem_ctx_eq (r : Item) (y : CtxId) :
    (s.addItem r).ctx y = s.ctx y := rfl
@[simp] theorem State.addItem_freeCtx_eq (r : Item) :
    (s.addItem r).freeCtx  = s.freeCtx := rfl
@[simp] theorem State.addItem_walkOf_eq (r : Item) (v : Wand) :
    (s.addItem r).walkOf v = s.walkOf v := rfl
@[simp] theorem State.addItem_walkedSec_eq (r : Item) (v : Wand) :
    (s.addItem r).walkedSec v = s.walkedSec v := rfl
@[simp] theorem State.addItem_table_eq (r : Item) (v : Wand) :
    (s.addItem r).table v = s.table v := rfl
@[simp] theorem State.addItem_waitsFor_eq (r : Item) (v : Wand) :
    (s.addItem r).waitsFor v = s.waitsFor v := rfl
@[simp] theorem State.addItem_place_eq (r : Item) (v : Wand) :
    (s.addItem r).place v = s.place v := rfl

/-! ### dropItems -/

@[simp] theorem State.dropItems_sections (p : Item → Bool) :
    (s.dropItems p).sections = s.sections := rfl
@[simp] theorem State.dropItems_tables (p : Item → Bool) :
    (s.dropItems p).tables = s.tables := rfl
@[simp] theorem State.dropItems_decayLeft (p : Item → Bool) :
    (s.dropItems p).decayLeft = s.decayLeft := rfl
@[simp] theorem State.dropItems_claims (p : Item → Bool) :
    (s.dropItems p).claims = s.claims := rfl
@[simp] theorem State.dropItems_contexts (p : Item → Bool) :
    (s.dropItems p).contexts = s.contexts := rfl
@[simp] theorem State.dropItems_watch (p : Item → Bool) :
    (s.dropItems p).watch = s.watch := rfl
@[simp] theorem State.dropItems_campaign (p : Item → Bool) :
    (s.dropItems p).campaign = s.campaign := rfl
@[simp] theorem State.dropItems_clock (p : Item → Bool) :
    (s.dropItems p).clock = s.clock := rfl
@[simp] theorem State.dropItems_clockPart (p : Item → Bool) :
    (s.dropItems p).clockPart = s.clockPart := rfl
@[simp] theorem State.dropItems_forces (p : Item → Bool) :
    (s.dropItems p).forces = s.forces := rfl
@[simp] theorem State.dropItems_lampPhase (p : Item → Bool) :
    (s.dropItems p).lampPhase = s.lampPhase := rfl
@[simp] theorem State.dropItems_receiver (p : Item → Bool) :
    (s.dropItems p).receiver = s.receiver := rfl
@[simp] theorem State.dropItems_gathered (p : Item → Bool) :
    (s.dropItems p).gathered = s.gathered := rfl
@[simp] theorem State.dropItems_rxQueue (p : Item → Bool) :
    (s.dropItems p).rxQueue = s.rxQueue := rfl
@[simp] theorem State.dropItems_sendQueue (p : Item → Bool) :
    (s.dropItems p).sendQueue = s.sendQueue := rfl
@[simp] theorem State.dropItems_lastFrame (p : Item → Bool) :
    (s.dropItems p).lastFrame = s.lastFrame := rfl
@[simp] theorem State.dropItems_ltxSent (p : Item → Bool) :
    (s.dropItems p).ltxSent = s.ltxSent := rfl
@[simp] theorem State.dropItems_port (p : Item → Bool) :
    (s.dropItems p).port = s.port := rfl
@[simp] theorem State.dropItems_sdoTrace (p : Item → Bool) :
    (s.dropItems p).sdoTrace = s.sdoTrace := rfl
@[simp] theorem State.dropItems_events (p : Item → Bool) :
    (s.dropItems p).events = s.events := rfl
@[simp] theorem State.dropItems_settings (p : Item → Bool) :
    (s.dropItems p).settings = s.settings := rfl
@[simp] theorem State.dropItems_resetAsserted (p : Item → Bool) :
    (s.dropItems p).resetAsserted = s.resetAsserted := rfl
@[simp] theorem State.dropItems_freeIndex (p : Item → Bool) :
    (s.dropItems p).freeIndex = s.freeIndex := rfl
@[simp] theorem State.dropItems_pending (p : Item → Bool) :
    (s.dropItems p).pending = s.pending := rfl
@[simp] theorem State.dropItems_sec_eq (p : Item → Bool) (X : SecId) :
    (s.dropItems p).sec X = s.sec X := rfl
@[simp] theorem State.dropItems_length_eq (p : Item → Bool) (X : SecId) :
    (s.dropItems p).length X = s.length X := rfl
@[simp] theorem State.dropItems_ordinal_eq (p : Item → Bool) (X : SecId) (a : Tag) :
    (s.dropItems p).ordinal X a = s.ordinal X a := rfl
@[simp] theorem State.dropItems_span_eq (p : Item → Bool) (X : SecId) (lo hi : Nat) :
    (s.dropItems p).span X lo hi = s.span X lo hi := rfl
@[simp] theorem State.dropItems_ctx_eq (p : Item → Bool) (y : CtxId) :
    (s.dropItems p).ctx y = s.ctx y := rfl
@[simp] theorem State.dropItems_freeCtx_eq (p : Item → Bool) :
    (s.dropItems p).freeCtx  = s.freeCtx := rfl
@[simp] theorem State.dropItems_walkOf_eq (p : Item → Bool) (v : Wand) :
    (s.dropItems p).walkOf v = s.walkOf v := rfl
@[simp] theorem State.dropItems_walkedSec_eq (p : Item → Bool) (v : Wand) :
    (s.dropItems p).walkedSec v = s.walkedSec v := rfl
@[simp] theorem State.dropItems_table_eq (p : Item → Bool) (v : Wand) :
    (s.dropItems p).table v = s.table v := rfl
@[simp] theorem State.dropItems_waitsFor_eq (p : Item → Bool) (v : Wand) :
    (s.dropItems p).waitsFor v = s.waitsFor v := rfl
@[simp] theorem State.dropItems_place_eq (p : Item → Bool) (v : Wand) :
    (s.dropItems p).place v = s.place v := rfl

/-! ### modItems -/

@[simp] theorem State.modItems_sections (p : Item → Bool) (f : Item → Item) :
    (s.modItems p f).sections = s.sections := rfl
@[simp] theorem State.modItems_tables (p : Item → Bool) (f : Item → Item) :
    (s.modItems p f).tables = s.tables := rfl
@[simp] theorem State.modItems_decayLeft (p : Item → Bool) (f : Item → Item) :
    (s.modItems p f).decayLeft = s.decayLeft := rfl
@[simp] theorem State.modItems_claims (p : Item → Bool) (f : Item → Item) :
    (s.modItems p f).claims = s.claims := rfl
@[simp] theorem State.modItems_contexts (p : Item → Bool) (f : Item → Item) :
    (s.modItems p f).contexts = s.contexts := rfl
@[simp] theorem State.modItems_watch (p : Item → Bool) (f : Item → Item) :
    (s.modItems p f).watch = s.watch := rfl
@[simp] theorem State.modItems_campaign (p : Item → Bool) (f : Item → Item) :
    (s.modItems p f).campaign = s.campaign := rfl
@[simp] theorem State.modItems_clock (p : Item → Bool) (f : Item → Item) :
    (s.modItems p f).clock = s.clock := rfl
@[simp] theorem State.modItems_clockPart (p : Item → Bool) (f : Item → Item) :
    (s.modItems p f).clockPart = s.clockPart := rfl
@[simp] theorem State.modItems_forces (p : Item → Bool) (f : Item → Item) :
    (s.modItems p f).forces = s.forces := rfl
@[simp] theorem State.modItems_lampPhase (p : Item → Bool) (f : Item → Item) :
    (s.modItems p f).lampPhase = s.lampPhase := rfl
@[simp] theorem State.modItems_receiver (p : Item → Bool) (f : Item → Item) :
    (s.modItems p f).receiver = s.receiver := rfl
@[simp] theorem State.modItems_gathered (p : Item → Bool) (f : Item → Item) :
    (s.modItems p f).gathered = s.gathered := rfl
@[simp] theorem State.modItems_rxQueue (p : Item → Bool) (f : Item → Item) :
    (s.modItems p f).rxQueue = s.rxQueue := rfl
@[simp] theorem State.modItems_sendQueue (p : Item → Bool) (f : Item → Item) :
    (s.modItems p f).sendQueue = s.sendQueue := rfl
@[simp] theorem State.modItems_lastFrame (p : Item → Bool) (f : Item → Item) :
    (s.modItems p f).lastFrame = s.lastFrame := rfl
@[simp] theorem State.modItems_ltxSent (p : Item → Bool) (f : Item → Item) :
    (s.modItems p f).ltxSent = s.ltxSent := rfl
@[simp] theorem State.modItems_port (p : Item → Bool) (f : Item → Item) :
    (s.modItems p f).port = s.port := rfl
@[simp] theorem State.modItems_sdoTrace (p : Item → Bool) (f : Item → Item) :
    (s.modItems p f).sdoTrace = s.sdoTrace := rfl
@[simp] theorem State.modItems_events (p : Item → Bool) (f : Item → Item) :
    (s.modItems p f).events = s.events := rfl
@[simp] theorem State.modItems_settings (p : Item → Bool) (f : Item → Item) :
    (s.modItems p f).settings = s.settings := rfl
@[simp] theorem State.modItems_resetAsserted (p : Item → Bool) (f : Item → Item) :
    (s.modItems p f).resetAsserted = s.resetAsserted := rfl
@[simp] theorem State.modItems_freeIndex (p : Item → Bool) (f : Item → Item) :
    (s.modItems p f).freeIndex = s.freeIndex := rfl
@[simp] theorem State.modItems_pending (p : Item → Bool) (f : Item → Item) :
    (s.modItems p f).pending = s.pending := rfl
@[simp] theorem State.modItems_sec_eq (p : Item → Bool) (f : Item → Item) (X : SecId) :
    (s.modItems p f).sec X = s.sec X := rfl
@[simp] theorem State.modItems_length_eq (p : Item → Bool) (f : Item → Item) (X : SecId) :
    (s.modItems p f).length X = s.length X := rfl
@[simp] theorem State.modItems_ordinal_eq (p : Item → Bool) (f : Item → Item) (X : SecId) (a : Tag) :
    (s.modItems p f).ordinal X a = s.ordinal X a := rfl
@[simp] theorem State.modItems_span_eq (p : Item → Bool) (f : Item → Item) (X : SecId) (lo hi : Nat) :
    (s.modItems p f).span X lo hi = s.span X lo hi := rfl
@[simp] theorem State.modItems_ctx_eq (p : Item → Bool) (f : Item → Item) (y : CtxId) :
    (s.modItems p f).ctx y = s.ctx y := rfl
@[simp] theorem State.modItems_freeCtx_eq (p : Item → Bool) (f : Item → Item) :
    (s.modItems p f).freeCtx  = s.freeCtx := rfl
@[simp] theorem State.modItems_walkOf_eq (p : Item → Bool) (f : Item → Item) (v : Wand) :
    (s.modItems p f).walkOf v = s.walkOf v := rfl
@[simp] theorem State.modItems_walkedSec_eq (p : Item → Bool) (f : Item → Item) (v : Wand) :
    (s.modItems p f).walkedSec v = s.walkedSec v := rfl
@[simp] theorem State.modItems_table_eq (p : Item → Bool) (f : Item → Item) (v : Wand) :
    (s.modItems p f).table v = s.table v := rfl
@[simp] theorem State.modItems_waitsFor_eq (p : Item → Bool) (f : Item → Item) (v : Wand) :
    (s.modItems p f).waitsFor v = s.waitsFor v := rfl
@[simp] theorem State.modItems_place_eq (p : Item → Bool) (f : Item → Item) (v : Wand) :
    (s.modItems p f).place v = s.place v := rfl

/-! ### modItem -/

@[simp] theorem State.modItem_sections (t : Tag) (f : Item → Item) :
    (s.modItem t f).sections = s.sections := rfl
@[simp] theorem State.modItem_tables (t : Tag) (f : Item → Item) :
    (s.modItem t f).tables = s.tables := rfl
@[simp] theorem State.modItem_decayLeft (t : Tag) (f : Item → Item) :
    (s.modItem t f).decayLeft = s.decayLeft := rfl
@[simp] theorem State.modItem_claims (t : Tag) (f : Item → Item) :
    (s.modItem t f).claims = s.claims := rfl
@[simp] theorem State.modItem_contexts (t : Tag) (f : Item → Item) :
    (s.modItem t f).contexts = s.contexts := rfl
@[simp] theorem State.modItem_watch (t : Tag) (f : Item → Item) :
    (s.modItem t f).watch = s.watch := rfl
@[simp] theorem State.modItem_campaign (t : Tag) (f : Item → Item) :
    (s.modItem t f).campaign = s.campaign := rfl
@[simp] theorem State.modItem_clock (t : Tag) (f : Item → Item) :
    (s.modItem t f).clock = s.clock := rfl
@[simp] theorem State.modItem_clockPart (t : Tag) (f : Item → Item) :
    (s.modItem t f).clockPart = s.clockPart := rfl
@[simp] theorem State.modItem_forces (t : Tag) (f : Item → Item) :
    (s.modItem t f).forces = s.forces := rfl
@[simp] theorem State.modItem_lampPhase (t : Tag) (f : Item → Item) :
    (s.modItem t f).lampPhase = s.lampPhase := rfl
@[simp] theorem State.modItem_receiver (t : Tag) (f : Item → Item) :
    (s.modItem t f).receiver = s.receiver := rfl
@[simp] theorem State.modItem_gathered (t : Tag) (f : Item → Item) :
    (s.modItem t f).gathered = s.gathered := rfl
@[simp] theorem State.modItem_rxQueue (t : Tag) (f : Item → Item) :
    (s.modItem t f).rxQueue = s.rxQueue := rfl
@[simp] theorem State.modItem_sendQueue (t : Tag) (f : Item → Item) :
    (s.modItem t f).sendQueue = s.sendQueue := rfl
@[simp] theorem State.modItem_lastFrame (t : Tag) (f : Item → Item) :
    (s.modItem t f).lastFrame = s.lastFrame := rfl
@[simp] theorem State.modItem_ltxSent (t : Tag) (f : Item → Item) :
    (s.modItem t f).ltxSent = s.ltxSent := rfl
@[simp] theorem State.modItem_port (t : Tag) (f : Item → Item) :
    (s.modItem t f).port = s.port := rfl
@[simp] theorem State.modItem_sdoTrace (t : Tag) (f : Item → Item) :
    (s.modItem t f).sdoTrace = s.sdoTrace := rfl
@[simp] theorem State.modItem_events (t : Tag) (f : Item → Item) :
    (s.modItem t f).events = s.events := rfl
@[simp] theorem State.modItem_settings (t : Tag) (f : Item → Item) :
    (s.modItem t f).settings = s.settings := rfl
@[simp] theorem State.modItem_resetAsserted (t : Tag) (f : Item → Item) :
    (s.modItem t f).resetAsserted = s.resetAsserted := rfl
@[simp] theorem State.modItem_freeIndex (t : Tag) (f : Item → Item) :
    (s.modItem t f).freeIndex = s.freeIndex := rfl
@[simp] theorem State.modItem_pending (t : Tag) (f : Item → Item) :
    (s.modItem t f).pending = s.pending := rfl
@[simp] theorem State.modItem_sec_eq (t : Tag) (f : Item → Item) (X : SecId) :
    (s.modItem t f).sec X = s.sec X := rfl
@[simp] theorem State.modItem_length_eq (t : Tag) (f : Item → Item) (X : SecId) :
    (s.modItem t f).length X = s.length X := rfl
@[simp] theorem State.modItem_ordinal_eq (t : Tag) (f : Item → Item) (X : SecId) (a : Tag) :
    (s.modItem t f).ordinal X a = s.ordinal X a := rfl
@[simp] theorem State.modItem_span_eq (t : Tag) (f : Item → Item) (X : SecId) (lo hi : Nat) :
    (s.modItem t f).span X lo hi = s.span X lo hi := rfl
@[simp] theorem State.modItem_ctx_eq (t : Tag) (f : Item → Item) (y : CtxId) :
    (s.modItem t f).ctx y = s.ctx y := rfl
@[simp] theorem State.modItem_freeCtx_eq (t : Tag) (f : Item → Item) :
    (s.modItem t f).freeCtx  = s.freeCtx := rfl
@[simp] theorem State.modItem_walkOf_eq (t : Tag) (f : Item → Item) (v : Wand) :
    (s.modItem t f).walkOf v = s.walkOf v := rfl
@[simp] theorem State.modItem_walkedSec_eq (t : Tag) (f : Item → Item) (v : Wand) :
    (s.modItem t f).walkedSec v = s.walkedSec v := rfl
@[simp] theorem State.modItem_table_eq (t : Tag) (f : Item → Item) (v : Wand) :
    (s.modItem t f).table v = s.table v := rfl
@[simp] theorem State.modItem_waitsFor_eq (t : Tag) (f : Item → Item) (v : Wand) :
    (s.modItem t f).waitsFor v = s.waitsFor v := rfl
@[simp] theorem State.modItem_place_eq (t : Tag) (f : Item → Item) (v : Wand) :
    (s.modItem t f).place v = s.place v := rfl

/-! ### setCtx -/

@[simp] theorem State.setCtx_items (x : CtxId) (c : Option Context) :
    (s.setCtx x c).items = s.items := rfl
@[simp] theorem State.setCtx_sections (x : CtxId) (c : Option Context) :
    (s.setCtx x c).sections = s.sections := rfl
@[simp] theorem State.setCtx_tables (x : CtxId) (c : Option Context) :
    (s.setCtx x c).tables = s.tables := rfl
@[simp] theorem State.setCtx_decayLeft (x : CtxId) (c : Option Context) :
    (s.setCtx x c).decayLeft = s.decayLeft := rfl
@[simp] theorem State.setCtx_claims (x : CtxId) (c : Option Context) :
    (s.setCtx x c).claims = s.claims := rfl
@[simp] theorem State.setCtx_watch (x : CtxId) (c : Option Context) :
    (s.setCtx x c).watch = s.watch := rfl
@[simp] theorem State.setCtx_campaign (x : CtxId) (c : Option Context) :
    (s.setCtx x c).campaign = s.campaign := rfl
@[simp] theorem State.setCtx_clock (x : CtxId) (c : Option Context) :
    (s.setCtx x c).clock = s.clock := rfl
@[simp] theorem State.setCtx_clockPart (x : CtxId) (c : Option Context) :
    (s.setCtx x c).clockPart = s.clockPart := rfl
@[simp] theorem State.setCtx_forces (x : CtxId) (c : Option Context) :
    (s.setCtx x c).forces = s.forces := rfl
@[simp] theorem State.setCtx_lampPhase (x : CtxId) (c : Option Context) :
    (s.setCtx x c).lampPhase = s.lampPhase := rfl
@[simp] theorem State.setCtx_receiver (x : CtxId) (c : Option Context) :
    (s.setCtx x c).receiver = s.receiver := rfl
@[simp] theorem State.setCtx_gathered (x : CtxId) (c : Option Context) :
    (s.setCtx x c).gathered = s.gathered := rfl
@[simp] theorem State.setCtx_rxQueue (x : CtxId) (c : Option Context) :
    (s.setCtx x c).rxQueue = s.rxQueue := rfl
@[simp] theorem State.setCtx_sendQueue (x : CtxId) (c : Option Context) :
    (s.setCtx x c).sendQueue = s.sendQueue := rfl
@[simp] theorem State.setCtx_lastFrame (x : CtxId) (c : Option Context) :
    (s.setCtx x c).lastFrame = s.lastFrame := rfl
@[simp] theorem State.setCtx_ltxSent (x : CtxId) (c : Option Context) :
    (s.setCtx x c).ltxSent = s.ltxSent := rfl
@[simp] theorem State.setCtx_port (x : CtxId) (c : Option Context) :
    (s.setCtx x c).port = s.port := rfl
@[simp] theorem State.setCtx_sdoTrace (x : CtxId) (c : Option Context) :
    (s.setCtx x c).sdoTrace = s.sdoTrace := rfl
@[simp] theorem State.setCtx_events (x : CtxId) (c : Option Context) :
    (s.setCtx x c).events = s.events := rfl
@[simp] theorem State.setCtx_settings (x : CtxId) (c : Option Context) :
    (s.setCtx x c).settings = s.settings := rfl
@[simp] theorem State.setCtx_resetAsserted (x : CtxId) (c : Option Context) :
    (s.setCtx x c).resetAsserted = s.resetAsserted := rfl
@[simp] theorem State.setCtx_freeIndex (x : CtxId) (c : Option Context) :
    (s.setCtx x c).freeIndex = s.freeIndex := rfl
@[simp] theorem State.setCtx_pending (x : CtxId) (c : Option Context) :
    (s.setCtx x c).pending = s.pending := rfl
@[simp] theorem State.setCtx_sec_eq (x : CtxId) (c : Option Context) (X : SecId) :
    (s.setCtx x c).sec X = s.sec X := rfl
@[simp] theorem State.setCtx_length_eq (x : CtxId) (c : Option Context) (X : SecId) :
    (s.setCtx x c).length X = s.length X := rfl
@[simp] theorem State.setCtx_ordinal_eq (x : CtxId) (c : Option Context) (X : SecId) (a : Tag) :
    (s.setCtx x c).ordinal X a = s.ordinal X a := rfl
@[simp] theorem State.setCtx_span_eq (x : CtxId) (c : Option Context) (X : SecId) (lo hi : Nat) :
    (s.setCtx x c).span X lo hi = s.span X lo hi := rfl
@[simp] theorem State.setCtx_item_eq (x : CtxId) (c : Option Context) (a : Tag) :
    (s.setCtx x c).item? a = s.item? a := rfl
@[simp] theorem State.setCtx_tally_eq (x : CtxId) (c : Option Context) (X : SecId) (k' : CountState) :
    (s.setCtx x c).tally X k' = s.tally X k' := rfl
@[simp] theorem State.setCtx_unlisted_eq (x : CtxId) (c : Option Context) :
    (s.setCtx x c).unlisted  = s.unlisted := rfl
@[simp] theorem State.setCtx_table_eq (x : CtxId) (c : Option Context) (v : Wand) :
    (s.setCtx x c).table v = s.table v := rfl
@[simp] theorem State.setCtx_waitsFor_eq (x : CtxId) (c : Option Context) (v : Wand) :
    (s.setCtx x c).waitsFor v = s.waitsFor v := rfl
@[simp] theorem State.setCtx_place_eq (x : CtxId) (c : Option Context) (v : Wand) :
    (s.setCtx x c).place v = s.place v := rfl

/-! ### modCtx -/

@[simp] theorem State.modCtx_items (x : CtxId) (f : Context → Context) :
    (s.modCtx x f).items = s.items := rfl
@[simp] theorem State.modCtx_sections (x : CtxId) (f : Context → Context) :
    (s.modCtx x f).sections = s.sections := rfl
@[simp] theorem State.modCtx_tables (x : CtxId) (f : Context → Context) :
    (s.modCtx x f).tables = s.tables := rfl
@[simp] theorem State.modCtx_decayLeft (x : CtxId) (f : Context → Context) :
    (s.modCtx x f).decayLeft = s.decayLeft := rfl
@[simp] theorem State.modCtx_claims (x : CtxId) (f : Context → Context) :
    (s.modCtx x f).claims = s.claims := rfl
@[simp] theorem State.modCtx_watch (x : CtxId) (f : Context → Context) :
    (s.modCtx x f).watch = s.watch := rfl
@[simp] theorem State.modCtx_campaign (x : CtxId) (f : Context → Context) :
    (s.modCtx x f).campaign = s.campaign := rfl
@[simp] theorem State.modCtx_clock (x : CtxId) (f : Context → Context) :
    (s.modCtx x f).clock = s.clock := rfl
@[simp] theorem State.modCtx_clockPart (x : CtxId) (f : Context → Context) :
    (s.modCtx x f).clockPart = s.clockPart := rfl
@[simp] theorem State.modCtx_forces (x : CtxId) (f : Context → Context) :
    (s.modCtx x f).forces = s.forces := rfl
@[simp] theorem State.modCtx_lampPhase (x : CtxId) (f : Context → Context) :
    (s.modCtx x f).lampPhase = s.lampPhase := rfl
@[simp] theorem State.modCtx_receiver (x : CtxId) (f : Context → Context) :
    (s.modCtx x f).receiver = s.receiver := rfl
@[simp] theorem State.modCtx_gathered (x : CtxId) (f : Context → Context) :
    (s.modCtx x f).gathered = s.gathered := rfl
@[simp] theorem State.modCtx_rxQueue (x : CtxId) (f : Context → Context) :
    (s.modCtx x f).rxQueue = s.rxQueue := rfl
@[simp] theorem State.modCtx_sendQueue (x : CtxId) (f : Context → Context) :
    (s.modCtx x f).sendQueue = s.sendQueue := rfl
@[simp] theorem State.modCtx_lastFrame (x : CtxId) (f : Context → Context) :
    (s.modCtx x f).lastFrame = s.lastFrame := rfl
@[simp] theorem State.modCtx_ltxSent (x : CtxId) (f : Context → Context) :
    (s.modCtx x f).ltxSent = s.ltxSent := rfl
@[simp] theorem State.modCtx_port (x : CtxId) (f : Context → Context) :
    (s.modCtx x f).port = s.port := rfl
@[simp] theorem State.modCtx_sdoTrace (x : CtxId) (f : Context → Context) :
    (s.modCtx x f).sdoTrace = s.sdoTrace := rfl
@[simp] theorem State.modCtx_events (x : CtxId) (f : Context → Context) :
    (s.modCtx x f).events = s.events := rfl
@[simp] theorem State.modCtx_settings (x : CtxId) (f : Context → Context) :
    (s.modCtx x f).settings = s.settings := rfl
@[simp] theorem State.modCtx_resetAsserted (x : CtxId) (f : Context → Context) :
    (s.modCtx x f).resetAsserted = s.resetAsserted := rfl
@[simp] theorem State.modCtx_freeIndex (x : CtxId) (f : Context → Context) :
    (s.modCtx x f).freeIndex = s.freeIndex := rfl
@[simp] theorem State.modCtx_pending (x : CtxId) (f : Context → Context) :
    (s.modCtx x f).pending = s.pending := rfl
@[simp] theorem State.modCtx_sec_eq (x : CtxId) (f : Context → Context) (X : SecId) :
    (s.modCtx x f).sec X = s.sec X := rfl
@[simp] theorem State.modCtx_length_eq (x : CtxId) (f : Context → Context) (X : SecId) :
    (s.modCtx x f).length X = s.length X := rfl
@[simp] theorem State.modCtx_ordinal_eq (x : CtxId) (f : Context → Context) (X : SecId) (a : Tag) :
    (s.modCtx x f).ordinal X a = s.ordinal X a := rfl
@[simp] theorem State.modCtx_span_eq (x : CtxId) (f : Context → Context) (X : SecId) (lo hi : Nat) :
    (s.modCtx x f).span X lo hi = s.span X lo hi := rfl
@[simp] theorem State.modCtx_item_eq (x : CtxId) (f : Context → Context) (a : Tag) :
    (s.modCtx x f).item? a = s.item? a := rfl
@[simp] theorem State.modCtx_tally_eq (x : CtxId) (f : Context → Context) (X : SecId) (k' : CountState) :
    (s.modCtx x f).tally X k' = s.tally X k' := rfl
@[simp] theorem State.modCtx_unlisted_eq (x : CtxId) (f : Context → Context) :
    (s.modCtx x f).unlisted  = s.unlisted := rfl
@[simp] theorem State.modCtx_table_eq (x : CtxId) (f : Context → Context) (v : Wand) :
    (s.modCtx x f).table v = s.table v := rfl
@[simp] theorem State.modCtx_waitsFor_eq (x : CtxId) (f : Context → Context) (v : Wand) :
    (s.modCtx x f).waitsFor v = s.waitsFor v := rfl
@[simp] theorem State.modCtx_place_eq (x : CtxId) (f : Context → Context) (v : Wand) :
    (s.modCtx x f).place v = s.place v := rfl

/-! ### setTable -/

@[simp] theorem State.setTable_items (w : Wand) (t : CandTable) :
    (s.setTable w t).items = s.items := rfl
@[simp] theorem State.setTable_sections (w : Wand) (t : CandTable) :
    (s.setTable w t).sections = s.sections := rfl
@[simp] theorem State.setTable_decayLeft (w : Wand) (t : CandTable) :
    (s.setTable w t).decayLeft = s.decayLeft := rfl
@[simp] theorem State.setTable_claims (w : Wand) (t : CandTable) :
    (s.setTable w t).claims = s.claims := rfl
@[simp] theorem State.setTable_contexts (w : Wand) (t : CandTable) :
    (s.setTable w t).contexts = s.contexts := rfl
@[simp] theorem State.setTable_watch (w : Wand) (t : CandTable) :
    (s.setTable w t).watch = s.watch := rfl
@[simp] theorem State.setTable_campaign (w : Wand) (t : CandTable) :
    (s.setTable w t).campaign = s.campaign := rfl
@[simp] theorem State.setTable_clock (w : Wand) (t : CandTable) :
    (s.setTable w t).clock = s.clock := rfl
@[simp] theorem State.setTable_clockPart (w : Wand) (t : CandTable) :
    (s.setTable w t).clockPart = s.clockPart := rfl
@[simp] theorem State.setTable_forces (w : Wand) (t : CandTable) :
    (s.setTable w t).forces = s.forces := rfl
@[simp] theorem State.setTable_lampPhase (w : Wand) (t : CandTable) :
    (s.setTable w t).lampPhase = s.lampPhase := rfl
@[simp] theorem State.setTable_receiver (w : Wand) (t : CandTable) :
    (s.setTable w t).receiver = s.receiver := rfl
@[simp] theorem State.setTable_gathered (w : Wand) (t : CandTable) :
    (s.setTable w t).gathered = s.gathered := rfl
@[simp] theorem State.setTable_rxQueue (w : Wand) (t : CandTable) :
    (s.setTable w t).rxQueue = s.rxQueue := rfl
@[simp] theorem State.setTable_sendQueue (w : Wand) (t : CandTable) :
    (s.setTable w t).sendQueue = s.sendQueue := rfl
@[simp] theorem State.setTable_lastFrame (w : Wand) (t : CandTable) :
    (s.setTable w t).lastFrame = s.lastFrame := rfl
@[simp] theorem State.setTable_ltxSent (w : Wand) (t : CandTable) :
    (s.setTable w t).ltxSent = s.ltxSent := rfl
@[simp] theorem State.setTable_port (w : Wand) (t : CandTable) :
    (s.setTable w t).port = s.port := rfl
@[simp] theorem State.setTable_sdoTrace (w : Wand) (t : CandTable) :
    (s.setTable w t).sdoTrace = s.sdoTrace := rfl
@[simp] theorem State.setTable_events (w : Wand) (t : CandTable) :
    (s.setTable w t).events = s.events := rfl
@[simp] theorem State.setTable_settings (w : Wand) (t : CandTable) :
    (s.setTable w t).settings = s.settings := rfl
@[simp] theorem State.setTable_resetAsserted (w : Wand) (t : CandTable) :
    (s.setTable w t).resetAsserted = s.resetAsserted := rfl
@[simp] theorem State.setTable_freeIndex (w : Wand) (t : CandTable) :
    (s.setTable w t).freeIndex = s.freeIndex := rfl
@[simp] theorem State.setTable_pending (w : Wand) (t : CandTable) :
    (s.setTable w t).pending = s.pending := rfl
@[simp] theorem State.setTable_sec_eq (w : Wand) (t : CandTable) (X : SecId) :
    (s.setTable w t).sec X = s.sec X := rfl
@[simp] theorem State.setTable_length_eq (w : Wand) (t : CandTable) (X : SecId) :
    (s.setTable w t).length X = s.length X := rfl
@[simp] theorem State.setTable_ordinal_eq (w : Wand) (t : CandTable) (X : SecId) (a : Tag) :
    (s.setTable w t).ordinal X a = s.ordinal X a := rfl
@[simp] theorem State.setTable_span_eq (w : Wand) (t : CandTable) (X : SecId) (lo hi : Nat) :
    (s.setTable w t).span X lo hi = s.span X lo hi := rfl
@[simp] theorem State.setTable_item_eq (w : Wand) (t : CandTable) (a : Tag) :
    (s.setTable w t).item? a = s.item? a := rfl
@[simp] theorem State.setTable_tally_eq (w : Wand) (t : CandTable) (X : SecId) (k' : CountState) :
    (s.setTable w t).tally X k' = s.tally X k' := rfl
@[simp] theorem State.setTable_unlisted_eq (w : Wand) (t : CandTable) :
    (s.setTable w t).unlisted  = s.unlisted := rfl
@[simp] theorem State.setTable_ctx_eq (w : Wand) (t : CandTable) (y : CtxId) :
    (s.setTable w t).ctx y = s.ctx y := rfl
@[simp] theorem State.setTable_freeCtx_eq (w : Wand) (t : CandTable) :
    (s.setTable w t).freeCtx  = s.freeCtx := rfl
@[simp] theorem State.setTable_walkOf_eq (w : Wand) (t : CandTable) (v : Wand) :
    (s.setTable w t).walkOf v = s.walkOf v := rfl
@[simp] theorem State.setTable_walkedSec_eq (w : Wand) (t : CandTable) (v : Wand) :
    (s.setTable w t).walkedSec v = s.walkedSec v := rfl
@[simp] theorem State.setTable_waitsFor_eq (w : Wand) (t : CandTable) (v : Wand) :
    (s.setTable w t).waitsFor v = s.waitsFor v := rfl
@[simp] theorem State.setTable_place_eq (w : Wand) (t : CandTable) (v : Wand) :
    (s.setTable w t).place v = s.place v := rfl

/-! ### releaseWaiting -/

@[simp] theorem State.releaseWaiting_items (w : Wand) :
    (s.releaseWaiting w).items = s.items := rfl
@[simp] theorem State.releaseWaiting_sections (w : Wand) :
    (s.releaseWaiting w).sections = s.sections := rfl
@[simp] theorem State.releaseWaiting_decayLeft (w : Wand) :
    (s.releaseWaiting w).decayLeft = s.decayLeft := rfl
@[simp] theorem State.releaseWaiting_claims (w : Wand) :
    (s.releaseWaiting w).claims = s.claims := rfl
@[simp] theorem State.releaseWaiting_contexts (w : Wand) :
    (s.releaseWaiting w).contexts = s.contexts := rfl
@[simp] theorem State.releaseWaiting_watch (w : Wand) :
    (s.releaseWaiting w).watch = s.watch := rfl
@[simp] theorem State.releaseWaiting_campaign (w : Wand) :
    (s.releaseWaiting w).campaign = s.campaign := rfl
@[simp] theorem State.releaseWaiting_clock (w : Wand) :
    (s.releaseWaiting w).clock = s.clock := rfl
@[simp] theorem State.releaseWaiting_clockPart (w : Wand) :
    (s.releaseWaiting w).clockPart = s.clockPart := rfl
@[simp] theorem State.releaseWaiting_forces (w : Wand) :
    (s.releaseWaiting w).forces = s.forces := rfl
@[simp] theorem State.releaseWaiting_lampPhase (w : Wand) :
    (s.releaseWaiting w).lampPhase = s.lampPhase := rfl
@[simp] theorem State.releaseWaiting_receiver (w : Wand) :
    (s.releaseWaiting w).receiver = s.receiver := rfl
@[simp] theorem State.releaseWaiting_gathered (w : Wand) :
    (s.releaseWaiting w).gathered = s.gathered := rfl
@[simp] theorem State.releaseWaiting_rxQueue (w : Wand) :
    (s.releaseWaiting w).rxQueue = s.rxQueue := rfl
@[simp] theorem State.releaseWaiting_sendQueue (w : Wand) :
    (s.releaseWaiting w).sendQueue = s.sendQueue := rfl
@[simp] theorem State.releaseWaiting_lastFrame (w : Wand) :
    (s.releaseWaiting w).lastFrame = s.lastFrame := rfl
@[simp] theorem State.releaseWaiting_ltxSent (w : Wand) :
    (s.releaseWaiting w).ltxSent = s.ltxSent := rfl
@[simp] theorem State.releaseWaiting_port (w : Wand) :
    (s.releaseWaiting w).port = s.port := rfl
@[simp] theorem State.releaseWaiting_sdoTrace (w : Wand) :
    (s.releaseWaiting w).sdoTrace = s.sdoTrace := rfl
@[simp] theorem State.releaseWaiting_events (w : Wand) :
    (s.releaseWaiting w).events = s.events := rfl
@[simp] theorem State.releaseWaiting_settings (w : Wand) :
    (s.releaseWaiting w).settings = s.settings := rfl
@[simp] theorem State.releaseWaiting_resetAsserted (w : Wand) :
    (s.releaseWaiting w).resetAsserted = s.resetAsserted := rfl
@[simp] theorem State.releaseWaiting_freeIndex (w : Wand) :
    (s.releaseWaiting w).freeIndex = s.freeIndex := rfl
@[simp] theorem State.releaseWaiting_pending (w : Wand) :
    (s.releaseWaiting w).pending = s.pending := rfl
@[simp] theorem State.releaseWaiting_sec_eq (w : Wand) (X : SecId) :
    (s.releaseWaiting w).sec X = s.sec X := rfl
@[simp] theorem State.releaseWaiting_length_eq (w : Wand) (X : SecId) :
    (s.releaseWaiting w).length X = s.length X := rfl
@[simp] theorem State.releaseWaiting_ordinal_eq (w : Wand) (X : SecId) (a : Tag) :
    (s.releaseWaiting w).ordinal X a = s.ordinal X a := rfl
@[simp] theorem State.releaseWaiting_span_eq (w : Wand) (X : SecId) (lo hi : Nat) :
    (s.releaseWaiting w).span X lo hi = s.span X lo hi := rfl
@[simp] theorem State.releaseWaiting_item_eq (w : Wand) (a : Tag) :
    (s.releaseWaiting w).item? a = s.item? a := rfl
@[simp] theorem State.releaseWaiting_tally_eq (w : Wand) (X : SecId) (k' : CountState) :
    (s.releaseWaiting w).tally X k' = s.tally X k' := rfl
@[simp] theorem State.releaseWaiting_unlisted_eq (w : Wand) :
    (s.releaseWaiting w).unlisted  = s.unlisted := rfl
@[simp] theorem State.releaseWaiting_ctx_eq (w : Wand) (y : CtxId) :
    (s.releaseWaiting w).ctx y = s.ctx y := rfl
@[simp] theorem State.releaseWaiting_freeCtx_eq (w : Wand) :
    (s.releaseWaiting w).freeCtx  = s.freeCtx := rfl
@[simp] theorem State.releaseWaiting_walkOf_eq (w : Wand) (v : Wand) :
    (s.releaseWaiting w).walkOf v = s.walkOf v := rfl
@[simp] theorem State.releaseWaiting_walkedSec_eq (w : Wand) (v : Wand) :
    (s.releaseWaiting w).walkedSec v = s.walkedSec v := rfl
@[simp] theorem State.releaseWaiting_waitsFor_eq (w : Wand) (v : Wand) :
    (s.releaseWaiting w).waitsFor v = s.waitsFor v := rfl
@[simp] theorem State.releaseWaiting_place_eq (w : Wand) (v : Wand) :
    (s.releaseWaiting w).place v = s.place v := rfl

/-! ### unclaim -/

@[simp] theorem State.unclaim_items (w : Wand) :
    (s.unclaim w).items = s.items := rfl
@[simp] theorem State.unclaim_sections (w : Wand) :
    (s.unclaim w).sections = s.sections := rfl
@[simp] theorem State.unclaim_tables (w : Wand) :
    (s.unclaim w).tables = s.tables := rfl
@[simp] theorem State.unclaim_decayLeft (w : Wand) :
    (s.unclaim w).decayLeft = s.decayLeft := rfl
@[simp] theorem State.unclaim_contexts (w : Wand) :
    (s.unclaim w).contexts = s.contexts := rfl
@[simp] theorem State.unclaim_watch (w : Wand) :
    (s.unclaim w).watch = s.watch := rfl
@[simp] theorem State.unclaim_campaign (w : Wand) :
    (s.unclaim w).campaign = s.campaign := rfl
@[simp] theorem State.unclaim_clock (w : Wand) :
    (s.unclaim w).clock = s.clock := rfl
@[simp] theorem State.unclaim_clockPart (w : Wand) :
    (s.unclaim w).clockPart = s.clockPart := rfl
@[simp] theorem State.unclaim_forces (w : Wand) :
    (s.unclaim w).forces = s.forces := rfl
@[simp] theorem State.unclaim_lampPhase (w : Wand) :
    (s.unclaim w).lampPhase = s.lampPhase := rfl
@[simp] theorem State.unclaim_receiver (w : Wand) :
    (s.unclaim w).receiver = s.receiver := rfl
@[simp] theorem State.unclaim_gathered (w : Wand) :
    (s.unclaim w).gathered = s.gathered := rfl
@[simp] theorem State.unclaim_rxQueue (w : Wand) :
    (s.unclaim w).rxQueue = s.rxQueue := rfl
@[simp] theorem State.unclaim_sendQueue (w : Wand) :
    (s.unclaim w).sendQueue = s.sendQueue := rfl
@[simp] theorem State.unclaim_lastFrame (w : Wand) :
    (s.unclaim w).lastFrame = s.lastFrame := rfl
@[simp] theorem State.unclaim_ltxSent (w : Wand) :
    (s.unclaim w).ltxSent = s.ltxSent := rfl
@[simp] theorem State.unclaim_port (w : Wand) :
    (s.unclaim w).port = s.port := rfl
@[simp] theorem State.unclaim_sdoTrace (w : Wand) :
    (s.unclaim w).sdoTrace = s.sdoTrace := rfl
@[simp] theorem State.unclaim_events (w : Wand) :
    (s.unclaim w).events = s.events := rfl
@[simp] theorem State.unclaim_settings (w : Wand) :
    (s.unclaim w).settings = s.settings := rfl
@[simp] theorem State.unclaim_resetAsserted (w : Wand) :
    (s.unclaim w).resetAsserted = s.resetAsserted := rfl
@[simp] theorem State.unclaim_freeIndex (w : Wand) :
    (s.unclaim w).freeIndex = s.freeIndex := rfl
@[simp] theorem State.unclaim_pending (w : Wand) :
    (s.unclaim w).pending = s.pending := rfl
@[simp] theorem State.unclaim_sec_eq (w : Wand) (X : SecId) :
    (s.unclaim w).sec X = s.sec X := rfl
@[simp] theorem State.unclaim_length_eq (w : Wand) (X : SecId) :
    (s.unclaim w).length X = s.length X := rfl
@[simp] theorem State.unclaim_ordinal_eq (w : Wand) (X : SecId) (a : Tag) :
    (s.unclaim w).ordinal X a = s.ordinal X a := rfl
@[simp] theorem State.unclaim_span_eq (w : Wand) (X : SecId) (lo hi : Nat) :
    (s.unclaim w).span X lo hi = s.span X lo hi := rfl
@[simp] theorem State.unclaim_item_eq (w : Wand) (a : Tag) :
    (s.unclaim w).item? a = s.item? a := rfl
@[simp] theorem State.unclaim_tally_eq (w : Wand) (X : SecId) (k' : CountState) :
    (s.unclaim w).tally X k' = s.tally X k' := rfl
@[simp] theorem State.unclaim_unlisted_eq (w : Wand) :
    (s.unclaim w).unlisted  = s.unlisted := rfl
@[simp] theorem State.unclaim_ctx_eq (w : Wand) (y : CtxId) :
    (s.unclaim w).ctx y = s.ctx y := rfl
@[simp] theorem State.unclaim_freeCtx_eq (w : Wand) :
    (s.unclaim w).freeCtx  = s.freeCtx := rfl
@[simp] theorem State.unclaim_walkOf_eq (w : Wand) (v : Wand) :
    (s.unclaim w).walkOf v = s.walkOf v := rfl
@[simp] theorem State.unclaim_walkedSec_eq (w : Wand) (v : Wand) :
    (s.unclaim w).walkedSec v = s.walkedSec v := rfl
@[simp] theorem State.unclaim_table_eq (w : Wand) (v : Wand) :
    (s.unclaim w).table v = s.table v := rfl

/-! ### makeReady -/

@[simp] theorem State.makeReady_items (f : PartFrame) :
    (s.makeReady f).items = s.items := rfl
@[simp] theorem State.makeReady_sections (f : PartFrame) :
    (s.makeReady f).sections = s.sections := rfl
@[simp] theorem State.makeReady_tables (f : PartFrame) :
    (s.makeReady f).tables = s.tables := rfl
@[simp] theorem State.makeReady_decayLeft (f : PartFrame) :
    (s.makeReady f).decayLeft = s.decayLeft := rfl
@[simp] theorem State.makeReady_claims (f : PartFrame) :
    (s.makeReady f).claims = s.claims := rfl
@[simp] theorem State.makeReady_contexts (f : PartFrame) :
    (s.makeReady f).contexts = s.contexts := rfl
@[simp] theorem State.makeReady_watch (f : PartFrame) :
    (s.makeReady f).watch = s.watch := rfl
@[simp] theorem State.makeReady_campaign (f : PartFrame) :
    (s.makeReady f).campaign = s.campaign := rfl
@[simp] theorem State.makeReady_clock (f : PartFrame) :
    (s.makeReady f).clock = s.clock := rfl
@[simp] theorem State.makeReady_clockPart (f : PartFrame) :
    (s.makeReady f).clockPart = s.clockPart := rfl
@[simp] theorem State.makeReady_forces (f : PartFrame) :
    (s.makeReady f).forces = s.forces := rfl
@[simp] theorem State.makeReady_lampPhase (f : PartFrame) :
    (s.makeReady f).lampPhase = s.lampPhase := rfl
@[simp] theorem State.makeReady_receiver (f : PartFrame) :
    (s.makeReady f).receiver = s.receiver := rfl
@[simp] theorem State.makeReady_gathered (f : PartFrame) :
    (s.makeReady f).gathered = s.gathered := rfl
@[simp] theorem State.makeReady_rxQueue (f : PartFrame) :
    (s.makeReady f).rxQueue = s.rxQueue := rfl
@[simp] theorem State.makeReady_lastFrame (f : PartFrame) :
    (s.makeReady f).lastFrame = s.lastFrame := rfl
@[simp] theorem State.makeReady_ltxSent (f : PartFrame) :
    (s.makeReady f).ltxSent = s.ltxSent := rfl
@[simp] theorem State.makeReady_port (f : PartFrame) :
    (s.makeReady f).port = s.port := rfl
@[simp] theorem State.makeReady_sdoTrace (f : PartFrame) :
    (s.makeReady f).sdoTrace = s.sdoTrace := rfl
@[simp] theorem State.makeReady_events (f : PartFrame) :
    (s.makeReady f).events = s.events := rfl
@[simp] theorem State.makeReady_settings (f : PartFrame) :
    (s.makeReady f).settings = s.settings := rfl
@[simp] theorem State.makeReady_resetAsserted (f : PartFrame) :
    (s.makeReady f).resetAsserted = s.resetAsserted := rfl
@[simp] theorem State.makeReady_freeIndex (f : PartFrame) :
    (s.makeReady f).freeIndex = s.freeIndex := rfl
@[simp] theorem State.makeReady_pending (f : PartFrame) :
    (s.makeReady f).pending = s.pending := rfl
@[simp] theorem State.makeReady_sec_eq (f : PartFrame) (X : SecId) :
    (s.makeReady f).sec X = s.sec X := rfl
@[simp] theorem State.makeReady_length_eq (f : PartFrame) (X : SecId) :
    (s.makeReady f).length X = s.length X := rfl
@[simp] theorem State.makeReady_ordinal_eq (f : PartFrame) (X : SecId) (a : Tag) :
    (s.makeReady f).ordinal X a = s.ordinal X a := rfl
@[simp] theorem State.makeReady_span_eq (f : PartFrame) (X : SecId) (lo hi : Nat) :
    (s.makeReady f).span X lo hi = s.span X lo hi := rfl
@[simp] theorem State.makeReady_item_eq (f : PartFrame) (a : Tag) :
    (s.makeReady f).item? a = s.item? a := rfl
@[simp] theorem State.makeReady_tally_eq (f : PartFrame) (X : SecId) (k' : CountState) :
    (s.makeReady f).tally X k' = s.tally X k' := rfl
@[simp] theorem State.makeReady_unlisted_eq (f : PartFrame) :
    (s.makeReady f).unlisted  = s.unlisted := rfl
@[simp] theorem State.makeReady_ctx_eq (f : PartFrame) (y : CtxId) :
    (s.makeReady f).ctx y = s.ctx y := rfl
@[simp] theorem State.makeReady_freeCtx_eq (f : PartFrame) :
    (s.makeReady f).freeCtx  = s.freeCtx := rfl
@[simp] theorem State.makeReady_walkOf_eq (f : PartFrame) (v : Wand) :
    (s.makeReady f).walkOf v = s.walkOf v := rfl
@[simp] theorem State.makeReady_walkedSec_eq (f : PartFrame) (v : Wand) :
    (s.makeReady f).walkedSec v = s.walkedSec v := rfl
@[simp] theorem State.makeReady_table_eq (f : PartFrame) (v : Wand) :
    (s.makeReady f).table v = s.table v := rfl
@[simp] theorem State.makeReady_waitsFor_eq (f : PartFrame) (v : Wand) :
    (s.makeReady f).waitsFor v = s.waitsFor v := rfl
@[simp] theorem State.makeReady_place_eq (f : PartFrame) (v : Wand) :
    (s.makeReady f).place v = s.place v := rfl

/-! ### raise -/

@[simp] theorem State.raise_items (k : EventKind) :
    (s.raise k).items = s.items := rfl
@[simp] theorem State.raise_sections (k : EventKind) :
    (s.raise k).sections = s.sections := rfl
@[simp] theorem State.raise_tables (k : EventKind) :
    (s.raise k).tables = s.tables := rfl
@[simp] theorem State.raise_decayLeft (k : EventKind) :
    (s.raise k).decayLeft = s.decayLeft := rfl
@[simp] theorem State.raise_claims (k : EventKind) :
    (s.raise k).claims = s.claims := rfl
@[simp] theorem State.raise_contexts (k : EventKind) :
    (s.raise k).contexts = s.contexts := rfl
@[simp] theorem State.raise_watch (k : EventKind) :
    (s.raise k).watch = s.watch := rfl
@[simp] theorem State.raise_campaign (k : EventKind) :
    (s.raise k).campaign = s.campaign := rfl
@[simp] theorem State.raise_clock (k : EventKind) :
    (s.raise k).clock = s.clock := rfl
@[simp] theorem State.raise_clockPart (k : EventKind) :
    (s.raise k).clockPart = s.clockPart := rfl
@[simp] theorem State.raise_forces (k : EventKind) :
    (s.raise k).forces = s.forces := rfl
@[simp] theorem State.raise_lampPhase (k : EventKind) :
    (s.raise k).lampPhase = s.lampPhase := rfl
@[simp] theorem State.raise_receiver (k : EventKind) :
    (s.raise k).receiver = s.receiver := rfl
@[simp] theorem State.raise_gathered (k : EventKind) :
    (s.raise k).gathered = s.gathered := rfl
@[simp] theorem State.raise_rxQueue (k : EventKind) :
    (s.raise k).rxQueue = s.rxQueue := rfl
@[simp] theorem State.raise_sendQueue (k : EventKind) :
    (s.raise k).sendQueue = s.sendQueue := rfl
@[simp] theorem State.raise_lastFrame (k : EventKind) :
    (s.raise k).lastFrame = s.lastFrame := rfl
@[simp] theorem State.raise_ltxSent (k : EventKind) :
    (s.raise k).ltxSent = s.ltxSent := rfl
@[simp] theorem State.raise_port (k : EventKind) :
    (s.raise k).port = s.port := rfl
@[simp] theorem State.raise_sdoTrace (k : EventKind) :
    (s.raise k).sdoTrace = s.sdoTrace := rfl
@[simp] theorem State.raise_settings (k : EventKind) :
    (s.raise k).settings = s.settings := rfl
@[simp] theorem State.raise_resetAsserted (k : EventKind) :
    (s.raise k).resetAsserted = s.resetAsserted := rfl
@[simp] theorem State.raise_freeIndex (k : EventKind) :
    (s.raise k).freeIndex = s.freeIndex := rfl
@[simp] theorem State.raise_pending (k : EventKind) :
    (s.raise k).pending = s.pending := rfl
@[simp] theorem State.raise_sec_eq (k : EventKind) (X : SecId) :
    (s.raise k).sec X = s.sec X := rfl
@[simp] theorem State.raise_length_eq (k : EventKind) (X : SecId) :
    (s.raise k).length X = s.length X := rfl
@[simp] theorem State.raise_ordinal_eq (k : EventKind) (X : SecId) (a : Tag) :
    (s.raise k).ordinal X a = s.ordinal X a := rfl
@[simp] theorem State.raise_span_eq (k : EventKind) (X : SecId) (lo hi : Nat) :
    (s.raise k).span X lo hi = s.span X lo hi := rfl
@[simp] theorem State.raise_item_eq (k : EventKind) (a : Tag) :
    (s.raise k).item? a = s.item? a := rfl
@[simp] theorem State.raise_tally_eq (k : EventKind) (X : SecId) (k' : CountState) :
    (s.raise k).tally X k' = s.tally X k' := rfl
@[simp] theorem State.raise_unlisted_eq (k : EventKind) :
    (s.raise k).unlisted  = s.unlisted := rfl
@[simp] theorem State.raise_ctx_eq (k : EventKind) (y : CtxId) :
    (s.raise k).ctx y = s.ctx y := rfl
@[simp] theorem State.raise_freeCtx_eq (k : EventKind) :
    (s.raise k).freeCtx  = s.freeCtx := rfl
@[simp] theorem State.raise_walkOf_eq (k : EventKind) (v : Wand) :
    (s.raise k).walkOf v = s.walkOf v := rfl
@[simp] theorem State.raise_walkedSec_eq (k : EventKind) (v : Wand) :
    (s.raise k).walkedSec v = s.walkedSec v := rfl
@[simp] theorem State.raise_table_eq (k : EventKind) (v : Wand) :
    (s.raise k).table v = s.table v := rfl
@[simp] theorem State.raise_waitsFor_eq (k : EventKind) (v : Wand) :
    (s.raise k).waitsFor v = s.waitsFor v := rfl
@[simp] theorem State.raise_place_eq (k : EventKind) (v : Wand) :
    (s.raise k).place v = s.place v := rfl

/-! ### sending -/

@[simp] theorem State.sending_items (q : List PartFrame) :
    (s.sending q).items = s.items := rfl
@[simp] theorem State.sending_sections (q : List PartFrame) :
    (s.sending q).sections = s.sections := rfl
@[simp] theorem State.sending_tables (q : List PartFrame) :
    (s.sending q).tables = s.tables := rfl
@[simp] theorem State.sending_decayLeft (q : List PartFrame) :
    (s.sending q).decayLeft = s.decayLeft := rfl
@[simp] theorem State.sending_claims (q : List PartFrame) :
    (s.sending q).claims = s.claims := rfl
@[simp] theorem State.sending_contexts (q : List PartFrame) :
    (s.sending q).contexts = s.contexts := rfl
@[simp] theorem State.sending_watch (q : List PartFrame) :
    (s.sending q).watch = s.watch := rfl
@[simp] theorem State.sending_campaign (q : List PartFrame) :
    (s.sending q).campaign = s.campaign := rfl
@[simp] theorem State.sending_clock (q : List PartFrame) :
    (s.sending q).clock = s.clock := rfl
@[simp] theorem State.sending_clockPart (q : List PartFrame) :
    (s.sending q).clockPart = s.clockPart := rfl
@[simp] theorem State.sending_forces (q : List PartFrame) :
    (s.sending q).forces = s.forces := rfl
@[simp] theorem State.sending_lampPhase (q : List PartFrame) :
    (s.sending q).lampPhase = s.lampPhase := rfl
@[simp] theorem State.sending_receiver (q : List PartFrame) :
    (s.sending q).receiver = s.receiver := rfl
@[simp] theorem State.sending_gathered (q : List PartFrame) :
    (s.sending q).gathered = s.gathered := rfl
@[simp] theorem State.sending_rxQueue (q : List PartFrame) :
    (s.sending q).rxQueue = s.rxQueue := rfl
@[simp] theorem State.sending_lastFrame (q : List PartFrame) :
    (s.sending q).lastFrame = s.lastFrame := rfl
@[simp] theorem State.sending_ltxSent (q : List PartFrame) :
    (s.sending q).ltxSent = s.ltxSent := rfl
@[simp] theorem State.sending_port (q : List PartFrame) :
    (s.sending q).port = s.port := rfl
@[simp] theorem State.sending_sdoTrace (q : List PartFrame) :
    (s.sending q).sdoTrace = s.sdoTrace := rfl
@[simp] theorem State.sending_events (q : List PartFrame) :
    (s.sending q).events = s.events := rfl
@[simp] theorem State.sending_settings (q : List PartFrame) :
    (s.sending q).settings = s.settings := rfl
@[simp] theorem State.sending_resetAsserted (q : List PartFrame) :
    (s.sending q).resetAsserted = s.resetAsserted := rfl
@[simp] theorem State.sending_freeIndex (q : List PartFrame) :
    (s.sending q).freeIndex = s.freeIndex := rfl
@[simp] theorem State.sending_pending (q : List PartFrame) :
    (s.sending q).pending = s.pending := rfl
@[simp] theorem State.sending_sec_eq (q : List PartFrame) (X : SecId) :
    (s.sending q).sec X = s.sec X := rfl
@[simp] theorem State.sending_length_eq (q : List PartFrame) (X : SecId) :
    (s.sending q).length X = s.length X := rfl
@[simp] theorem State.sending_ordinal_eq (q : List PartFrame) (X : SecId) (a : Tag) :
    (s.sending q).ordinal X a = s.ordinal X a := rfl
@[simp] theorem State.sending_span_eq (q : List PartFrame) (X : SecId) (lo hi : Nat) :
    (s.sending q).span X lo hi = s.span X lo hi := rfl
@[simp] theorem State.sending_item_eq (q : List PartFrame) (a : Tag) :
    (s.sending q).item? a = s.item? a := rfl
@[simp] theorem State.sending_tally_eq (q : List PartFrame) (X : SecId) (k' : CountState) :
    (s.sending q).tally X k' = s.tally X k' := rfl
@[simp] theorem State.sending_unlisted_eq (q : List PartFrame) :
    (s.sending q).unlisted  = s.unlisted := rfl
@[simp] theorem State.sending_ctx_eq (q : List PartFrame) (y : CtxId) :
    (s.sending q).ctx y = s.ctx y := rfl
@[simp] theorem State.sending_freeCtx_eq (q : List PartFrame) :
    (s.sending q).freeCtx  = s.freeCtx := rfl
@[simp] theorem State.sending_walkOf_eq (q : List PartFrame) (v : Wand) :
    (s.sending q).walkOf v = s.walkOf v := rfl
@[simp] theorem State.sending_walkedSec_eq (q : List PartFrame) (v : Wand) :
    (s.sending q).walkedSec v = s.walkedSec v := rfl
@[simp] theorem State.sending_table_eq (q : List PartFrame) (v : Wand) :
    (s.sending q).table v = s.table v := rfl
@[simp] theorem State.sending_waitsFor_eq (q : List PartFrame) (v : Wand) :
    (s.sending q).waitsFor v = s.waitsFor v := rfl
@[simp] theorem State.sending_place_eq (q : List PartFrame) (v : Wand) :
    (s.sending q).place v = s.place v := rfl

/-! ### setWatch -/

@[simp] theorem State.setWatch_items (i : WatchId) (e : WatchEntry) :
    (s.setWatch i e).items = s.items := rfl
@[simp] theorem State.setWatch_sections (i : WatchId) (e : WatchEntry) :
    (s.setWatch i e).sections = s.sections := rfl
@[simp] theorem State.setWatch_tables (i : WatchId) (e : WatchEntry) :
    (s.setWatch i e).tables = s.tables := rfl
@[simp] theorem State.setWatch_decayLeft (i : WatchId) (e : WatchEntry) :
    (s.setWatch i e).decayLeft = s.decayLeft := rfl
@[simp] theorem State.setWatch_claims (i : WatchId) (e : WatchEntry) :
    (s.setWatch i e).claims = s.claims := rfl
@[simp] theorem State.setWatch_contexts (i : WatchId) (e : WatchEntry) :
    (s.setWatch i e).contexts = s.contexts := rfl
@[simp] theorem State.setWatch_campaign (i : WatchId) (e : WatchEntry) :
    (s.setWatch i e).campaign = s.campaign := rfl
@[simp] theorem State.setWatch_clock (i : WatchId) (e : WatchEntry) :
    (s.setWatch i e).clock = s.clock := rfl
@[simp] theorem State.setWatch_clockPart (i : WatchId) (e : WatchEntry) :
    (s.setWatch i e).clockPart = s.clockPart := rfl
@[simp] theorem State.setWatch_forces (i : WatchId) (e : WatchEntry) :
    (s.setWatch i e).forces = s.forces := rfl
@[simp] theorem State.setWatch_lampPhase (i : WatchId) (e : WatchEntry) :
    (s.setWatch i e).lampPhase = s.lampPhase := rfl
@[simp] theorem State.setWatch_receiver (i : WatchId) (e : WatchEntry) :
    (s.setWatch i e).receiver = s.receiver := rfl
@[simp] theorem State.setWatch_gathered (i : WatchId) (e : WatchEntry) :
    (s.setWatch i e).gathered = s.gathered := rfl
@[simp] theorem State.setWatch_rxQueue (i : WatchId) (e : WatchEntry) :
    (s.setWatch i e).rxQueue = s.rxQueue := rfl
@[simp] theorem State.setWatch_sendQueue (i : WatchId) (e : WatchEntry) :
    (s.setWatch i e).sendQueue = s.sendQueue := rfl
@[simp] theorem State.setWatch_lastFrame (i : WatchId) (e : WatchEntry) :
    (s.setWatch i e).lastFrame = s.lastFrame := rfl
@[simp] theorem State.setWatch_ltxSent (i : WatchId) (e : WatchEntry) :
    (s.setWatch i e).ltxSent = s.ltxSent := rfl
@[simp] theorem State.setWatch_port (i : WatchId) (e : WatchEntry) :
    (s.setWatch i e).port = s.port := rfl
@[simp] theorem State.setWatch_sdoTrace (i : WatchId) (e : WatchEntry) :
    (s.setWatch i e).sdoTrace = s.sdoTrace := rfl
@[simp] theorem State.setWatch_events (i : WatchId) (e : WatchEntry) :
    (s.setWatch i e).events = s.events := rfl
@[simp] theorem State.setWatch_settings (i : WatchId) (e : WatchEntry) :
    (s.setWatch i e).settings = s.settings := rfl
@[simp] theorem State.setWatch_resetAsserted (i : WatchId) (e : WatchEntry) :
    (s.setWatch i e).resetAsserted = s.resetAsserted := rfl
@[simp] theorem State.setWatch_freeIndex (i : WatchId) (e : WatchEntry) :
    (s.setWatch i e).freeIndex = s.freeIndex := rfl
@[simp] theorem State.setWatch_pending (i : WatchId) (e : WatchEntry) :
    (s.setWatch i e).pending = s.pending := rfl
@[simp] theorem State.setWatch_sec_eq (i : WatchId) (e : WatchEntry) (X : SecId) :
    (s.setWatch i e).sec X = s.sec X := rfl
@[simp] theorem State.setWatch_length_eq (i : WatchId) (e : WatchEntry) (X : SecId) :
    (s.setWatch i e).length X = s.length X := rfl
@[simp] theorem State.setWatch_ordinal_eq (i : WatchId) (e : WatchEntry) (X : SecId) (a : Tag) :
    (s.setWatch i e).ordinal X a = s.ordinal X a := rfl
@[simp] theorem State.setWatch_span_eq (i : WatchId) (e : WatchEntry) (X : SecId) (lo hi : Nat) :
    (s.setWatch i e).span X lo hi = s.span X lo hi := rfl
@[simp] theorem State.setWatch_item_eq (i : WatchId) (e : WatchEntry) (a : Tag) :
    (s.setWatch i e).item? a = s.item? a := rfl
@[simp] theorem State.setWatch_tally_eq (i : WatchId) (e : WatchEntry) (X : SecId) (k' : CountState) :
    (s.setWatch i e).tally X k' = s.tally X k' := rfl
@[simp] theorem State.setWatch_unlisted_eq (i : WatchId) (e : WatchEntry) :
    (s.setWatch i e).unlisted  = s.unlisted := rfl
@[simp] theorem State.setWatch_ctx_eq (i : WatchId) (e : WatchEntry) (y : CtxId) :
    (s.setWatch i e).ctx y = s.ctx y := rfl
@[simp] theorem State.setWatch_freeCtx_eq (i : WatchId) (e : WatchEntry) :
    (s.setWatch i e).freeCtx  = s.freeCtx := rfl
@[simp] theorem State.setWatch_walkOf_eq (i : WatchId) (e : WatchEntry) (v : Wand) :
    (s.setWatch i e).walkOf v = s.walkOf v := rfl
@[simp] theorem State.setWatch_walkedSec_eq (i : WatchId) (e : WatchEntry) (v : Wand) :
    (s.setWatch i e).walkedSec v = s.walkedSec v := rfl
@[simp] theorem State.setWatch_table_eq (i : WatchId) (e : WatchEntry) (v : Wand) :
    (s.setWatch i e).table v = s.table v := rfl
@[simp] theorem State.setWatch_waitsFor_eq (i : WatchId) (e : WatchEntry) (v : Wand) :
    (s.setWatch i e).waitsFor v = s.waitsFor v := rfl
@[simp] theorem State.setWatch_place_eq (i : WatchId) (e : WatchEntry) (v : Wand) :
    (s.setWatch i e).place v = s.place v := rfl

/-! ### A response held, and what a body gives -/

@[simp] theorem Reply.hold_items (r : Reply) (code : Byte) (lost : Bool) :
    (r.hold code lost).items = r.state.items := rfl
@[simp] theorem Reply.hold_sections (r : Reply) (code : Byte) (lost : Bool) :
    (r.hold code lost).sections = r.state.sections := rfl
@[simp] theorem Reply.hold_tables (r : Reply) (code : Byte) (lost : Bool) :
    (r.hold code lost).tables = r.state.tables := rfl
@[simp] theorem Reply.hold_decayLeft (r : Reply) (code : Byte) (lost : Bool) :
    (r.hold code lost).decayLeft = r.state.decayLeft := rfl
@[simp] theorem Reply.hold_claims (r : Reply) (code : Byte) (lost : Bool) :
    (r.hold code lost).claims = r.state.claims := rfl
@[simp] theorem Reply.hold_contexts (r : Reply) (code : Byte) (lost : Bool) :
    (r.hold code lost).contexts = r.state.contexts := rfl
@[simp] theorem Reply.hold_watch (r : Reply) (code : Byte) (lost : Bool) :
    (r.hold code lost).watch = r.state.watch := rfl
@[simp] theorem Reply.hold_campaign (r : Reply) (code : Byte) (lost : Bool) :
    (r.hold code lost).campaign = r.state.campaign := rfl
@[simp] theorem Reply.hold_clock (r : Reply) (code : Byte) (lost : Bool) :
    (r.hold code lost).clock = r.state.clock := rfl
@[simp] theorem Reply.hold_clockPart (r : Reply) (code : Byte) (lost : Bool) :
    (r.hold code lost).clockPart = r.state.clockPart := rfl
@[simp] theorem Reply.hold_forces (r : Reply) (code : Byte) (lost : Bool) :
    (r.hold code lost).forces = r.state.forces := rfl
@[simp] theorem Reply.hold_lampPhase (r : Reply) (code : Byte) (lost : Bool) :
    (r.hold code lost).lampPhase = r.state.lampPhase := rfl
@[simp] theorem Reply.hold_receiver (r : Reply) (code : Byte) (lost : Bool) :
    (r.hold code lost).receiver = r.state.receiver := rfl
@[simp] theorem Reply.hold_gathered (r : Reply) (code : Byte) (lost : Bool) :
    (r.hold code lost).gathered = r.state.gathered := rfl
@[simp] theorem Reply.hold_rxQueue (r : Reply) (code : Byte) (lost : Bool) :
    (r.hold code lost).rxQueue = r.state.rxQueue := rfl
@[simp] theorem Reply.hold_sendQueue (r : Reply) (code : Byte) (lost : Bool) :
    (r.hold code lost).sendQueue = r.state.sendQueue := rfl
@[simp] theorem Reply.hold_lastFrame (r : Reply) (code : Byte) (lost : Bool) :
    (r.hold code lost).lastFrame = r.state.lastFrame := rfl
@[simp] theorem Reply.hold_ltxSent (r : Reply) (code : Byte) (lost : Bool) :
    (r.hold code lost).ltxSent = r.state.ltxSent := rfl
@[simp] theorem Reply.hold_sdoTrace (r : Reply) (code : Byte) (lost : Bool) :
    (r.hold code lost).sdoTrace = r.state.sdoTrace := rfl
@[simp] theorem Reply.hold_events (r : Reply) (code : Byte) (lost : Bool) :
    (r.hold code lost).events = r.state.events := rfl
@[simp] theorem Reply.hold_settings (r : Reply) (code : Byte) (lost : Bool) :
    (r.hold code lost).settings = r.state.settings := rfl
@[simp] theorem Reply.hold_resetAsserted (r : Reply) (code : Byte) (lost : Bool) :
    (r.hold code lost).resetAsserted = r.state.resetAsserted := rfl
@[simp] theorem Reply.hold_freeIndex (r : Reply) (code : Byte) (lost : Bool) :
    (r.hold code lost).freeIndex = r.state.freeIndex := rfl
@[simp] theorem Reply.hold_pending (r : Reply) (code : Byte) (lost : Bool) :
    (r.hold code lost).pending = r.state.pending := rfl
@[simp] theorem Reply.hold_sec_eq (r : Reply) (code : Byte) (lost : Bool) (X : SecId) :
    (r.hold code lost).sec X = r.state.sec X := rfl
@[simp] theorem Reply.hold_length_eq (r : Reply) (code : Byte) (lost : Bool) (X : SecId) :
    (r.hold code lost).length X = r.state.length X := rfl
@[simp] theorem Reply.hold_ordinal_eq (r : Reply) (code : Byte) (lost : Bool) (X : SecId) (a : Tag) :
    (r.hold code lost).ordinal X a = r.state.ordinal X a := rfl
@[simp] theorem Reply.hold_span_eq (r : Reply) (code : Byte) (lost : Bool) (X : SecId) (lo hi : Nat) :
    (r.hold code lost).span X lo hi = r.state.span X lo hi := rfl
@[simp] theorem Reply.hold_item_eq (r : Reply) (code : Byte) (lost : Bool) (a : Tag) :
    (r.hold code lost).item? a = r.state.item? a := rfl
@[simp] theorem Reply.hold_tally_eq (r : Reply) (code : Byte) (lost : Bool) (X : SecId) (c : CountState) :
    (r.hold code lost).tally X c = r.state.tally X c := rfl
@[simp] theorem Reply.hold_unlisted_eq (r : Reply) (code : Byte) (lost : Bool) :
    (r.hold code lost).unlisted = r.state.unlisted := rfl
@[simp] theorem Reply.hold_ctx_eq (r : Reply) (code : Byte) (lost : Bool) (y : CtxId) :
    (r.hold code lost).ctx y = r.state.ctx y := rfl
@[simp] theorem Reply.hold_freeCtx_eq (r : Reply) (code : Byte) (lost : Bool) :
    (r.hold code lost).freeCtx = r.state.freeCtx := rfl
@[simp] theorem Reply.hold_walkOf_eq (r : Reply) (code : Byte) (lost : Bool) (v : Wand) :
    (r.hold code lost).walkOf v = r.state.walkOf v := rfl
@[simp] theorem Reply.hold_walkedSec_eq (r : Reply) (code : Byte) (lost : Bool) (v : Wand) :
    (r.hold code lost).walkedSec v = r.state.walkedSec v := rfl
@[simp] theorem Reply.hold_table_eq (r : Reply) (code : Byte) (lost : Bool) (v : Wand) :
    (r.hold code lost).table v = r.state.table v := rfl
@[simp] theorem Reply.hold_waitsFor_eq (r : Reply) (code : Byte) (lost : Bool) (v : Wand) :
    (r.hold code lost).waitsFor v = r.state.waitsFor v := rfl
@[simp] theorem Reply.hold_place_eq (r : Reply) (code : Byte) (lost : Bool) (v : Wand) :
    (r.hold code lost).place v = r.state.place v := rfl
@[simp] theorem Reply.hold_port (r : Reply) (code : Byte) (lost : Bool) :
    (r.hold code lost).port = .holding ⟨code, r.status, r.results⟩ lost := rfl
@[simp] theorem State.refuse_state (st : Status) : (s.refuse st).state = s := rfl
@[simp] theorem State.refuse_status (st : Status) : (s.refuse st).status = st := rfl
@[simp] theorem State.refuse_results (st : Status) : (s.refuse st).results = [] := rfl
@[simp] theorem State.done_state (fs : List Field) : (s.done fs).state = s := rfl
@[simp] theorem State.done_status (fs : List Field) : (s.done fs).status = .done := rfl
@[simp] theorem State.done_results (fs : List Field) : (s.done fs).results = fs := rfl
@[simp] theorem State.doneClamped_state (b : Bool) (fs : List Field) :
    (s.doneClamped b fs).state = s := rfl
@[simp] theorem State.doneClamped_status (b : Bool) (fs : List Field) :
    (s.doneClamped b fs).status = if b then .clamped else .done := rfl
@[simp] theorem State.doneClamped_results (b : Bool) (fs : List Field) :
    (s.doneClamped b fs).results = fs := rfl
@[simp] theorem State.reply_state (c : FrameCode) (fs : List Field) : (s.reply c fs).state = s := rfl
@[simp] theorem State.reply_code (c : FrameCode) (fs : List Field) : (s.reply c fs).code = c := rfl
@[simp] theorem State.reply_fields (c : FrameCode) (fs : List Field) :
    (s.reply c fs).fields = fs := rfl
@[simp] theorem State.sending_sendQueue (q : List PartFrame) : (s.sending q).sendQueue = q := rfl
@[simp] theorem State.makeReady_sendQueue (f : PartFrame) :
    (s.makeReady f).sendQueue = s.sendQueue ++ [f] := rfl
@[simp] theorem State.raise_events (k : EventKind) :
    (s.raise k).events = { s.events with raw := s.events.raw ||| k.set } := rfl
@[simp] theorem State.modItems_items (p : Item → Bool) (f : Item → Item) :
    (s.modItems p f).items = s.items.map fun r => if p r then f r else r := rfl
@[simp] theorem State.dropItems_items (p : Item → Bool) :
    (s.dropItems p).items = s.items.filter fun r => !p r := rfl
@[simp] theorem State.unclaim_claims (w : Wand) :
    (s.unclaim w).claims = s.claims.filter fun q => q.wand ≠ w := rfl

end Sys2Proof.Machine
end

