-- ==== Sys2Proof/Laws/Ops.lean ====
section
/-!
SUPPORT. What the named operations of the state do, each said once: reading back a section, a context,
a table or a record after an update; the two ways a command reaches its owner; and the operations that
the meanings share.
-/

namespace Sys2Proof.Machine

variable (s : State)

/-- Two states are equal when every field is. -/
theorem State.eq_of_fields {u v : State} (items : u.items = v.items)
    (sections : u.sections = v.sections) (tables : u.tables = v.tables)
    (decayLeft : u.decayLeft = v.decayLeft) (claims : u.claims = v.claims)
    (contexts : u.contexts = v.contexts) (watch : u.watch = v.watch)
    (campaign : u.campaign = v.campaign) (clock : u.clock = v.clock)
    (clockPart : u.clockPart = v.clockPart) (forces : u.forces = v.forces)
    (lampPhase : u.lampPhase = v.lampPhase) (receiver : u.receiver = v.receiver)
    (gathered : u.gathered = v.gathered) (rxQueue : u.rxQueue = v.rxQueue)
    (sendQueue : u.sendQueue = v.sendQueue) (lastFrame : u.lastFrame = v.lastFrame)
    (ltxSent : u.ltxSent = v.ltxSent) (port : u.port = v.port) (sdoTrace : u.sdoTrace = v.sdoTrace)
    (events : u.events = v.events) (settings : u.settings = v.settings)
    (resetAsserted : u.resetAsserted = v.resetAsserted) (freeIndex : u.freeIndex = v.freeIndex)
    (pending : u.pending = v.pending) : u = v := by
  cases u; cases v; simp_all

/-! ### Numbers -/

/-- A search in ascending order finds the least number that a test holds of. -/
theorem find_finRange_eq_some {n : Nat} {p : Fin n → Bool} {i : Fin n} :
    (List.finRange n).find? p = some i ↔ p i = true ∧ ∀ j : Fin n, j < i → p j = false := by
  rw [List.find?_eq_some_iff_getElem]
  constructor
  · rintro ⟨hp, k, hk, he, hlt⟩
    refine ⟨hp, fun j hj => ?_⟩
    have hki : k = i.val := by
      have := congrArg Fin.val he
      simpa using this
    simpa using hlt j.val (hki ▸ hj)
  · rintro ⟨hp, hlt⟩
    refine ⟨hp, i.val, by simp, by simp, fun j hj => ?_⟩
    simpa using hlt ⟨j, Nat.lt_trans hj i.isLt⟩ hj

theorem find_finRange_eq_none {n : Nat} {p : Fin n → Bool} :
    (List.finRange n).find? p = none ↔ ∀ i : Fin n, p i = false := by
  rw [List.find?_eq_none]
  exact ⟨fun h i => by simpa using h i (List.mem_finRange i), fun h i _ => by simp [h i]⟩

@[simp] theorem secOf_val (S : SecId) : secOf S.val = some S := by simp [secOf]

theorem secOf_none {S : Nat} (h : 511 < S) : secOf S = none := by simp [secOf]; omega

@[simp] theorem idOf_val (x : Fin 16) : idOf x.val = some x := by simp [idOf]

theorem idOf_none {x : Nat} (h : 15 < x) : idOf x = none := by simp [idOf]; omega

@[simp] theorem lampOf_val (m : LampId) : lampOf m.val = some m := by simp [lampOf]

theorem lampOf_none {m : Nat} (h : 47 < m) : lampOf m = none := by simp [lampOf]; omega

/-! ### Sections read back -/

@[simp] theorem State.sec_setSec (S X : SecId) (x : SectionRec) :
    (s.setSec S x).sec X = if X = S then x else s.sec X := by
  unfold State.sec State.setSec
  by_cases h : X = S
  · subst h; simp
  · have : (S : Nat) ≠ X := fun e => h (Fin.ext e.symm)
    simp [h, this]

@[simp] theorem State.sec_modSec (S X : SecId) (f : SectionRec → SectionRec) :
    (s.modSec S f).sec X = if X = S then f (s.sec S) else s.sec X := by
  rw [State.modSec, State.sec_setSec]

@[simp] theorem State.sec_mapSecs (X : SecId) (f : SecId → SectionRec → SectionRec) :
    (s.mapSecs f).sec X = f X (s.sec X) := by
  show (s.mapSecs f).sections[(X : Nat)] = _
  rw [State.mapSecs]
  exact getElem_tabulate _ _ _

@[simp] theorem State.sec_bump (S X : SecId) :
    (s.bump S).sec X =
      if X = S then { s.sec S with generation := (s.sec S).generation + 1 } else s.sec X := by
  rw [State.bump, State.sec_modSec]

@[simp] theorem State.sec_bumpWhere (p : SecId → Bool) (X : SecId) :
    (s.bumpWhere p).sec X =
      if p X then { s.sec X with generation := (s.sec X).generation + 1 } else s.sec X := by
  rw [State.bumpWhere, State.sec_mapSecs]

@[simp] theorem State.sec_enter (S X : SecId) (st : SecState) :
    (s.enter S st).sec X =
      if X = S then
        { s.sec S with state := st, generation := (s.sec S).generation + 1 }
      else s.sec X := by
  rw [State.enter, State.sec_modSec]

@[simp] theorem State.sec_joinChain (S X : SecId) (t : Tag) :
    (s.joinChain S t).sec X =
      if X = S then { s.sec S with chain := (s.sec S).chain ++ [t] } else s.sec X := by
  rw [State.joinChain, State.sec_modSec]

@[simp] theorem State.sec_leaveChain (S X : SecId) (t : Tag) :
    (s.leaveChain S t).sec X =
      if X = S then { s.sec S with chain := (s.sec S).chain.filter fun u => u ≠ t } else s.sec X := by
  rw [State.leaveChain, State.sec_modSec]

/-- The least section that a test holds of. -/
theorem State.findSec_eq_some {p : SectionRec → Bool} {S : SecId} :
    s.findSec p = some S ↔ p (s.sec S) = true ∧ ∀ X : SecId, X < S → p (s.sec X) = false :=
  find_finRange_eq_some

theorem State.findSec_eq_none {p : SectionRec → Bool} :
    s.findSec p = none ↔ ∀ X : SecId, p (s.sec X) = false :=
  find_finRange_eq_none

/-! ### Contexts and tables read back -/

@[simp] theorem State.ctx_setCtx (x y : CtxId) (c : Option Context) :
    (s.setCtx x c).ctx y = if y = x then c else s.ctx y := by
  unfold State.ctx State.setCtx
  by_cases h : y = x
  · subst h; simp
  · have : (x : Nat) ≠ y := fun e => h (Fin.ext e.symm)
    simp [h, this]

@[simp] theorem State.ctx_modCtx (x y : CtxId) (f : Context → Context) :
    (s.modCtx x f).ctx y = if y = x then (s.ctx x).map f else s.ctx y := by
  rw [State.modCtx, State.ctx_setCtx]

@[simp] theorem State.table_setTable (w v : Wand) (t : CandTable) :
    (s.setTable w t).table v = if v = w then t else s.table v := by
  unfold State.table State.setTable
  by_cases h : v = w
  · subst h; simp
  · have : (w : Nat) ≠ v := fun e => h (Fin.ext e.symm)
    simp [h, this]

/-- A release makes each WAITING entry of the wand CONFIRMED with its hold set (R41). -/
@[simp] theorem State.table_releaseWaiting (w v : Wand) :
    (s.releaseWaiting w).table v =
      if v = w then
        { s.table w with
          entries := tabulate 24 fun i => (s.table w).entries[i].release s.settings.holdTicks }
      else s.table v := by
  rw [State.releaseWaiting, State.table_setTable]

/-- The walker of a context, read off `walkOf`. -/
theorem State.walkOf_eq_some {w : Wand} {x : CtxId} (h : s.walkOf w = some x) :
    ∃ c, s.ctx x = some c ∧ c.walker = some w := by
  have := List.find?_some h
  cases hc : s.ctx x with
  | none => simp [hc] at this
  | some c => exact ⟨c, rfl, by simpa [hc, Context.walkedBy] using this⟩

theorem State.walkOf_eq_none {w : Wand} (h : s.walkOf w = none) {x : CtxId} {c : Context}
    (hc : s.ctx x = some c) : c.walker ≠ some w := by
  rw [State.walkOf, List.find?_eq_none] at h
  simpa [hc, Context.walkedBy] using h x (List.mem_finRange x)

/-- The free context of lowest index (R48). -/
theorem State.freeCtx_eq_some {x : CtxId} :
    s.freeCtx = some x ↔ s.ctx x = none ∧ ∀ y : CtxId, y < x → s.ctx y ≠ none := by
  simp [State.freeCtx, find_finRange_eq_some, Option.ne_none_iff_isSome]

theorem State.freeCtx_eq_none : s.freeCtx = none ↔ ∀ y : CtxId, s.ctx y ≠ none := by
  simp [State.freeCtx, Option.ne_none_iff_isSome]

/-! ### Item records read back (R1) -/

/-- The record found for a tag carries it. -/
theorem State.item_tag {t : Tag} {r : Item} (h : s.item? t = some r) : r.tag = t := by
  simpa using List.find?_some h

theorem State.item_mem {t : Tag} {r : Item} (h : s.item? t = some r) : r ∈ s.items :=
  List.mem_of_find?_eq_some h

/-- Changing records without changing their tags changes what is found for each tag. -/
theorem State.item_modItems (p : Item → Bool) (f : Item → Item) (hf : ∀ r, (f r).tag = r.tag)
    (t : Tag) :
    (s.modItems p f).item? t = (s.item? t).map fun r => if p r then f r else r := by
  unfold State.item? State.modItems
  rw [List.find?_map]
  congr 1
  congr 1
  funext r
  simp only [Function.comp]
  split <;> simp [hf]

theorem State.item_modItem (t : Tag) (f : Item → Item) (hf : ∀ r, (f r).tag = r.tag) (t' : Tag) :
    (s.modItem t f).item? t' = if t' = t then (s.item? t).map f else s.item? t' := by
  rw [State.modItem, State.item_modItems _ _ _ hf]
  cases h : s.item? t' with
  | none => split <;> simp_all
  | some r =>
    have := s.item_tag h
    split <;> simp_all

theorem find_insertItem (r : Item) (t : Tag) (items : List Item)
    (h : ∀ q ∈ items, q.tag ≠ r.tag) :
    (insertItem r items).find? (fun q => q.tag = t) =
      if r.tag = t then some r else items.find? fun q => q.tag = t := by
  induction items with
  | nil => simp [insertItem, List.find?_cons]; split <;> simp_all
  | cons q rest ih =>
    have hq : q.tag ≠ r.tag := h q (by simp)
    have ih := ih fun p hp => h p (by simp [hp])
    unfold insertItem
    split
    · by_cases hr : r.tag = t <;> simp [hr, List.find?_cons]
    · by_cases hr : r.tag = t
      · have hqt : q.tag ≠ t := hr ▸ hq
        simp [hr] at ih
        simp [hqt, hr, ih]
      · simp [hr] at ih
        simp [List.find?_cons, hr, ih]

/-- A new record is found for its tag, and the others as before (R1). -/
theorem State.item_addItem (r : Item) (h : s.item? r.tag = none) (t : Tag) :
    (s.addItem r).item? t = if t = r.tag then some r else s.item? t := by
  unfold State.item? State.addItem
  rw [find_insertItem]
  · simp [eq_comm]
  · rw [State.item?, List.find?_eq_none] at h
    simpa using h

/-- The record of a tag dropped is gone, and the others are as before (R1). -/
theorem State.item_dropTag (t t' : Tag) :
    (s.dropItems fun q => q.tag = t).item? t' = if t' = t then none else s.item? t' := by
  unfold State.item? State.dropItems
  split
  · subst_vars
    simp [List.find?_filter]
  · rename_i h
    simp only [List.find?_filter]
    congr 1
    funext r
    by_cases hr : r.tag = t' <;> simp [hr, h]

/-! ### The item table stays in its canonical form (R1) -/

theorem insertItem_mem {r q : Item} {items : List Item} :
    q ∈ insertItem r items ↔ q = r ∨ q ∈ items := by
  induction items with
  | nil => simp [insertItem]
  | cons p rest ih =>
    unfold insertItem
    split
    · simp
    · simp [ih, or_left_comm]

theorem insertItem_length (r : Item) (items : List Item) :
    (insertItem r items).length = items.length + 1 := by
  induction items with
  | nil => rfl
  | cons p rest ih => unfold insertItem; split <;> simp [ih]

theorem insertItem_sorted {r : Item} {items : List Item}
    (h : items.Pairwise fun a b => a.tag.toNat < b.tag.toNat) (hr : ∀ q ∈ items, q.tag ≠ r.tag) :
    (insertItem r items).Pairwise fun a b => a.tag.toNat < b.tag.toNat := by
  induction items with
  | nil => simp [insertItem]
  | cons p rest ih =>
    rw [List.pairwise_cons] at h
    unfold insertItem
    split
    · rename_i hlt
      simp only [List.pairwise_cons, List.mem_cons, forall_eq_or_imp]
      exact ⟨⟨hlt, fun a ha => Nat.lt_trans hlt (h.1 a ha)⟩, h.1, h.2⟩
    · rename_i hge
      have hne : p.tag.toNat ≠ r.tag.toNat := fun e => hr p (by simp) (BitVec.eq_of_toNat_eq e)
      rw [List.pairwise_cons]
      refine ⟨fun a ha => ?_, ih h.2 fun q hq => hr q (by simp [hq])⟩
      rcases insertItem_mem.mp ha with rfl | ha
      · omega
      · exact h.1 a ha

/-- A record joins below the capacity, with a tag that no record carries. -/
theorem ItemsCanonical.addItem {s : State} (h : ItemsCanonical s.items) {r : Item}
    (hr : s.item? r.tag = none) (hn : s.items.length < 131072) :
    ItemsCanonical (s.addItem r).items := by
  rw [State.item?, List.find?_eq_none] at hr
  refine ⟨insertItem_sorted h.1 (by simpa using hr), ?_⟩
  rw [State.addItem, insertItem_length]
  omega

theorem ItemsCanonical.dropItems {s : State} (h : ItemsCanonical s.items) (p : Item → Bool) :
    ItemsCanonical (s.dropItems p).items :=
  ⟨h.1.filter _, Nat.le_trans (List.length_filter_le _ _) h.2⟩

theorem ItemsCanonical.modItems {s : State} (h : ItemsCanonical s.items) (p : Item → Bool)
    {f : Item → Item} (hf : ∀ r, (f r).tag = r.tag) : ItemsCanonical (s.modItems p f).items := by
  refine ⟨?_, by simpa [State.modItems] using h.2⟩
  rw [State.modItems]
  refine List.Pairwise.map _ (fun a b hab => ?_) h.1
  split <;> split <;> simpa [hf] using hab

/-- In a canonical item table a record is the one found for its tag. -/
theorem ItemsCanonical.item_eq {s : State} (h : ItemsCanonical s.items) {r : Item}
    (hr : r ∈ s.items) : s.item? r.tag = some r := by
  have : ∀ items : List Item, items.Pairwise (fun a b => a.tag.toNat < b.tag.toNat) → r ∈ items →
      items.find? (fun q => q.tag = r.tag) = some r := by
    intro items
    induction items with
    | nil => simp
    | cons p rest ih =>
      intro hs hm
      rw [List.pairwise_cons] at hs
      rcases List.mem_cons.mp hm with rfl | hm
      · simp
      · have : p.tag ≠ r.tag := fun e => Nat.lt_irrefl _ (e ▸ hs.1 r hm)
        simp [this, ih hs.2 hm]
  exact this _ h.1 hr

end Sys2Proof.Machine
end

