-- ==== Sys2Proof/Laws/Commands.lean ====
section
/-!
SUPPORT. How a command reaches its owner: what `carryOut`, `takeFrame` and `unlessReset` come to in each
case, the pin SDO, and what stays as it is in every operation of the walk engine and the confirmation unit.
-/

namespace Sys2Proof.Machine

/-! ### The three ways in -/

/-- A request that the port is free to carry out is carried out, and its response held (R193). -/
theorem carryOut_serves {s : State} {request : Instr} (h : s.Serves request) (code : Byte)
    (body : State → Reply) :
    carryOut request code body s = (body s).hold code s.lost := by
  obtain ⟨hr, hp⟩ := h
  unfold carryOut State.lost
  cases hport : s.port with
  | idle => simp [hr]
  | holding r l => simp [hr]
  | working r l => simp [hr, hp r l hport]

/-- A request that is served answers what its body gives. -/
theorem answers_of_body {s : State} {request : Instr} {code : Byte} {args : List Byte}
    {body : State → Reply} (he : exec request s = .next (carryOut request code body s))
    (hc : requestPacket request = some (code, args)) (h : s.Serves request) :
    Answers s request ((body s).hold code s.lost) (body s).status (body s).results :=
  ⟨by rw [he, carryOut_serves h], code, args, hc, rfl⟩

/-- A free port serves every request. -/
theorem State.serves_of_idle {s : State} (hr : s.resetAsserted = false) (hp : s.port = .idle)
    (request : Instr) : s.Serves request :=
  ⟨hr, fun r l h => by rw [hp] at h; cases h⟩

/-- The port serves the request that it took. -/
theorem State.serves_of_working {s : State} {request : Instr} {lost : Bool}
    (hr : s.resetAsserted = false) (hp : s.port = .working (.request request) lost) : s.Serves request :=
  ⟨hr, fun r l h => by rw [hp] at h; cases h; rfl⟩

/-- A frame that may be taken leaves the receive queue and is answered (R176, R177). -/
theorem takeFrame_takes {s : State} {frame : Instr} (h : s.Takes frame) (w : Wand) (kind : Byte)
    (body : State → Answer) :
    takeFrame frame w kind body s =
      answering w kind body (({ s with rxQueue := s.rxQueue.tail } : State).frameTaken w) := by
  obtain ⟨hr, hs, hq⟩ := h
  unfold takeFrame State.queuedFrame Config.sendLimit Config.maxReceive
  rcases hq with hq | hq
  · simp [hr, hq, hs]
  · cases hrx : s.rxQueue with
    | nil => simp [hrx] at hq
    | cons a rest =>
      have ha : a = frame := by simpa [hrx] using hq
      subst ha
      simp [hr, hs]

@[simp] theorem unlessReset_released {s : State} (h : s.resetAsserted = false)
    (body : State → State) : unlessReset body s = body s := by
  simp [unlessReset, h]

@[simp] theorem unlessReset_reset {s : State} (h : s.resetAsserted = true)
    (body : State → State) : unlessReset body s = s := by
  simp [unlessReset, h]

/-! ### The pin SDO and the packet in hand -/

/-- Once a transfer is over, SDO is in its high-impedance state (R192). -/
theorem State.sdoPin_over {s : State} {bytes : List Byte} (h : s.sdoTrace = sdoOver bytes) :
    s.sdoPin = .highImpedance := by
  simp [State.sdoPin, h, sdoOver]

/-- While RESET is asserted, SDO is in its high-impedance state (R198). -/
@[simp] theorem State.sdoPin_reset {s : State} (h : s.resetAsserted = true) :
    s.sdoPin = .highImpedance := by
  simp [State.sdoPin, h]

/-- What SDO carries in a transfer, byte by byte (R192). -/
theorem sdoOver_get (bytes : List Byte) (n : Nat) :
    (sdoOver bytes)[n]? =
      if n < bytes.length then bytes[n]?.map .driven
      else if n = bytes.length then some .highImpedance else none := by
  unfold sdoOver
  rcases Nat.lt_trichotomy n bytes.length with h | h | h
  · simp [h, List.getElem?_append_left]
  · simp [h]
  · have h' : ¬ n < bytes.length := by omega
    have h'' : n ≠ bytes.length := by omega
    simp [h', h'']
    omega

/-- A refused packet in hand is due, once no gathered frame is (R194). -/
theorem State.due_refusal {s : State} {code : Byte} {lost : Bool} (hg : s.gathered = [])
    (hp : s.port = .working (.malformed code) lost) : s.due = some (.refusal code lost) := by
  simp [State.due, hg, hp]

/-! ### What the walk engine and the confirmation unit leave as it is -/

/-- `u` differs from `s` at most in the item table, the sections, the candidate tables, the claim queue,
the walk contexts, the watch table, the event unit and the send queue. -/
structure SameOutside (s u : State) : Prop where
  decayLeft : u.decayLeft = s.decayLeft
  campaign : u.campaign = s.campaign
  clock : u.clock = s.clock
  clockPart : u.clockPart = s.clockPart
  forces : u.forces = s.forces
  lampPhase : u.lampPhase = s.lampPhase
  receiver : u.receiver = s.receiver
  gathered : u.gathered = s.gathered
  rxQueue : u.rxQueue = s.rxQueue
  lastFrame : u.lastFrame = s.lastFrame
  ltxSent : u.ltxSent = s.ltxSent
  port : u.port = s.port
  sdoTrace : u.sdoTrace = s.sdoTrace
  settings : u.settings = s.settings
  resetAsserted : u.resetAsserted = s.resetAsserted
  freeIndex : u.freeIndex = s.freeIndex
  pending : u.pending = s.pending

theorem SameOutside.refl (s : State) : SameOutside s s := by constructor <;> rfl

theorem SameOutside.trans {s t u : State} (h : SameOutside s t) (k : SameOutside t u) :
    SameOutside s u := by
  constructor <;> simp [h.1, h.2, h.3, h.4, h.5, h.6, h.7, h.8, h.9, h.10, h.11, h.12, h.13, h.14,
    h.15, h.16, h.17, k.1, k.2, k.3, k.4, k.5, k.6, k.7, k.8, k.9, k.10, k.11, k.12, k.13, k.14,
    k.15, k.16, k.17]

/-- Only the eight named parts need be given to know such a state. -/
theorem SameOutside.eq {s u : State} (h : SameOutside s u) :
    u = { s with
      items := u.items
      sections := u.sections
      tables := u.tables
      claims := u.claims
      contexts := u.contexts
      watch := u.watch
      events := u.events
      sendQueue := u.sendQueue } := by
  apply State.eq_of_fields <;> simp [h.1, h.2, h.3, h.4, h.5, h.6, h.7, h.8, h.9, h.10, h.11, h.12,
    h.13, h.14, h.15, h.16, h.17]

section Primitives
variable (s : State)

theorem State.setSec_same (S : SecId) (x : SectionRec) : SameOutside s (s.setSec S x) := by
  constructor <;> simp
theorem State.modSec_same (S : SecId) (f : SectionRec → SectionRec) : SameOutside s (s.modSec S f) := by
  constructor <;> simp
theorem State.mapSecs_same (f : SecId → SectionRec → SectionRec) : SameOutside s (s.mapSecs f) := by
  constructor <;> simp
theorem State.bump_same (S : SecId) : SameOutside s (s.bump S) := by
  constructor <;> simp
theorem State.bumpWhere_same (p : SecId → Bool) : SameOutside s (s.bumpWhere p) := by
  constructor <;> simp
theorem State.enter_same (S : SecId) (st : SecState) : SameOutside s (s.enter S st) := by
  constructor <;> simp
theorem State.joinChain_same (S : SecId) (t : Tag) : SameOutside s (s.joinChain S t) := by
  constructor <;> simp
theorem State.leaveChain_same (S : SecId) (t : Tag) : SameOutside s (s.leaveChain S t) := by
  constructor <;> simp
theorem State.addItem_same (r : Item) : SameOutside s (s.addItem r) := by
  constructor <;> simp
theorem State.dropItems_same (p : Item → Bool) : SameOutside s (s.dropItems p) := by
  constructor <;> simp
theorem State.modItems_same (p : Item → Bool) (f : Item → Item) : SameOutside s (s.modItems p f) := by
  constructor <;> simp
theorem State.modItem_same (t : Tag) (f : Item → Item) : SameOutside s (s.modItem t f) := by
  constructor <;> simp
theorem State.setCtx_same (x : CtxId) (c : Option Context) : SameOutside s (s.setCtx x c) := by
  constructor <;> simp
theorem State.modCtx_same (x : CtxId) (f : Context → Context) : SameOutside s (s.modCtx x f) := by
  constructor <;> simp
theorem State.setTable_same (w : Wand) (t : CandTable) : SameOutside s (s.setTable w t) := by
  constructor <;> simp
theorem State.releaseWaiting_same (w : Wand) : SameOutside s (s.releaseWaiting w) := by
  constructor <;> simp
theorem State.unclaim_same (w : Wand) : SameOutside s (s.unclaim w) := by
  constructor <;> simp
theorem State.makeReady_same (f : PartFrame) : SameOutside s (s.makeReady f) := by
  constructor <;> simp
theorem State.raise_same (k : EventKind) : SameOutside s (s.raise k) := by
  constructor <;> simp
end Primitives

end Sys2Proof.Machine
end

