-- ==== Sys2Proof/Laws/Engine.lean ====
section
/-!
SUPPORT. The walk engine and the confirmation unit touch only their own parts of the state, operation by
operation.
-/

namespace Sys2Proof.Machine

theorem SameOutside.ite {s t u : State} {p : Prop} [Decidable p] (h : SameOutside s t)
    (k : SameOutside s u) : SameOutside s (if p then t else u) := by
  split
  · exact h
  · exact k

variable (s : State)

theorem State.attend_same (S : SecId) : SameOutside s (s.attend S) := by
  unfold State.attend
  exact .ite (.refl s) ((s.modSec_same S _).trans (State.raise_same _ _))

theorem State.startWalk_same (x : CtxId) (S : SecId) (w : Wand) :
    SameOutside s (s.startWalk x S w) :=
  (s.setCtx_same x _).trans (State.modSec_same _ S _)

theorem State.resumeWalk_same (x : CtxId) (S : SecId) (w : Wand) :
    SameOutside s (s.resumeWalk x S w) :=
  (s.modCtx_same x _).trans (State.enter_same _ S _)

theorem State.grantNext_same (S : SecId) : SameOutside s (s.grantNext S) := by
  unfold State.grantNext
  split
  · exact .refl s
  · split
    · split
      · exact ((s.unclaim_same _).trans (State.resumeWalk_same _ _ _ _)).trans
          (State.makeReady_same _ _)
      · exact .refl s
    · split
      · exact ((s.unclaim_same _).trans (State.startWalk_same _ _ _ _)).trans
          (State.makeReady_same _ _)
      · exact .refl s

theorem State.suspend_same (x : CtxId) (c : Context) (w : Wand) :
    SameOutside s (s.suspend x c w) :=
  ((s.modCtx_same x _).trans (State.enter_same _ _ _)).trans (State.releaseWaiting_same _ _)

theorem State.tallySec_same (S : SecId) : SameOutside s (s.tallySec S) := by
  unfold State.tallySec
  have h := s.modItems_same (fun r => r.isHomeOf S) Item.tallied
  have k : SameOutside s (if (s.items.any fun r => r.isHomeOf S && r.tallyAttends) = true then
      (s.modItems (fun r => r.isHomeOf S) Item.tallied).attend S
      else s.modItems (fun r => r.isHomeOf S) Item.tallied) :=
    .ite (h.trans (State.attend_same _ S)) h
  exact .ite (k.trans (State.bump_same _ S)) k

theorem State.endWalk_same (x : CtxId) (S : SecId) (st : SecState) :
    SameOutside s (s.endWalk x S st) :=
  (s.setCtx_same x _).trans (State.modSec_same _ S _)

theorem State.releaseWalker_same (w : Option Wand) : SameOutside s (s.releaseWalker w) := by
  cases w with
  | none => exact .refl s
  | some w => exact s.releaseWaiting_same w

theorem State.completeWalk_same (x : CtxId) (c : Context) : SameOutside s (s.completeWalk x c) :=
  (((((s.tallySec_same c.sec).trans (State.modSec_same _ _ _)).trans (State.raise_same _ _)).trans
    (State.releaseWalker_same _ _)).trans (State.endWalk_same _ _ _ _)).trans
    (State.grantNext_same _ _)

theorem State.abandon_same (x : CtxId) (c : Context) : SameOutside s (s.abandon x c) := by
  unfold State.abandon
  have h := s.modItems_same (fun r => decide (r.tag ∈ c.run)) Item.returned
  have k := SameOutside.ite (p := c.run = []) h (h.trans (State.bump_same _ c.sec))
  refine SameOutside.trans ?_ (State.grantNext_same _ _)
  refine SameOutside.trans ?_ (State.endWalk_same _ _ _ _)
  cases c.walker with
  | none => exact k
  | some w => exact (k.trans (State.releaseWaiting_same _ w)).trans (State.makeReady_same _ _)

/-! ### Placement verdicts -/

theorem State.raiseCursor_same (x : CtxId) (c : Context) (new : Nat) :
    SameOutside s (s.raiseCursor x c new).1 := by
  unfold State.raiseCursor
  exact .ite ((s.modCtx_same x _).trans (State.raise_same _ _)) (s.modCtx_same x _)

theorem State.leavePlace_same (r : Item) : SameOutside s (s.leavePlace r) := by
  unfold State.leavePlace State.leaveChainOf
  split
  · split
    · exact s.leaveChain_same _ _
    · exact .refl s
  · split
    · split
      · exact s.modCtx_same _ _
      · exact .refl s
    · exact .refl s

theorem State.markConflict_same (r : Item) (S : SecId) : SameOutside s (s.markConflict r S) := by
  unfold State.markConflict
  exact .ite ((s.modItem_same _ _).trans (State.attend_same _ _)) (.refl s)

theorem judgeUnknown_same (c : Context) (t : Tag) : SameOutside s (judgeUnknown c t s).state := by
  unfold judgeUnknown State.adoptDue
  split
  · exact s.raise_same _
  · have h := (((s.addItem_same (provisional t c.sec c.cursor s.clock)).trans
      (State.joinChain_same _ c.sec t)).trans (State.attend_same _ c.sec)).trans
      (State.bump_same _ c.sec)
    exact .ite (h.trans (State.raise_same _ _)) h

theorem judgeProvisional_same (c : Context) (r : Item) :
    SameOutside s (judgeProvisional c r s).state := by
  unfold judgeProvisional
  split
  · exact s.modItem_same _ _
  · exact ((((s.leavePlace_same r).trans (State.modItem_same _ _ _)).trans
      (State.joinChain_same _ _ _)).trans (State.attend_same _ _)).trans (State.bumpWhere_same _ _)

theorem judgeForeign_same (c : Context) (H : SecId) (r : Item) :
    SameOutside s (judgeForeign c H r s).state := by
  unfold judgeForeign
  split
  · have h := (s.modItem_same r.tag Item.sighted).trans (State.markConflict_same _ r c.sec)
    exact .ite (h.trans (State.bump_same _ _)) h
  · exact (((((s.leavePlace_same r).trans (State.modItem_same _ _ _)).trans
      (State.joinChain_same _ _ _)).trans (State.attend_same _ _)).trans
      (State.markConflict_same _ _ _)).trans (State.bumpWhere_same _ _)

theorem judgeAgain_same (c : Context) (r : Item) : SameOutside s (judgeAgain c r s).state := by
  unfold judgeAgain
  have h := (s.modItem_same r.tag Item.sighted).trans (State.markConflict_same _ r c.sec)
  exact .ite (h.trans (State.bump_same _ _)) h

theorem State.findAtHome_same (c : Context) (t : Tag) (st : CountState)
    (prior : Option CountState) : SameOutside s (s.findAtHome c t st prior) :=
  s.modItem_same _ _

theorem State.passItems_same (S : SecId) (tags : List Tag) : SameOutside s (s.passItems S tags) :=
  s.modItems_same _ _

theorem stepB_same (x : CtxId) (c : Context) (t : Tag) (prior : CountState) (broken : Bool) :
    SameOutside s (stepB x c t prior broken s).state := by
  unfold stepB
  simp only
  split
  · split
    · exact ((s.findAtHome_same _ _ _ _).trans (State.passItems_same _ _ _)).trans
        (State.raiseCursor_same _ _ _ _)
    · exact (s.findAtHome_same _ _ _ _).trans (State.modCtx_same _ _ _)
  · split
    · exact s.findAtHome_same _ _ _ _
    · exact (s.findAtHome_same _ _ _ _).trans (State.attend_same _ _)

theorem resync_same (x : CtxId) (c : Context) (run : List Tag) (k : Nat) :
    SameOutside s (resync x c run k s).state :=
  (((s.passItems_same _ _).trans (State.modItems_same _ _ _)).trans (State.modCtx_same _ _ _)).trans
    (State.raiseCursor_same _ _ _ _)

theorem continueRun_same (x : CtxId) (c : Context) (t : Tag) (prior : CountState) :
    SameOutside s (continueRun x c t prior s).state := by
  unfold continueRun
  have h := (s.findAtHome_same c t .held (some prior)).trans
    (State.modCtx_same _ x fun d => { d with run := c.run ++ [t] })
  simp only
  split
  · exact h
  · exact h.trans (resync_same _ _ _ _ _)

theorem State.breakRun_same (x : CtxId) (c : Context) : SameOutside s (s.breakRun x c) :=
  ((s.modItems_same _ _).trans (State.modCtx_same _ _ _)).trans (State.attend_same _ _)

theorem placeFresh_same (x : CtxId) (c : Context) (t : Tag) (prior : CountState) :
    SameOutside s (placeFresh x c t prior s).state := by
  unfold placeFresh
  split
  · exact stepB_same _ _ _ _ _ _
  · simp only
    split
    · exact continueRun_same _ _ _ _ _
    · exact (s.breakRun_same x c).trans (stepB_same _ _ _ _ _ _)

theorem judgeFresh_same (x : CtxId) (c : Context) (r : Item) :
    SameOutside s (judgeFresh x c r s).state :=
  ((((s.leavePlace_same r).trans (State.modItem_same _ _ _)).trans
    (placeFresh_same _ _ _ _ _)).trans (State.markConflict_same _ _ _)).trans
    (State.bumpWhere_same _ _)

theorem judgeWalk_same (x : CtxId) (c : Context) (t : Tag) :
    SameOutside s (judgeWalk x c t s).state := by
  unfold judgeWalk
  split
  · exact s.completeWalk_same x c
  · split
    · exact judgeUnknown_same _ _ _
    · split
      · exact judgeProvisional_same _ _ _
      · split
        · exact judgeForeign_same _ _ _ _
        · split
          · exact judgeAgain_same _ _ _
          · exact judgeFresh_same _ _ _ _

/-- A judgement keeps everything outside the walk engine's own parts (R71). -/
theorem judge_same (x : CtxId) (t : Tag) : SameOutside s (judge x t s).state := by
  unfold judge
  split
  · exact judgeWalk_same _ _ _ _
  · exact .refl s

/-- A judgement's verdict is MARKER exactly when the tag is the end marker of the walked section
(R75). -/
theorem judge_marker {x : CtxId} {c : Context} {s : State} (h : s.ctx x = some c) (t : Tag) :
    (judge x t s).outcome.verdict = .marker ↔ (s.sec c.sec).endMarker = some t := by
  have place : ∀ (prior : CountState) (u : State), (placeFresh x c t prior u).verdict ≠ .marker := by
    intro prior u
    have hb : ∀ (c' : Context) (b : Bool) (v : State), (stepB x c' t prior b v).verdict ≠ .marker := by
      intro c' b v
      unfold stepB
      simp only
      split
      · split <;> simp
      · split <;> simp
    unfold placeFresh
    split
    · exact hb _ _ _
    · simp only
      split
      · unfold continueRun resync
        simp only
        split <;> simp
      · exact hb _ _ _
  simp only [judge, h, judgeWalk]
  split
  · simp_all [Sighting.plain]
  · rename_i hm
    simp only [hm, iff_false]
    split
    · unfold judgeUnknown
      split <;> simp [Sighting.plain]
    · rename_i r hr
      have ht := s.item_tag hr
      split
      · unfold judgeProvisional
        split <;> simp [Sighting.plain]
      · split
        · unfold judgeForeign
          split <;> simp [Sighting.plain]
        · split
          · simp [judgeAgain, Sighting.plain]
          · simp only [judgeFresh, ht]
            exact place _ _

/-! ### The drain and the close of a revision -/

theorem drainPark_same (x : CtxId) (tags : List Tag) :
    ∀ s : State, SameOutside s (drainPark x tags s).state := by
  induction tags with
  | nil => exact SameOutside.refl
  | cons t rest ih =>
    intro s
    unfold drainPark
    have h := (s.modCtx_same x fun c => { c with park := rest }).trans (judge_same _ x t)
    simp only
    split
    · exact h
    · exact h.trans (ih _)

theorem drainWaiting_same (x : CtxId) (w : Wand) (order : List (Fin 24)) :
    ∀ s : State, SameOutside s (drainWaiting x w order s) := by
  induction order with
  | nil => exact SameOutside.refl
  | cons i rest ih =>
    intro s
    unfold drainWaiting
    simp only
    split
    · rename_i tag a f _
      have h := (s.setTable_same w { s.table w with
        entries := (s.table w).entries.set i (.confirmed tag s.settings.holdTicks a f) }).trans
        (judge_same _ x tag)
      split
      · exact h
      · exact h.trans (ih _)
    · exact ih s

theorem State.drain_same (x : CtxId) (c : Context) : SameOutside s (s.drain x c).1 := by
  unfold State.drain
  have h := drainPark_same x c.park s
  simp only
  split
  · split
    · exact h.trans (drainWaiting_same _ _ _ _)
    · exact h
  · exact h

/-- Applying a parked tag keeps everything outside the walk engine's own parts (R95). -/
theorem applyParked_same (x : CtxId) (t : Tag) : SameOutside s (applyParked x s t) :=
  (s.modCtx_same x _).trans (judge_same _ x t)

/-- Applying a WAITING entry keeps everything outside the walk engine's own parts (R95). -/
theorem applyWaiting_same (x : CtxId) (w : Wand) (i : Fin 24) :
    SameOutside s (applyWaiting x w s i) := by
  unfold applyWaiting
  split
  · exact (s.setTable_same w _).trans (judge_same _ x _)
  · exact .refl s

/-- The close of a revision keeps everything outside the walk engine's own parts (R16). -/
theorem State.closeRevision_same (S : SecId) : SameOutside s (s.closeRevision S).1 := by
  unfold State.closeRevision
  have h := (s.modSec_same S fun r => { r with revision := none }).trans (State.bump_same _ S)
  have k := SameOutside.ite (p := (s.sec S).state = .empty) (h.trans (State.enter_same _ S .ready)) h
  simp only
  split
  · exact k
  · split
    · exact k
    · exact k.trans (State.drain_same _ _ _)

/-! ### Reads -/

theorem State.matchWatch_same (w : Wand) (t : Tag) : SameOutside s (s.matchWatch w t).1 := by
  unfold State.matchWatch
  split
  · exact .refl s
  · constructor <;> rfl

theorem State.deliver_same (w : Wand) (i : Fin 24) (tag : Tag) :
    SameOutside s (s.deliver w i tag).state := by
  unfold State.deliver State.deferEntry
  split
  · exact .refl s
  · split
    · exact .refl s
    · split
      · exact judgeWalk_same _ _ _ _
      · split
        · exact s.modCtx_same _ _
        · exact s.setTable_same _ _

theorem State.confirmEntry_same (w : Wand) (i : Fin 24) (tag : Tag) (a : Nat) :
    SameOutside s (s.confirmEntry w i tag a).state :=
  ((s.setTable_same w _).trans (State.matchWatch_same _ w tag)).trans (State.deliver_same _ w i tag)

theorem readOne_same (w : Wand) (r : TagRead) : SameOutside s (readOne w r s).state := by
  unfold readOne readHeld readNew
  simp only
  split
  · exact .refl s
  · split
    · split
      · split
        · exact s.confirmEntry_same _ _ _ _
        · exact s.setTable_same _ _
      · exact s.setTable_same _ _
      · exact .refl s
      · exact .refl s
    · split
      · exact s.raise_same _
      · split
        · exact (s.setTable_same _ _).trans (State.confirmEntry_same _ _ _ _ _)
        · exact s.setTable_same _ _

/-- The reads of a frame keep everything outside the confirmation unit, the watch table and the walk
engine (R32). -/
theorem readAll_same (w : Wand) (reads : List TagRead) :
    ∀ s : State, SameOutside s (readAll w reads s).state := by
  induction reads with
  | nil => exact SameOutside.refl
  | cons r rest ih => exact fun s => (readOne_same s w r).trans (ih _)

/-! ### The state in which a taken frame is processed -/

/-- The state in which the processing of a taken frame begins, its notices kept apart from the send
queue (R57, R176). -/
def State.begun (w : Wand) : State :=
  { ({ s with rxQueue := s.rxQueue.tail } : State).frameTaken w with sendQueue := [] }

/-- Only the lease of the walk whose walker the wand is differs (R57). -/
@[simp] theorem State.ctx_begun (w : Wand) (x : CtxId) : (s.begun w).ctx x = s.leaseLoaded w x := by
  have h : (s.begun w).ctx x = (({ s with rxQueue := s.rxQueue.tail } : State).frameTaken w).ctx x :=
    rfl
  rw [h]
  unfold State.frameTaken State.loadLeaseOf State.leaseLoaded
  have hw : ({ s with
      rxQueue := s.rxQueue.tail, lastFrame := s.lastFrame.set w (some s.clock) } : State).walkOf w =
      s.walkOf w := rfl
  simp only [hw]
  cases s.walkOf w with
  | none => rfl
  | some y =>
    rw [State.ctx_modCtx]
    by_cases hx : x = y
    · subst hx; simp; rfl
    · simp [hx, Ne.symm hx]; rfl

theorem State.begun_eq (w : Wand) :
    s.begun w = { s with
      contexts := (s.begun w).contexts
      lastFrame := s.lastFrame.set w (some s.clock)
      rxQueue := s.rxQueue.tail
      sendQueue := [] } := by
  unfold State.begun State.frameTaken State.loadLeaseOf
  split <;> rfl

/-- Loading a lease moves no walker. -/
@[simp] theorem State.walkOf_begun (w v : Wand) : (s.begun w).walkOf v = s.walkOf v := by
  unfold State.walkOf
  congr 1
  funext x
  rw [State.ctx_begun]
  unfold State.leaseLoaded
  split <;> cases s.ctx x <;> rfl

@[simp] theorem State.freeCtx_begun (w : Wand) : (s.begun w).freeCtx = s.freeCtx := by
  unfold State.freeCtx
  congr 1
  funext x
  rw [State.ctx_begun]
  unfold State.leaseLoaded
  split <;> cases s.ctx x <;> rfl

@[simp] theorem State.begun_items (w : Wand) : (s.begun w).items = s.items := by
  rw [State.begun_eq]
@[simp] theorem State.begun_sections (w : Wand) : (s.begun w).sections = s.sections := by
  rw [State.begun_eq]
@[simp] theorem State.begun_tables (w : Wand) : (s.begun w).tables = s.tables := by
  rw [State.begun_eq]
@[simp] theorem State.begun_decayLeft (w : Wand) : (s.begun w).decayLeft = s.decayLeft := by
  rw [State.begun_eq]
@[simp] theorem State.begun_claims (w : Wand) : (s.begun w).claims = s.claims := by
  rw [State.begun_eq]
@[simp] theorem State.begun_watch (w : Wand) : (s.begun w).watch = s.watch := by
  rw [State.begun_eq]
@[simp] theorem State.begun_campaign (w : Wand) : (s.begun w).campaign = s.campaign := by
  rw [State.begun_eq]
@[simp] theorem State.begun_clock (w : Wand) : (s.begun w).clock = s.clock := by
  rw [State.begun_eq]
@[simp] theorem State.begun_clockPart (w : Wand) : (s.begun w).clockPart = s.clockPart := by
  rw [State.begun_eq]
@[simp] theorem State.begun_forces (w : Wand) : (s.begun w).forces = s.forces := by
  rw [State.begun_eq]
@[simp] theorem State.begun_lampPhase (w : Wand) : (s.begun w).lampPhase = s.lampPhase := by
  rw [State.begun_eq]
@[simp] theorem State.begun_receiver (w : Wand) : (s.begun w).receiver = s.receiver := by
  rw [State.begun_eq]
@[simp] theorem State.begun_gathered (w : Wand) : (s.begun w).gathered = s.gathered := by
  rw [State.begun_eq]
@[simp] theorem State.begun_ltxSent (w : Wand) : (s.begun w).ltxSent = s.ltxSent := by
  rw [State.begun_eq]
@[simp] theorem State.begun_port (w : Wand) : (s.begun w).port = s.port := by
  rw [State.begun_eq]
@[simp] theorem State.begun_sdoTrace (w : Wand) : (s.begun w).sdoTrace = s.sdoTrace := by
  rw [State.begun_eq]
@[simp] theorem State.begun_events (w : Wand) : (s.begun w).events = s.events := by
  rw [State.begun_eq]
@[simp] theorem State.begun_settings (w : Wand) : (s.begun w).settings = s.settings := by
  rw [State.begun_eq]
@[simp] theorem State.begun_resetAsserted (w : Wand) : (s.begun w).resetAsserted = s.resetAsserted := by
  rw [State.begun_eq]
@[simp] theorem State.begun_freeIndex (w : Wand) : (s.begun w).freeIndex = s.freeIndex := by
  rw [State.begun_eq]
@[simp] theorem State.begun_pending (w : Wand) : (s.begun w).pending = s.pending := by
  rw [State.begun_eq]
@[simp] theorem State.begun_sendQueue (w : Wand) : (s.begun w).sendQueue = [] := rfl
@[simp] theorem State.begun_rxQueue (w : Wand) : (s.begun w).rxQueue = s.rxQueue.tail := by
  rw [State.begun_eq]
@[simp] theorem State.begun_lastFrame (w : Wand) :
    (s.begun w).lastFrame = s.lastFrame.set w (some s.clock) := by
  rw [State.begun_eq]
@[simp] theorem State.begun_sec_eq (w : Wand) (X : SecId) :
    (s.begun w).sec X = s.sec X := by
  rw [State.begun_eq]; rfl
@[simp] theorem State.begun_length_eq (w : Wand) (X : SecId) :
    (s.begun w).length X = s.length X := by
  rw [State.begun_eq]; rfl
@[simp] theorem State.begun_ordinal_eq (w : Wand) (X : SecId) (a : Tag) :
    (s.begun w).ordinal X a = s.ordinal X a := by
  rw [State.begun_eq]; rfl
@[simp] theorem State.begun_item_eq (w : Wand) (a : Tag) :
    (s.begun w).item? a = s.item? a := by
  rw [State.begun_eq]; rfl
@[simp] theorem State.begun_unlisted_eq (w : Wand) :
    (s.begun w).unlisted = s.unlisted := by
  rw [State.begun_eq]; rfl
@[simp] theorem State.begun_table_eq (w : Wand) (v : Wand) :
    (s.begun w).table v = s.table v := by
  rw [State.begun_eq]; rfl
@[simp] theorem State.begun_waitsFor_eq (w : Wand) (v : Wand) :
    (s.begun w).waitsFor v = s.waitsFor v := by
  rw [State.begun_eq]; rfl
@[simp] theorem State.begun_place_eq (w : Wand) (v : Wand) :
    (s.begun w).place v = s.place v := by
  rw [State.begun_eq]; rfl
/-- A frame that may be taken is taken, and its answer is what its processing gives (R176 to R178). -/
theorem taken_of_body {s : State} {frame : Instr} {w : Wand} {kind : Byte} {payload : List Byte}
    {body : State → Answer} (he : exec frame s = .next (takeFrame frame w kind body s))
    (hf : wandFrame frame = some (w, kind, payload)) (h : s.Takes frame)
    (hk : SameOutside (s.begun w) (body (s.begun w)).state) :
    Taken s frame
      ((body (s.begun w)).state.sending (s.sendQueue ++
        .answer w kind (body (s.begun w)).code (body (s.begun w)).fields ::
          (body (s.begun w)).state.sendQueue))
      (body (s.begun w)).code (body (s.begun w)).fields (body (s.begun w)).state.sendQueue := by
  refine ⟨?_, ?_, w, kind, payload, hf, ?_, rfl⟩
  · rw [he, takeFrame_takes h]
    have hs : (({ s with rxQueue := s.rxQueue.tail } : State).frameTaken w).sendQueue =
        s.sendQueue := by
      unfold State.frameTaken State.loadLeaseOf
      split <;> rfl
    unfold answering
    rw [hs]
    rfl
  · show (body (s.begun w)).state.rxQueue = _
    rw [hk.rxQueue, State.begun_eq]
  · show (body (s.begun w)).state.lastFrame = _
    rw [hk.lastFrame, State.begun_eq]

end Sys2Proof.Machine
end

