-- ==== Sys2Proof/Laws/Drain.lean ====
section
/-!
SUPPORT. What a judgement that does not complete the walk leaves of walks, sections, tables and queues
(`WalksKept`), and the drain as folds of `applyParked` and `applyWaiting` (R95, R97).
-/

namespace Sys2Proof.Machine

/-- What of a context a judgement keeps: section, walker, park queue and lease. -/
def Context.lasting (c : Context) : SecId × Option Wand × List Tag × Option Nat :=
  (c.sec, c.walker, c.park, c.lease)

/-- What of a section a judgement keeps: all but chain, attention and generation. -/
def SectionRec.settled (x : SectionRec) : SectionRec :=
  { x with chain := [], attention := false, generation := 0 }

/-- `u` has the walks of `s`: contexts but for cursor, run and mark, sections but for chain, attention
and generation, and the tables and queues. -/
structure WalksKept (s u : State) : Prop where
  ctx : ∀ y, (u.ctx y).map Context.lasting = (s.ctx y).map Context.lasting
  sec : ∀ X, (u.sec X).settled = (s.sec X).settled
  tables : u.tables = s.tables
  claims : u.claims = s.claims
  sendQueue : u.sendQueue = s.sendQueue
  watch : u.watch = s.watch

variable {s : State}

theorem WalksKept.refl (s : State) : WalksKept s s := by constructor <;> intros <;> rfl

theorem WalksKept.trans {s t u : State} (h : WalksKept s t) (k : WalksKept t u) : WalksKept s u where
  ctx y := (k.ctx y).trans (h.ctx y)
  sec X := (k.sec X).trans (h.sec X)
  tables := k.tables.trans h.tables
  claims := k.claims.trans h.claims
  sendQueue := k.sendQueue.trans h.sendQueue
  watch := k.watch.trans h.watch

theorem WalksKept.ite {s t u : State} {p : Prop} [Decidable p] (h : WalksKept s t)
    (k : WalksKept s u) : WalksKept s (if p then t else u) := by split <;> assumption

/-! ### The updates -/

theorem State.modSec_kept (s : State) (S : SecId) (f : SectionRec → SectionRec)
    (hf : ∀ x, (f x).settled = x.settled) : WalksKept s (s.modSec S f) := by
  constructor <;> intros <;> simp
  split <;> simp_all

theorem State.mapSecs_kept (s : State) (f : SecId → SectionRec → SectionRec)
    (hf : ∀ X x, (f X x).settled = x.settled) : WalksKept s (s.mapSecs f) := by
  constructor <;> intros <;> simp [hf]

theorem State.bump_kept (s : State) (S : SecId) : WalksKept s (s.bump S) :=
  s.modSec_kept S _ fun _ => rfl

theorem State.bumpWhere_kept (s : State) (p : SecId → Bool) : WalksKept s (s.bumpWhere p) :=
  s.mapSecs_kept _ fun _ _ => by split <;> rfl

theorem State.joinChain_kept (s : State) (S : SecId) (t : Tag) : WalksKept s (s.joinChain S t) :=
  s.modSec_kept S _ fun _ => rfl

theorem State.leaveChain_kept (s : State) (S : SecId) (t : Tag) : WalksKept s (s.leaveChain S t) :=
  s.modSec_kept S _ fun _ => rfl

theorem State.addItem_kept (s : State) (r : Item) : WalksKept s (s.addItem r) := by
  constructor <;> intros <;> simp

theorem State.modItems_kept (s : State) (p : Item → Bool) (f : Item → Item) :
    WalksKept s (s.modItems p f) := by
  constructor <;> intros <;> simp

theorem State.modItem_kept (s : State) (t : Tag) (f : Item → Item) : WalksKept s (s.modItem t f) :=
  s.modItems_kept _ f

theorem State.raise_kept (s : State) (k : EventKind) : WalksKept s (s.raise k) := by
  constructor <;> intros <;> simp

theorem State.modCtx_kept (s : State) (x : CtxId) (f : Context → Context)
    (hf : ∀ c, (f c).lasting = c.lasting) : WalksKept s (s.modCtx x f) := by
  constructor <;> intros <;> simp
  split
  · subst_vars; simp [Function.comp_def, hf]
  · rfl

theorem State.attend_kept (s : State) (S : SecId) : WalksKept s (s.attend S) := by
  unfold State.attend
  split
  · exact .refl s
  · exact (s.modSec_kept S (fun x => { x with attention := true }) fun _ => rfl).trans
      (State.raise_kept _ _)

/-! ### The judgement -/

theorem State.raiseCursor_kept (s : State) (x : CtxId) (c : Context) (new : Nat) :
    WalksKept s (s.raiseCursor x c new).1 := by
  unfold State.raiseCursor
  have h := s.modCtx_kept x (fun d => { d with
    cursor := new
    markHit := d.markHit || (!c.markHit && (s.sec c.sec).mark.any fun m => c.cursor < m && m ≤ new) })
    fun _ => rfl
  exact .ite (h.trans (State.raise_kept _ _)) h

theorem State.leavePlace_kept (s : State) (r : Item) : WalksKept s (s.leavePlace r) := by
  unfold State.leavePlace State.leaveChainOf
  split
  · split
    · exact s.leaveChain_kept _ _
    · exact .refl s
  · split
    · split
      · exact s.modCtx_kept _ _ fun _ => rfl
      · exact .refl s
    · exact .refl s

theorem State.markConflict_kept (s : State) (r : Item) (S : SecId) :
    WalksKept s (s.markConflict r S) := by
  unfold State.markConflict
  exact .ite ((s.modItem_kept _ _).trans (State.attend_kept _ _)) (.refl s)

theorem judgeUnknown_kept (c : Context) (t : Tag) : WalksKept s (judgeUnknown c t s).state := by
  unfold judgeUnknown State.adoptDue
  split
  · exact s.raise_kept _
  · have h := (((s.addItem_kept (provisional t c.sec c.cursor s.clock)).trans
      (State.joinChain_kept _ c.sec t)).trans (State.attend_kept _ c.sec)).trans
      (State.bump_kept _ c.sec)
    exact .ite (h.trans (State.raise_kept _ _)) h

theorem judgeProvisional_kept (c : Context) (r : Item) :
    WalksKept s (judgeProvisional c r s).state := by
  unfold judgeProvisional
  split
  · exact s.modItem_kept _ _
  · exact ((((s.leavePlace_kept r).trans (State.modItem_kept _ _ _)).trans
      (State.joinChain_kept _ _ _)).trans (State.attend_kept _ _)).trans (State.bumpWhere_kept _ _)

theorem judgeForeign_kept (c : Context) (H : SecId) (r : Item) :
    WalksKept s (judgeForeign c H r s).state := by
  unfold judgeForeign
  split
  · have h := (s.modItem_kept r.tag Item.sighted).trans (State.markConflict_kept _ r c.sec)
    exact .ite (h.trans (State.bump_kept _ _)) h
  · exact (((((s.leavePlace_kept r).trans (State.modItem_kept _ _ _)).trans
      (State.joinChain_kept _ _ _)).trans (State.attend_kept _ _)).trans
      (State.markConflict_kept _ _ _)).trans (State.bumpWhere_kept _ _)

theorem judgeAgain_kept (c : Context) (r : Item) : WalksKept s (judgeAgain c r s).state := by
  unfold judgeAgain
  have h := (s.modItem_kept r.tag Item.sighted).trans (State.markConflict_kept _ r c.sec)
  exact .ite (h.trans (State.bump_kept _ _)) h

theorem stepB_kept (s : State) (x : CtxId) (c : Context) (t : Tag) (prior : CountState)
    (broken : Bool) : WalksKept s (stepB x c t prior broken s).state := by
  unfold stepB State.findAtHome State.passItems
  simp only
  split
  · split
    · exact ((s.modItem_kept _ _).trans (State.modItems_kept _ _ _)).trans
        (State.raiseCursor_kept _ _ _ _)
    · exact (s.modItem_kept _ _).trans (State.modCtx_kept _ _ _ fun _ => rfl)
  · split
    · exact s.modItem_kept _ _
    · exact (s.modItem_kept _ _).trans (State.attend_kept _ _)

theorem continueRun_kept (s : State) (x : CtxId) (c : Context) (t : Tag) (prior : CountState) :
    WalksKept s (continueRun x c t prior s).state := by
  unfold continueRun resync State.findAtHome State.passItems
  have h := (s.modItem_kept t fun q =>
      { q with count := .held, found := some ⟨c.sec, c.cursor, s.clock⟩, prior := some prior }).trans
    (State.modCtx_kept _ x (fun d => { d with run := c.run ++ [t] }) fun _ => rfl)
  simp only
  split
  · exact h
  · exact (((h.trans (State.modItems_kept _ _ _)).trans (State.modItems_kept _ _ _)).trans
      (State.modCtx_kept _ x (fun d => { d with run := [] }) fun _ => rfl)).trans
      (State.raiseCursor_kept _ _ _ _)

theorem State.breakRun_kept (s : State) (x : CtxId) (c : Context) : WalksKept s (s.breakRun x c) :=
  ((s.modItems_kept _ _).trans (State.modCtx_kept _ x (fun d => { d with run := [] })
    fun _ => rfl)).trans (State.attend_kept _ _)

theorem placeFresh_kept (s : State) (x : CtxId) (c : Context) (t : Tag) (prior : CountState) :
    WalksKept s (placeFresh x c t prior s).state := by
  unfold placeFresh
  split
  · exact stepB_kept _ _ _ _ _ _
  · simp only
    split
    · exact continueRun_kept _ _ _ _ _
    · exact (s.breakRun_kept x c).trans (stepB_kept _ _ _ _ _ _)

/-- A judgement that does not complete the walk keeps every walk and queue (R71, R75). -/
theorem judge_kept {x : CtxId} {c : Context} {t : Tag} (h : s.ctx x = some c)
    (hm : (s.sec c.sec).endMarker ≠ some t) : WalksKept s (judge x t s).state := by
  simp only [judge, h, judgeWalk, hm, if_false]
  split
  · exact judgeUnknown_kept _ _
  · split
    · exact judgeProvisional_kept _ _
    · split
      · exact judgeForeign_kept _ _ _
      · split
        · exact judgeAgain_kept _ _
        · exact ((((s.leavePlace_kept _).trans (State.modItem_kept _ _ _)).trans
            (placeFresh_kept _ _ _ _ _)).trans (State.markConflict_kept _ _ _)).trans
            (State.bumpWhere_kept _ _)

/-- What a kept context is. -/
theorem WalksKept.some {u : State} (k : WalksKept s u) {x : CtxId} {c : Context}
    (h : s.ctx x = some c) : ∃ d, u.ctx x = some d ∧ d.lasting = c.lasting := by
  have e := k.ctx x
  rw [h] at e
  cases hu : u.ctx x with
  | none => simp [hu] at e
  | some d => exact ⟨d, rfl, by simpa [hu] using e⟩

/-- What a kept section's end marker is. -/
theorem WalksKept.endMarker {u : State} (k : WalksKept s u) (X : SecId) :
    (u.sec X).endMarker = (s.sec X).endMarker :=
  (congrArg SectionRec.endMarker (k.sec X) : _)

/-! ### The drain as folds -/

/-- The tag is the end marker of a section. -/
def State.marks (s : State) (S : SecId) (t : Tag) : Bool := (s.sec S).endMarker = some t

theorem State.marks_eq {s u : State} {X : SecId}
    (h : (u.sec X).endMarker = (s.sec X).endMarker) : u.marks X = s.marks X :=
  funext fun t => decide_eq_decide.2 (by rw [h])

/-- Step 1 of the drain: the parked tags are judged in queue order, through the end marker (R95,
R97). -/
theorem drainPark_eq {x : CtxId} (tags : List Tag) : ∀ {s : State} {c : Context},
    s.ctx x = some c → c.park = tags →
    drainPark x tags s =
      ⟨(throughFirst (s.marks c.sec) tags).foldl (applyParked x) s,
        (throughFirst (s.marks c.sec) tags).length, !tags.any (s.marks c.sec)⟩ := by
  induction tags with
  | nil => intro s c _ _; rfl
  | cons t rest ih =>
    intro s c h hp
    have e : s.modCtx x (fun c => { c with park := rest }) =
        s.modCtx x (fun c => { c with park := c.park.tail }) := by
      simp [State.modCtx, h, hp]
    have hc : (s.modCtx x fun c => { c with park := c.park.tail }).ctx x =
        some { c with park := rest } := by simp [h, hp]
    have hm : (judge x t (s.modCtx x fun c => { c with park := c.park.tail })).outcome.verdict =
        .marker ↔ s.marks c.sec t = true := by
      rw [judge_marker hc]; simp [State.marks]
    rw [drainPark, e]
    by_cases hk : s.marks c.sec t = true
    · simp [hm, hk, throughFirst, applyParked]
    · have kept := judge_kept hc (t := t) (by simpa [State.marks] using hk)
      obtain ⟨d, hd, hlast⟩ := kept.some hc
      have hs : d.sec = c.sec := congrArg Prod.fst hlast
      have hd2 : d.park = rest := congrArg (fun q => q.2.2.1) hlast
      have hmk : (judge x t (s.modCtx x fun c => { c with park := c.park.tail })).state.marks d.sec =
          s.marks c.sec := by
        rw [hs]
        exact State.marks_eq ((kept.endMarker _).trans (by simp))
      have i := ih hd hd2
      rw [hmk] at i
      simp only [hm, hk, throughFirst, List.any_cons, List.foldl_cons, List.length_cons,
        Bool.false_or, Bool.false_eq_true, if_false, i]
      rfl

/-- Step 2 of the drain: WAITING entries of the walker's table are judged in the order given, through
the end marker (R95, R97). -/
theorem drainWaiting_eq {x : CtxId} {w : Wand} (order : List (Fin 24)) :
    ∀ {s : State} {c : Context}, s.ctx x = some c → order.Nodup →
    (∀ i ∈ order, (s.table w).waitingSeq i ≠ none) →
    drainWaiting x w order s =
      (throughFirst (fun i => ((s.table w).entries[i].tag?).any (s.marks c.sec)) order).foldl
        (applyWaiting x w) s := by
  induction order with
  | nil => intro s c _ _ _; rfl
  | cons i rest ih =>
    intro s c h hn hw
    obtain ⟨hi, hn'⟩ := List.nodup_cons.1 hn
    have hwi := hw i (by simp)
    cases he : (s.table w).entries[i] with
    | free => simp [CandTable.waitingSeq, he] at hwi
    | gathering t sc a => simp [CandTable.waitingSeq, he] at hwi
    | confirmed t hd a f => simp [CandTable.waitingSeq, he] at hwi
    | waiting t a f =>
      obtain ⟨v, hv⟩ : ∃ v, v = s.setTable w { s.table w with
        entries := (s.table w).entries.set i (.confirmed t s.settings.holdTicks a f) } := ⟨_, rfl⟩
      have ha : applyWaiting x w s i = (judge x t v).state := by rw [applyWaiting, he, hv]
      have hc : v.ctx x = some c := by rw [hv]; simpa using h
      have hm : (judge x t v).outcome.verdict = .marker ↔ s.marks c.sec t = true := by
        rw [judge_marker hc, hv]; simp [State.marks]
      have e1 : (Entry.waiting t a f).tag? = some t := rfl
      rw [drainWaiting]
      simp only [he, ← hv, throughFirst, e1, Option.any_some]
      by_cases hk : s.marks c.sec t = true
      · simp [hm, hk, ha]
      · have kept := judge_kept hc (t := t) (by
          rw [hv]; simpa [State.marks] using hk)
        obtain ⟨d, hd, hlast⟩ := kept.some hc
        have hs : d.sec = c.sec := congrArg Prod.fst hlast
        have hmk : (judge x t v).state.marks d.sec = s.marks c.sec := by
          rw [hs]
          exact State.marks_eq ((kept.endMarker _).trans (by rw [hv]; simp))
        have ht : ∀ j : Fin 24, j ≠ i →
            ((judge x t v).state.table w).entries[j] = (s.table w).entries[j] := by
          intro j hj
          have : (judge x t v).state.table w = v.table w := by
            simp only [State.table, kept.tables]
          have hji : (i : Nat) ≠ j := fun k => hj (Fin.ext k.symm)
          rw [this, hv]
          simp [hji]
        have hrest : ∀ j ∈ rest, j ≠ i := fun j hj k => hi (k ▸ hj)
        have ih' := ih hd hn' (by
          intro j hj
          have := hw j (by simp [hj])
          rwa [CandTable.waitingSeq, ht j (hrest j hj)])
        rw [hmk] at ih'
        have hsame : throughFirst (fun j => (((judge x t v).state.table w).entries[j].tag?).any
            (s.marks c.sec)) rest =
            throughFirst (fun j => ((s.table w).entries[j].tag?).any (s.marks c.sec)) rest := by
          clear ih' ih hw hn' hn hi
          induction rest with
          | nil => rfl
          | cons j r ihr =>
            simp only [throughFirst, ht j (hrest j (by simp))]
            rw [ihr fun q hq => hrest q (by simp [hq])]
        rw [hsame] at ih'
        simp [hm, hk, ih', ha]

end Sys2Proof.Machine
end

