-- ==== Sys2Proof/Laws/Timers.lean ====
section
/-!
SUPPORT. The timers at their end (7.3, R138): that the tests of the model say what `TimerOut` says, which
expiry an idle step takes, and what LTX does.
-/

namespace Sys2Proof.Machine

variable (s : State)

/-! ### The tests of the timers -/

@[simp] theorem atEnd_true (effect : State → State) : atEnd true effect s = effect s := rfl
@[simp] theorem atEnd_false (effect : State → State) : atEnd false effect s = s := rfl

theorem State.gapOver_iff : s.gapOver = true ↔ TimerOut s .receiverGap := by
  unfold State.gapOver TimerOut
  cases h : s.receiver with
  | hunt => simp
  | gather bytes gap => simp

theorem State.phaseOver_iff : s.phaseOver = true ↔ TimerOut s .lampPhaseWrap :=
  decide_eq_true_iff

theorem State.decayOver_iff : s.decayOver = true ↔ TimerOut s .decayTick := by
  simp [State.decayOver, TimerOut]

theorem State.secondOver_iff : s.secondOver = true ↔ TimerOut s .campaignClockSecond := by
  simp [State.secondOver, TimerOut]

theorem State.leaseOver_iff (x : CtxId) : s.leaseOver x = true ↔ TimerOut s (.leaseExpiry x) := by
  simp [State.leaseOver, TimerOut, Option.any_eq_true]

theorem State.revisionOver_iff (S : SecId) :
    s.revisionOver S = true ↔ TimerOut s (.revisionExpiry S) := by
  simp [State.revisionOver, TimerOut]

/-- A lease at its end belongs to a walk that a wand holds (R57). -/
theorem State.leaseOver_walker {s : State} {x : CtxId} (h : s.leaseOver x = true) :
    ∃ c w, s.ctx x = some c ∧ c.walker = some w := by
  obtain ⟨-, c, hc, hw, -⟩ := (s.leaseOver_iff x).1 h
  obtain ⟨w, hw⟩ := Option.isSome_iff_exists.1 hw
  exact ⟨c, w, hc, hw⟩

/-- The expiry that an idle step takes is one whose timer is at its end. -/
theorem State.expiryDue_out {s : State} {c : Instr} (h : s.expiryDue = some c) : TimerOut s c := by
  unfold State.expiryDue at h
  split at h
  · cases h; exact s.gapOver_iff.1 ‹_›
  split at h
  · cases h; exact s.phaseOver_iff.1 ‹_›
  split at h
  · cases h; exact s.decayOver_iff.1 ‹_›
  split at h
  · cases h; exact s.secondOver_iff.1 ‹_›
  rcases Option.or_eq_some_iff.1 h with h | ⟨-, h⟩
  · obtain ⟨x, hx, rfl⟩ := Option.map_eq_some_iff.1 h
    exact (s.leaseOver_iff x).1 (List.find?_some hx)
  · obtain ⟨S, hS, rfl⟩ := Option.map_eq_some_iff.1 h
    exact (s.revisionOver_iff S).1 (List.find?_some hS)

/-- When no expiry is due, no timer is at its end. -/
theorem State.expiryDue_none {s : State} (h : s.expiryDue = none) (c : Instr) : ¬ TimerOut s c := by
  unfold State.expiryDue at h
  split at h
  · cases h
  split at h
  · cases h
  split at h
  · cases h
  split at h
  · cases h
  obtain ⟨hl, hr⟩ := Option.or_eq_none_iff.1 h
  simp only [Option.map_eq_none_iff, List.find?_eq_none, List.mem_finRange, true_implies] at hl hr
  intro hc
  unfold TimerOut at hc
  split at hc
  · exact ‹¬ s.gapOver = true› (s.gapOver_iff.2 hc)
  · exact ‹¬ s.phaseOver = true› (s.phaseOver_iff.2 hc)
  · exact ‹¬ s.decayOver = true› (s.decayOver_iff.2 hc)
  · exact ‹¬ s.secondOver = true› (s.secondOver_iff.2 hc)
  · exact hl _ ((s.leaseOver_iff _).2 hc)
  · exact hr _ ((s.revisionOver_iff _).2 hc)
  · exact hc

/-! ### LTX (R172, R177, R191) -/

/-- While RESET is asserted, LTX is at the idle level (R191). -/
@[simp] theorem State.ltxPin_reset {s : State} (h : s.resetAsserted = true) :
    s.ltxPin = .idleHigh := by
  simp [State.ltxPin, h]

/-- Between frames LTX idles high (R172). -/
@[simp] theorem State.ltxPin_idle {s : State} (h : s.sendQueue = []) : s.ltxPin = .idleHigh := by
  simp [State.ltxPin, h]

/-- LTX sends the frame at the head of the send queue (R177). -/
theorem State.ltxPin_sending {s : State} {f : PartFrame} {rest : List PartFrame}
    (hr : s.resetAsserted = false) (hq : s.sendQueue = f :: rest) : s.ltxPin = .sending f := by
  simp [State.ltxPin, hr, hq]

/-- A reset while LTX is idle cuts nothing off. -/
theorem State.cutFrame_idle {s : State} (h : s.ltxPin = .idleHigh) :
    s.cutFrame = (s.ltxSent, s.freeIndex) := by
  simp [State.cutFrame, h]

/-- The bytes of a frame number at least those of its envelope (R210). -/
theorem PartFrame.bytes_length_pos (f : PartFrame) (i : Nat) : 0 < (f.bytes i).1.length := by
  simp [PartFrame.bytes]

end Sys2Proof.Machine
end

