-- ==== Sys2Proof/Laws/Ports.lean ====
section
/-!
SUPPORT. The walk engine does not look at the catalogue port: each of its operations, up to the close of
a revision, comes to the same from a state whose port is another.
-/

namespace Sys2Proof.Machine

/-- The state with another port. -/
def State.onPort (s : State) (p : Port) : State := { s with port := p }

section Primitives
variable (s : State) (p : Port)

@[simp] theorem State.onPort_port : (s.onPort p).port = p := rfl
@[simp] theorem State.onPort_items : (s.onPort p).items = s.items := rfl
@[simp] theorem State.onPort_claims : (s.onPort p).claims = s.claims := rfl
@[simp] theorem State.onPort_settings : (s.onPort p).settings = s.settings := rfl
@[simp] theorem State.onPort_clock : (s.onPort p).clock = s.clock := rfl
@[simp] theorem State.sec_onPort (S : SecId) : (s.onPort p).sec S = s.sec S := rfl
@[simp] theorem State.ctx_onPort (x : CtxId) : (s.onPort p).ctx x = s.ctx x := rfl
@[simp] theorem State.table_onPort (w : Wand) : (s.onPort p).table w = s.table w := rfl
@[simp] theorem State.item_onPort (t : Tag) : (s.onPort p).item? t = s.item? t := rfl
@[simp] theorem State.ordinal_onPort (S : SecId) (t : Tag) :
    (s.onPort p).ordinal S t = s.ordinal S t := rfl
@[simp] theorem State.span_onPort (S : SecId) (lo hi : Nat) :
    (s.onPort p).span S lo hi = s.span S lo hi := rfl
@[simp] theorem State.unlisted_onPort : (s.onPort p).unlisted = s.unlisted := rfl
@[simp] theorem State.freeCtx_onPort : (s.onPort p).freeCtx = s.freeCtx := rfl

@[simp] theorem State.modSec_onPort (S : SecId) (f : SectionRec → SectionRec) :
    (s.onPort p).modSec S f = (s.modSec S f).onPort p := rfl
@[simp] theorem State.bump_onPort (S : SecId) : (s.onPort p).bump S = (s.bump S).onPort p := rfl
@[simp] theorem State.bumpWhere_onPort (q : SecId → Bool) :
    (s.onPort p).bumpWhere q = (s.bumpWhere q).onPort p := rfl
@[simp] theorem State.enter_onPort (S : SecId) (st : SecState) :
    (s.onPort p).enter S st = (s.enter S st).onPort p := rfl
@[simp] theorem State.addItem_onPort (r : Item) :
    (s.onPort p).addItem r = (s.addItem r).onPort p := rfl
@[simp] theorem State.modItems_onPort (q : Item → Bool) (f : Item → Item) :
    (s.onPort p).modItems q f = (s.modItems q f).onPort p := rfl
@[simp] theorem State.modItem_onPort (t : Tag) (f : Item → Item) :
    (s.onPort p).modItem t f = (s.modItem t f).onPort p := rfl
@[simp] theorem State.joinChain_onPort (S : SecId) (t : Tag) :
    (s.onPort p).joinChain S t = (s.joinChain S t).onPort p := rfl
@[simp] theorem State.leaveChainOf_onPort (F : Option SecId) (t : Tag) :
    (s.onPort p).leaveChainOf F t = (s.leaveChainOf F t).onPort p := by
  cases F <;> rfl
@[simp] theorem State.modCtx_onPort (x : CtxId) (f : Context → Context) :
    (s.onPort p).modCtx x f = (s.modCtx x f).onPort p := rfl
@[simp] theorem State.setTable_onPort (w : Wand) (t : CandTable) :
    (s.onPort p).setTable w t = (s.setTable w t).onPort p := rfl
@[simp] theorem State.unclaim_onPort (w : Wand) :
    (s.onPort p).unclaim w = (s.unclaim w).onPort p := rfl
@[simp] theorem State.makeReady_onPort (f : PartFrame) :
    (s.onPort p).makeReady f = (s.makeReady f).onPort p := rfl
@[simp] theorem State.raise_onPort (k : EventKind) :
    (s.onPort p).raise k = (s.raise k).onPort p := rfl
@[simp] theorem State.startWalk_onPort (x : CtxId) (S : SecId) (w : Wand) :
    (s.onPort p).startWalk x S w = (s.startWalk x S w).onPort p := rfl
@[simp] theorem State.resumeWalk_onPort (x : CtxId) (S : SecId) (w : Wand) :
    (s.onPort p).resumeWalk x S w = (s.resumeWalk x S w).onPort p := rfl
@[simp] theorem State.endWalk_onPort (x : CtxId) (S : SecId) (st : SecState) :
    (s.onPort p).endWalk x S st = (s.endWalk x S st).onPort p := rfl

end Primitives

/-! ### Walks (chapter 3) -/

section Engine
variable (s : State) (p : Port)

@[simp] theorem State.attend_onPort (S : SecId) :
    (s.onPort p).attend S = (s.attend S).onPort p := by
  unfold State.attend
  by_cases h : (s.sec S).attention = true <;> simp [h]

@[simp] theorem State.releaseWalker_onPort (w : Option Wand) :
    (s.onPort p).releaseWalker w = (s.releaseWalker w).onPort p := by
  cases w <;> rfl

@[simp] theorem State.grantNext_onPort (S : SecId) :
    (s.onPort p).grantNext S = (s.grantNext S).onPort p := by
  unfold State.grantNext
  simp only [State.onPort_claims, State.sec_onPort, State.freeCtx_onPort]
  cases s.claims.find? fun q => q.sec = S with
  | none => rfl
  | some q =>
    by_cases h : (s.sec S).state = .suspended
    · simp only [h, if_true]
      cases (s.sec S).context <;> rfl
    · simp only [h, if_false]
      cases s.freeCtx <;> rfl

@[simp] theorem State.tallySec_onPort (S : SecId) :
    (s.onPort p).tallySec S = (s.tallySec S).onPort p := by
  unfold State.tallySec
  simp only [State.modItems_onPort, State.onPort_items]
  by_cases h : (s.items.any fun r => r.isHomeOf S && r.tallyAttends) = true <;>
    by_cases k : (s.items.any fun r => r.isHomeOf S && r.openAtTally) = true <;> simp [h, k]

@[simp] theorem State.completeWalk_onPort (x : CtxId) (c : Context) :
    (s.onPort p).completeWalk x c = (s.completeWalk x c).onPort p := by
  unfold State.completeWalk
  simp

/-! ### Judgements (chapter 4) -/

/-- A placement on another port. -/
def Placed.onPort (a : Placed) (p : Port) : Placed := { a with state := a.state.onPort p }

/-- A judgement on another port. -/
def Judged.onPort (a : Judged) (p : Port) : Judged := { a with state := a.state.onPort p }

@[simp] theorem State.adoptDue_onPort : (s.onPort p).adoptDue = s.adoptDue.onPort p := by
  unfold State.adoptDue
  by_cases h : s.settings.adoptThreshold ≤ s.unlisted <;> simp [h]

@[simp] theorem State.raiseCursor_onPort (x : CtxId) (c : Context) (new : Nat) :
    (s.onPort p).raiseCursor x c new =
      ((s.raiseCursor x c new).1.onPort p, (s.raiseCursor x c new).2) := by
  unfold State.raiseCursor
  simp only [State.sec_onPort]
  by_cases h : (!c.markHit && (s.sec c.sec).mark.any fun m => c.cursor < m && m ≤ new) = true
  · simp only [h, if_true]
    rfl
  · simp only [Bool.not_eq_true] at h
    simp only [h, Bool.false_eq_true, if_false]
    rfl

@[simp] theorem State.leavePlace_onPort (r : Item) :
    (s.onPort p).leavePlace r = (s.leavePlace r).onPort p := by
  unfold State.leavePlace
  by_cases h : r.count = .elsewhere ∨ r.count = .unlisted
  · simp only [h, if_true, State.leaveChainOf_onPort]
  · by_cases k : r.count = .held
    · simp only [k, if_true, State.sec_onPort]
      cases r.home.bind fun H => (s.sec H).context <;> rfl
    · simp only [h, k, if_false]

@[simp] theorem State.markConflict_onPort (r : Item) (S : SecId) :
    (s.onPort p).markConflict r S = (s.markConflict r S).onPort p := by
  unfold State.markConflict
  by_cases h : r.newConflict = true <;> simp [h]

theorem judgeUnknown_onPort (c : Context) (t : Tag) :
    judgeUnknown c t (s.onPort p) = (judgeUnknown c t s).onPort p := by
  unfold judgeUnknown
  by_cases h : Config.maxItems ≤ s.items.length <;> simp [h, Judged.onPort]

theorem judgeProvisional_onPort (c : Context) (r : Item) :
    judgeProvisional c r (s.onPort p) = (judgeProvisional c r s).onPort p := by
  unfold judgeProvisional
  by_cases h : r.foundIn = some c.sec <;> simp [h, Judged.onPort]

theorem judgeForeign_onPort (c : Context) (H : SecId) (r : Item) :
    judgeForeign c H r (s.onPort p) = (judgeForeign c H r s).onPort p := by
  unfold judgeForeign
  by_cases h : r.count = .elsewhere ∧ r.foundIn = some c.sec
  · by_cases k : r.newConflict = true <;> simp [h, k, Judged.onPort]
  · simp [h, Judged.onPort]

theorem judgeAgain_onPort (c : Context) (r : Item) :
    judgeAgain c r (s.onPort p) = (judgeAgain c r s).onPort p := by
  unfold judgeAgain
  by_cases k : r.newConflict = true <;> simp [k, Judged.onPort]

@[simp] theorem State.findAtHome_onPort (c : Context) (t : Tag) (st : CountState)
    (prior : Option CountState) :
    (s.onPort p).findAtHome c t st prior = (s.findAtHome c t st prior).onPort p := rfl

@[simp] theorem State.passItems_onPort (S : SecId) (tags : List Tag) :
    (s.onPort p).passItems S tags = (s.passItems S tags).onPort p := rfl

@[simp] theorem State.breakRun_onPort (x : CtxId) (c : Context) :
    (s.onPort p).breakRun x c = (s.breakRun x c).onPort p := by
  unfold State.breakRun
  simp

theorem stepB_onPort (x : CtxId) (c : Context) (t : Tag) (prior : CountState) (broken : Bool) :
    stepB x c t prior broken (s.onPort p) = (stepB x c t prior broken s).onPort p := by
  unfold stepB
  simp only [State.ordinal_onPort, State.sec_onPort]
  by_cases h : c.cursor ≤ s.ordinal c.sec t
  · by_cases k : s.ordinal c.sec t - c.cursor ≤ (s.sec c.sec).tolerance <;>
      simp [h, k, Placed.onPort]
  · by_cases k : c.cursor - 1 - s.ordinal c.sec t ≤ (s.sec c.sec).tolerance <;>
      simp [h, k, Placed.onPort]

theorem resync_onPort (x : CtxId) (c : Context) (run : List Tag) (k : Nat) :
    resync x c run k (s.onPort p) = (resync x c run k s).onPort p := by
  unfold resync
  simp [Placed.onPort]

theorem continueRun_onPort (x : CtxId) (c : Context) (t : Tag) (prior : CountState) :
    continueRun x c t prior (s.onPort p) = (continueRun x c t prior s).onPort p := by
  unfold continueRun
  simp only [State.findAtHome_onPort, State.modCtx_onPort, State.onPort_settings,
    State.ordinal_onPort, resync_onPort]
  by_cases h : (c.run ++ [t]).length < s.settings.resyncLength
  · simp only [h, if_true]
    rfl
  · simp only [h, if_false]

theorem placeFresh_onPort (x : CtxId) (c : Context) (t : Tag) (prior : CountState) :
    placeFresh x c t prior (s.onPort p) = (placeFresh x c t prior s).onPort p := by
  unfold placeFresh
  cases c.run.getLast? with
  | none => exact stepB_onPort ..
  | some last =>
    simp only [State.ordinal_onPort, State.sec_onPort, State.breakRun_onPort, stepB_onPort,
      continueRun_onPort]
    by_cases h : s.ordinal c.sec last < s.ordinal c.sec t ∧
        s.ordinal c.sec t ≤ s.ordinal c.sec last + (s.sec c.sec).tolerance + 1 <;>
      simp only [h, and_self, if_true, if_false]

theorem judgeFresh_onPort (x : CtxId) (c : Context) (r : Item) :
    judgeFresh x c r (s.onPort p) = (judgeFresh x c r s).onPort p := by
  unfold judgeFresh
  simp [placeFresh_onPort, Placed.onPort, Judged.onPort]

theorem judgeWalk_onPort (x : CtxId) (c : Context) (t : Tag) :
    judgeWalk x c t (s.onPort p) = (judgeWalk x c t s).onPort p := by
  unfold judgeWalk
  simp only [State.sec_onPort, State.item_onPort, State.completeWalk_onPort]
  by_cases h : (s.sec c.sec).endMarker = some t
  · simp only [h, if_true]
    rfl
  simp only [h, if_false]
  cases s.item? t with
  | none => exact judgeUnknown_onPort ..
  | some r =>
    simp only
    cases r.home with
    | none => exact judgeProvisional_onPort ..
    | some H =>
      simp only [judgeForeign_onPort, judgeAgain_onPort, judgeFresh_onPort]
      by_cases k : H = c.sec
      · by_cases m : r.count = .inPlace ∨ r.count = .disordered ∨ r.count = .held <;>
          simp only [k, m, ne_eq, not_true, if_true, if_false]
      · simp only [k, ne_eq, not_false_iff, if_true]

/-- A judgement is the same whatever the port (R71). -/
theorem judge_onPort (x : CtxId) (t : Tag) :
    judge x t (s.onPort p) = (judge x t s).onPort p := by
  unfold judge
  simp only [State.ctx_onPort]
  cases s.ctx x with
  | none => rfl
  | some c => exact judgeWalk_onPort ..

end Engine

/-! ### The drain and the close of a revision (R16, R95) -/

theorem drainPark_onPort (x : CtxId) (p : Port) (tags : List Tag) : ∀ s : State,
    drainPark x tags (s.onPort p) =
      { drainPark x tags s with state := (drainPark x tags s).state.onPort p } := by
  induction tags with
  | nil => exact fun _ => rfl
  | cons t rest ih =>
    intro s
    unfold drainPark
    simp only [State.modCtx_onPort, judge_onPort, Judged.onPort]
    by_cases h : (judge x t (s.modCtx x fun c => { c with park := rest })).outcome.verdict = .marker
    · simp only [h, if_true]
    · simp only [h, if_false, ih]

theorem drainWaiting_onPort (x : CtxId) (w : Wand) (p : Port) (order : List (Fin 24)) : ∀ s : State,
    drainWaiting x w order (s.onPort p) = (drainWaiting x w order s).onPort p := by
  induction order with
  | nil => exact fun _ => rfl
  | cons i rest ih =>
    intro s
    unfold drainWaiting
    simp only [State.table_onPort]
    cases (s.table w).entries[i] with
    | waiting t a f =>
      simp only [State.setTable_onPort, State.onPort_settings, judge_onPort, Judged.onPort, ih]
      by_cases h : (judge x t (s.setTable w { s.table w with
          entries := (s.table w).entries.set i (.confirmed t s.settings.holdTicks a f) })).outcome.verdict
            = .marker <;>
        simp only [h, if_true, if_false]
    | free => exact ih _
    | gathering _ _ _ => exact ih _
    | confirmed _ _ _ _ => exact ih _

theorem State.drain_onPort (s : State) (p : Port) (x : CtxId) (c : Context) :
    (s.onPort p).drain x c = ((s.drain x c).1.onPort p, (s.drain x c).2) := by
  unfold State.drain
  rw [drainPark_onPort]
  by_cases h : (drainPark x c.park s).goesOn = true
  · simp only [h, if_true]
    cases c.walker <;> simp [drainWaiting_onPort]
  · simp only [h, Bool.false_eq_true, if_false]

/-- The close of a revision is the same whatever the port (R16). -/
theorem State.closeRevision_onPort (s : State) (p : Port) (S : SecId) :
    (s.onPort p).closeRevision S = ((s.closeRevision S).1.onPort p, (s.closeRevision S).2) := by
  unfold State.closeRevision
  simp only [State.sec_onPort, State.ctx_onPort, State.modSec_onPort, State.bump_onPort,
    State.enter_onPort]
  by_cases h : (s.sec S).state = .empty <;> simp only [h, if_true, if_false] <;>
  · cases (s.sec S).context with
    | none => rfl
    | some x =>
      simp only
      cases s.ctx x with
      | none => rfl
      | some c => exact State.drain_onPort ..

end Sys2Proof.Machine
end

