-- ==== Sys2Proof/Laws/Reads.lean ====
section
/-!
SUPPORT. The reads of a frame: one after another, and of a wand that does not walk (R32, R36).
-/

namespace Sys2Proof.Machine

variable (s : State)

/-- No read: the state stands (R32). -/
@[simp] theorem readAll_nil (w : Wand) : readAll w [] s = ⟨s, [], 0⟩ := rfl

/-- The first read of a frame, and then the others from the state that it leaves (R32). -/
theorem readAll_cons (w : Wand) (r : TagRead) (rest : List TagRead) :
    readAll w (r :: rest) s =
      ⟨(readAll w rest (readOne w r s).state).state,
        (readOne w r s).outcome.toList ++ (readAll w rest (readOne w r s).state).outcomes,
        (if (readOne w r s).saturated then 1 else 0) +
          (readAll w rest (readOne w r s).state).saturated⟩ := rfl

@[simp] theorem State.matchWatch_contexts (w : Wand) (t : Tag) :
    (s.matchWatch w t).1.contexts = s.contexts := by
  unfold State.matchWatch
  cases s.watchWinner t <;> rfl

variable {s}

/-- Who walks where is read off the contexts alone. -/
theorem State.walkOf_of_contexts {u : State} (h : u.contexts = s.contexts) (w : Wand) :
    u.walkOf w = s.walkOf w := by
  unfold State.walkOf State.ctx
  rw [h]

/-- The delivery of a wand that does not walk changes nothing and is ROAMING (R36). -/
theorem State.deliver_of_roaming {w : Wand} (h : s.walkOf w = none) (i : Fin 24) (t : Tag) :
    s.deliver w i t = ⟨s, Sighting.plain t .roaming ((s.item? t).bind fun r => r.home)⟩ := by
  unfold State.deliver
  rw [h]

/-- A read of a wand that does not walk keeps every walk, and confirms at most as ROAMING (R36). -/
def ReadDone.Roams (d : ReadDone) (s : State) : Prop :=
  d.state.contexts = s.contexts ∧ ∀ o, d.outcome = some o → o.verdict = .roaming

theorem State.confirmEntry_roams {w : Wand} (h : s.walkOf w = none) (i : Fin 24) (t : Tag) (a : Nat) :
    (s.confirmEntry w i t a).asRead.Roams s := by
  have hw : (((s.setTable w ((s.table w).confirm i t a s.settings.holdTicks)).matchWatch w t).1).walkOf
      w = none :=
    (State.walkOf_of_contexts (State.matchWatch_contexts _ w t) w).trans h
  unfold State.confirmEntry
  simp only [State.deliver_of_roaming hw]
  refine ⟨State.matchWatch_contexts _ w t, fun o ho => ?_⟩
  cases ho
  rfl

/-- What adds to no confirmation and keeps the contexts roams. -/
theorem ReadDone.roams_of_none {d : ReadDone} (h : d.state.contexts = s.contexts)
    (k : d.outcome = none) : d.Roams s := ⟨h, by simp [k]⟩

theorem readHeld_roams {w : Wand} (h : s.walkOf w = none) (i : Fin 24) (weight : Nat) :
    (readHeld w i weight s).Roams s := by
  unfold readHeld
  simp only
  split
  · split
    · exact State.confirmEntry_roams h i _ _
    · exact ReadDone.roams_of_none rfl rfl
  all_goals exact ReadDone.roams_of_none rfl rfl

theorem readNew_roams {w : Wand} (h : s.walkOf w = none) (t : Tag) (weight : Nat) :
    (readNew w t weight s).Roams s := by
  unfold readNew
  simp only
  split
  · exact ReadDone.roams_of_none rfl rfl
  · split
    · exact State.confirmEntry_roams (s := s.setTable w _) h _ t _
    · exact ReadDone.roams_of_none rfl rfl

theorem readOne_roams {w : Wand} (h : s.walkOf w = none) (r : TagRead) : (readOne w r s).Roams s := by
  unfold readOne
  simp only
  split
  · exact ReadDone.roams_of_none rfl rfl
  · split
    · exact readHeld_roams h _ _
    · exact readNew_roams h r.tag _

end Sys2Proof.Machine
end

