-- ==== Sys2Proof/Laws/Walks.lean ====
section
/-!
SUPPORT. What the walk engine's operations do: attention, the start, resumption, suspension, completion
and end of a walk, and the grant to a waiter.
-/

namespace Sys2Proof.Machine

variable (s : State)

/-! ### What each leaves as it is -/

@[simp] theorem State.attend_items (S : SecId) :
    (s.attend S).items = s.items := by
  unfold State.attend; split <;> rfl
@[simp] theorem State.attend_tables (S : SecId) :
    (s.attend S).tables = s.tables := by
  unfold State.attend; split <;> rfl
@[simp] theorem State.attend_decayLeft (S : SecId) :
    (s.attend S).decayLeft = s.decayLeft := by
  unfold State.attend; split <;> rfl
@[simp] theorem State.attend_claims (S : SecId) :
    (s.attend S).claims = s.claims := by
  unfold State.attend; split <;> rfl
@[simp] theorem State.attend_contexts (S : SecId) :
    (s.attend S).contexts = s.contexts := by
  unfold State.attend; split <;> rfl
@[simp] theorem State.attend_watch (S : SecId) :
    (s.attend S).watch = s.watch := by
  unfold State.attend; split <;> rfl
@[simp] theorem State.attend_campaign (S : SecId) :
    (s.attend S).campaign = s.campaign := by
  unfold State.attend; split <;> rfl
@[simp] theorem State.attend_clock (S : SecId) :
    (s.attend S).clock = s.clock := by
  unfold State.attend; split <;> rfl
@[simp] theorem State.attend_clockPart (S : SecId) :
    (s.attend S).clockPart = s.clockPart := by
  unfold State.attend; split <;> rfl
@[simp] theorem State.attend_forces (S : SecId) :
    (s.attend S).forces = s.forces := by
  unfold State.attend; split <;> rfl
@[simp] theorem State.attend_lampPhase (S : SecId) :
    (s.attend S).lampPhase = s.lampPhase := by
  unfold State.attend; split <;> rfl
@[simp] theorem State.attend_receiver (S : SecId) :
    (s.attend S).receiver = s.receiver := by
  unfold State.attend; split <;> rfl
@[simp] theorem State.attend_gathered (S : SecId) :
    (s.attend S).gathered = s.gathered := by
  unfold State.attend; split <;> rfl
@[simp] theorem State.attend_rxQueue (S : SecId) :
    (s.attend S).rxQueue = s.rxQueue := by
  unfold State.attend; split <;> rfl
@[simp] theorem State.attend_sendQueue (S : SecId) :
    (s.attend S).sendQueue = s.sendQueue := by
  unfold State.attend; split <;> rfl
@[simp] theorem State.attend_lastFrame (S : SecId) :
    (s.attend S).lastFrame = s.lastFrame := by
  unfold State.attend; split <;> rfl
@[simp] theorem State.attend_ltxSent (S : SecId) :
    (s.attend S).ltxSent = s.ltxSent := by
  unfold State.attend; split <;> rfl
@[simp] theorem State.attend_port (S : SecId) :
    (s.attend S).port = s.port := by
  unfold State.attend; split <;> rfl
@[simp] theorem State.attend_sdoTrace (S : SecId) :
    (s.attend S).sdoTrace = s.sdoTrace := by
  unfold State.attend; split <;> rfl
@[simp] theorem State.attend_settings (S : SecId) :
    (s.attend S).settings = s.settings := by
  unfold State.attend; split <;> rfl
@[simp] theorem State.attend_resetAsserted (S : SecId) :
    (s.attend S).resetAsserted = s.resetAsserted := by
  unfold State.attend; split <;> rfl
@[simp] theorem State.attend_freeIndex (S : SecId) :
    (s.attend S).freeIndex = s.freeIndex := by
  unfold State.attend; split <;> rfl
@[simp] theorem State.attend_pending (S : SecId) :
    (s.attend S).pending = s.pending := by
  unfold State.attend; split <;> rfl
@[simp] theorem State.attend_item_eq (S : SecId) (a : Tag) :
    (s.attend S).item? a = s.item? a := by
  unfold State.attend; split <;> rfl
@[simp] theorem State.attend_ctx_eq (S : SecId) (y : CtxId) :
    (s.attend S).ctx y = s.ctx y := by
  unfold State.attend; split <;> rfl
@[simp] theorem State.attend_table_eq (S : SecId) (v : Wand) :
    (s.attend S).table v = s.table v := by
  unfold State.attend; split <;> rfl
@[simp] theorem State.startWalk_items (x : CtxId) (S : SecId) (w : Wand) :
    (s.startWalk x S w).items = s.items := rfl
@[simp] theorem State.startWalk_tables (x : CtxId) (S : SecId) (w : Wand) :
    (s.startWalk x S w).tables = s.tables := rfl
@[simp] theorem State.startWalk_decayLeft (x : CtxId) (S : SecId) (w : Wand) :
    (s.startWalk x S w).decayLeft = s.decayLeft := rfl
@[simp] theorem State.startWalk_claims (x : CtxId) (S : SecId) (w : Wand) :
    (s.startWalk x S w).claims = s.claims := rfl
@[simp] theorem State.startWalk_watch (x : CtxId) (S : SecId) (w : Wand) :
    (s.startWalk x S w).watch = s.watch := rfl
@[simp] theorem State.startWalk_campaign (x : CtxId) (S : SecId) (w : Wand) :
    (s.startWalk x S w).campaign = s.campaign := rfl
@[simp] theorem State.startWalk_clock (x : CtxId) (S : SecId) (w : Wand) :
    (s.startWalk x S w).clock = s.clock := rfl
@[simp] theorem State.startWalk_clockPart (x : CtxId) (S : SecId) (w : Wand) :
    (s.startWalk x S w).clockPart = s.clockPart := rfl
@[simp] theorem State.startWalk_forces (x : CtxId) (S : SecId) (w : Wand) :
    (s.startWalk x S w).forces = s.forces := rfl
@[simp] theorem State.startWalk_lampPhase (x : CtxId) (S : SecId) (w : Wand) :
    (s.startWalk x S w).lampPhase = s.lampPhase := rfl
@[simp] theorem State.startWalk_receiver (x : CtxId) (S : SecId) (w : Wand) :
    (s.startWalk x S w).receiver = s.receiver := rfl
@[simp] theorem State.startWalk_gathered (x : CtxId) (S : SecId) (w : Wand) :
    (s.startWalk x S w).gathered = s.gathered := rfl
@[simp] theorem State.startWalk_rxQueue (x : CtxId) (S : SecId) (w : Wand) :
    (s.startWalk x S w).rxQueue = s.rxQueue := rfl
@[simp] theorem State.startWalk_sendQueue (x : CtxId) (S : SecId) (w : Wand) :
    (s.startWalk x S w).sendQueue = s.sendQueue := rfl
@[simp] theorem State.startWalk_lastFrame (x : CtxId) (S : SecId) (w : Wand) :
    (s.startWalk x S w).lastFrame = s.lastFrame := rfl
@[simp] theorem State.startWalk_ltxSent (x : CtxId) (S : SecId) (w : Wand) :
    (s.startWalk x S w).ltxSent = s.ltxSent := rfl
@[simp] theorem State.startWalk_port (x : CtxId) (S : SecId) (w : Wand) :
    (s.startWalk x S w).port = s.port := rfl
@[simp] theorem State.startWalk_sdoTrace (x : CtxId) (S : SecId) (w : Wand) :
    (s.startWalk x S w).sdoTrace = s.sdoTrace := rfl
@[simp] theorem State.startWalk_events (x : CtxId) (S : SecId) (w : Wand) :
    (s.startWalk x S w).events = s.events := rfl
@[simp] theorem State.startWalk_settings (x : CtxId) (S : SecId) (w : Wand) :
    (s.startWalk x S w).settings = s.settings := rfl
@[simp] theorem State.startWalk_resetAsserted (x : CtxId) (S : SecId) (w : Wand) :
    (s.startWalk x S w).resetAsserted = s.resetAsserted := rfl
@[simp] theorem State.startWalk_freeIndex (x : CtxId) (S : SecId) (w : Wand) :
    (s.startWalk x S w).freeIndex = s.freeIndex := rfl
@[simp] theorem State.startWalk_pending (x : CtxId) (S : SecId) (w : Wand) :
    (s.startWalk x S w).pending = s.pending := rfl
@[simp] theorem State.startWalk_item_eq (x : CtxId) (S : SecId) (w : Wand) (a : Tag) :
    (s.startWalk x S w).item? a = s.item? a := rfl
@[simp] theorem State.startWalk_table_eq (x : CtxId) (S : SecId) (w : Wand) (v : Wand) :
    (s.startWalk x S w).table v = s.table v := rfl
@[simp] theorem State.resumeWalk_items (x : CtxId) (S : SecId) (w : Wand) :
    (s.resumeWalk x S w).items = s.items := rfl
@[simp] theorem State.resumeWalk_tables (x : CtxId) (S : SecId) (w : Wand) :
    (s.resumeWalk x S w).tables = s.tables := rfl
@[simp] theorem State.resumeWalk_decayLeft (x : CtxId) (S : SecId) (w : Wand) :
    (s.resumeWalk x S w).decayLeft = s.decayLeft := rfl
@[simp] theorem State.resumeWalk_claims (x : CtxId) (S : SecId) (w : Wand) :
    (s.resumeWalk x S w).claims = s.claims := rfl
@[simp] theorem State.resumeWalk_watch (x : CtxId) (S : SecId) (w : Wand) :
    (s.resumeWalk x S w).watch = s.watch := rfl
@[simp] theorem State.resumeWalk_campaign (x : CtxId) (S : SecId) (w : Wand) :
    (s.resumeWalk x S w).campaign = s.campaign := rfl
@[simp] theorem State.resumeWalk_clock (x : CtxId) (S : SecId) (w : Wand) :
    (s.resumeWalk x S w).clock = s.clock := rfl
@[simp] theorem State.resumeWalk_clockPart (x : CtxId) (S : SecId) (w : Wand) :
    (s.resumeWalk x S w).clockPart = s.clockPart := rfl
@[simp] theorem State.resumeWalk_forces (x : CtxId) (S : SecId) (w : Wand) :
    (s.resumeWalk x S w).forces = s.forces := rfl
@[simp] theorem State.resumeWalk_lampPhase (x : CtxId) (S : SecId) (w : Wand) :
    (s.resumeWalk x S w).lampPhase = s.lampPhase := rfl
@[simp] theorem State.resumeWalk_receiver (x : CtxId) (S : SecId) (w : Wand) :
    (s.resumeWalk x S w).receiver = s.receiver := rfl
@[simp] theorem State.resumeWalk_gathered (x : CtxId) (S : SecId) (w : Wand) :
    (s.resumeWalk x S w).gathered = s.gathered := rfl
@[simp] theorem State.resumeWalk_rxQueue (x : CtxId) (S : SecId) (w : Wand) :
    (s.resumeWalk x S w).rxQueue = s.rxQueue := rfl
@[simp] theorem State.resumeWalk_sendQueue (x : CtxId) (S : SecId) (w : Wand) :
    (s.resumeWalk x S w).sendQueue = s.sendQueue := rfl
@[simp] theorem State.resumeWalk_lastFrame (x : CtxId) (S : SecId) (w : Wand) :
    (s.resumeWalk x S w).lastFrame = s.lastFrame := rfl
@[simp] theorem State.resumeWalk_ltxSent (x : CtxId) (S : SecId) (w : Wand) :
    (s.resumeWalk x S w).ltxSent = s.ltxSent := rfl
@[simp] theorem State.resumeWalk_port (x : CtxId) (S : SecId) (w : Wand) :
    (s.resumeWalk x S w).port = s.port := rfl
@[simp] theorem State.resumeWalk_sdoTrace (x : CtxId) (S : SecId) (w : Wand) :
    (s.resumeWalk x S w).sdoTrace = s.sdoTrace := rfl
@[simp] theorem State.resumeWalk_events (x : CtxId) (S : SecId) (w : Wand) :
    (s.resumeWalk x S w).events = s.events := rfl
@[simp] theorem State.resumeWalk_settings (x : CtxId) (S : SecId) (w : Wand) :
    (s.resumeWalk x S w).settings = s.settings := rfl
@[simp] theorem State.resumeWalk_resetAsserted (x : CtxId) (S : SecId) (w : Wand) :
    (s.resumeWalk x S w).resetAsserted = s.resetAsserted := rfl
@[simp] theorem State.resumeWalk_freeIndex (x : CtxId) (S : SecId) (w : Wand) :
    (s.resumeWalk x S w).freeIndex = s.freeIndex := rfl
@[simp] theorem State.resumeWalk_pending (x : CtxId) (S : SecId) (w : Wand) :
    (s.resumeWalk x S w).pending = s.pending := rfl
@[simp] theorem State.resumeWalk_item_eq (x : CtxId) (S : SecId) (w : Wand) (a : Tag) :
    (s.resumeWalk x S w).item? a = s.item? a := rfl
@[simp] theorem State.resumeWalk_table_eq (x : CtxId) (S : SecId) (w : Wand) (v : Wand) :
    (s.resumeWalk x S w).table v = s.table v := rfl
@[simp] theorem State.endWalk_items (x : CtxId) (S : SecId) (st : SecState) :
    (s.endWalk x S st).items = s.items := rfl
@[simp] theorem State.endWalk_tables (x : CtxId) (S : SecId) (st : SecState) :
    (s.endWalk x S st).tables = s.tables := rfl
@[simp] theorem State.endWalk_decayLeft (x : CtxId) (S : SecId) (st : SecState) :
    (s.endWalk x S st).decayLeft = s.decayLeft := rfl
@[simp] theorem State.endWalk_claims (x : CtxId) (S : SecId) (st : SecState) :
    (s.endWalk x S st).claims = s.claims := rfl
@[simp] theorem State.endWalk_watch (x : CtxId) (S : SecId) (st : SecState) :
    (s.endWalk x S st).watch = s.watch := rfl
@[simp] theorem State.endWalk_campaign (x : CtxId) (S : SecId) (st : SecState) :
    (s.endWalk x S st).campaign = s.campaign := rfl
@[simp] theorem State.endWalk_clock (x : CtxId) (S : SecId) (st : SecState) :
    (s.endWalk x S st).clock = s.clock := rfl
@[simp] theorem State.endWalk_clockPart (x : CtxId) (S : SecId) (st : SecState) :
    (s.endWalk x S st).clockPart = s.clockPart := rfl
@[simp] theorem State.endWalk_forces (x : CtxId) (S : SecId) (st : SecState) :
    (s.endWalk x S st).forces = s.forces := rfl
@[simp] theorem State.endWalk_lampPhase (x : CtxId) (S : SecId) (st : SecState) :
    (s.endWalk x S st).lampPhase = s.lampPhase := rfl
@[simp] theorem State.endWalk_receiver (x : CtxId) (S : SecId) (st : SecState) :
    (s.endWalk x S st).receiver = s.receiver := rfl
@[simp] theorem State.endWalk_gathered (x : CtxId) (S : SecId) (st : SecState) :
    (s.endWalk x S st).gathered = s.gathered := rfl
@[simp] theorem State.endWalk_rxQueue (x : CtxId) (S : SecId) (st : SecState) :
    (s.endWalk x S st).rxQueue = s.rxQueue := rfl
@[simp] theorem State.endWalk_sendQueue (x : CtxId) (S : SecId) (st : SecState) :
    (s.endWalk x S st).sendQueue = s.sendQueue := rfl
@[simp] theorem State.endWalk_lastFrame (x : CtxId) (S : SecId) (st : SecState) :
    (s.endWalk x S st).lastFrame = s.lastFrame := rfl
@[simp] theorem State.endWalk_ltxSent (x : CtxId) (S : SecId) (st : SecState) :
    (s.endWalk x S st).ltxSent = s.ltxSent := rfl
@[simp] theorem State.endWalk_port (x : CtxId) (S : SecId) (st : SecState) :
    (s.endWalk x S st).port = s.port := rfl
@[simp] theorem State.endWalk_sdoTrace (x : CtxId) (S : SecId) (st : SecState) :
    (s.endWalk x S st).sdoTrace = s.sdoTrace := rfl
@[simp] theorem State.endWalk_events (x : CtxId) (S : SecId) (st : SecState) :
    (s.endWalk x S st).events = s.events := rfl
@[simp] theorem State.endWalk_settings (x : CtxId) (S : SecId) (st : SecState) :
    (s.endWalk x S st).settings = s.settings := rfl
@[simp] theorem State.endWalk_resetAsserted (x : CtxId) (S : SecId) (st : SecState) :
    (s.endWalk x S st).resetAsserted = s.resetAsserted := rfl
@[simp] theorem State.endWalk_freeIndex (x : CtxId) (S : SecId) (st : SecState) :
    (s.endWalk x S st).freeIndex = s.freeIndex := rfl
@[simp] theorem State.endWalk_pending (x : CtxId) (S : SecId) (st : SecState) :
    (s.endWalk x S st).pending = s.pending := rfl
@[simp] theorem State.endWalk_item_eq (x : CtxId) (S : SecId) (st : SecState) (a : Tag) :
    (s.endWalk x S st).item? a = s.item? a := rfl
@[simp] theorem State.endWalk_table_eq (x : CtxId) (S : SecId) (st : SecState) (v : Wand) :
    (s.endWalk x S st).table v = s.table v := rfl
@[simp] theorem State.suspend_items (x : CtxId) (c : Context) (w : Wand) :
    (s.suspend x c w).items = s.items := rfl
@[simp] theorem State.suspend_decayLeft (x : CtxId) (c : Context) (w : Wand) :
    (s.suspend x c w).decayLeft = s.decayLeft := rfl
@[simp] theorem State.suspend_claims (x : CtxId) (c : Context) (w : Wand) :
    (s.suspend x c w).claims = s.claims := rfl
@[simp] theorem State.suspend_watch (x : CtxId) (c : Context) (w : Wand) :
    (s.suspend x c w).watch = s.watch := rfl
@[simp] theorem State.suspend_campaign (x : CtxId) (c : Context) (w : Wand) :
    (s.suspend x c w).campaign = s.campaign := rfl
@[simp] theorem State.suspend_clock (x : CtxId) (c : Context) (w : Wand) :
    (s.suspend x c w).clock = s.clock := rfl
@[simp] theorem State.suspend_clockPart (x : CtxId) (c : Context) (w : Wand) :
    (s.suspend x c w).clockPart = s.clockPart := rfl
@[simp] theorem State.suspend_forces (x : CtxId) (c : Context) (w : Wand) :
    (s.suspend x c w).forces = s.forces := rfl
@[simp] theorem State.suspend_lampPhase (x : CtxId) (c : Context) (w : Wand) :
    (s.suspend x c w).lampPhase = s.lampPhase := rfl
@[simp] theorem State.suspend_receiver (x : CtxId) (c : Context) (w : Wand) :
    (s.suspend x c w).receiver = s.receiver := rfl
@[simp] theorem State.suspend_gathered (x : CtxId) (c : Context) (w : Wand) :
    (s.suspend x c w).gathered = s.gathered := rfl
@[simp] theorem State.suspend_rxQueue (x : CtxId) (c : Context) (w : Wand) :
    (s.suspend x c w).rxQueue = s.rxQueue := rfl
@[simp] theorem State.suspend_sendQueue (x : CtxId) (c : Context) (w : Wand) :
    (s.suspend x c w).sendQueue = s.sendQueue := rfl
@[simp] theorem State.suspend_lastFrame (x : CtxId) (c : Context) (w : Wand) :
    (s.suspend x c w).lastFrame = s.lastFrame := rfl
@[simp] theorem State.suspend_ltxSent (x : CtxId) (c : Context) (w : Wand) :
    (s.suspend x c w).ltxSent = s.ltxSent := rfl
@[simp] theorem State.suspend_port (x : CtxId) (c : Context) (w : Wand) :
    (s.suspend x c w).port = s.port := rfl
@[simp] theorem State.suspend_sdoTrace (x : CtxId) (c : Context) (w : Wand) :
    (s.suspend x c w).sdoTrace = s.sdoTrace := rfl
@[simp] theorem State.suspend_events (x : CtxId) (c : Context) (w : Wand) :
    (s.suspend x c w).events = s.events := rfl
@[simp] theorem State.suspend_settings (x : CtxId) (c : Context) (w : Wand) :
    (s.suspend x c w).settings = s.settings := rfl
@[simp] theorem State.suspend_resetAsserted (x : CtxId) (c : Context) (w : Wand) :
    (s.suspend x c w).resetAsserted = s.resetAsserted := rfl
@[simp] theorem State.suspend_freeIndex (x : CtxId) (c : Context) (w : Wand) :
    (s.suspend x c w).freeIndex = s.freeIndex := rfl
@[simp] theorem State.suspend_pending (x : CtxId) (c : Context) (w : Wand) :
    (s.suspend x c w).pending = s.pending := rfl
@[simp] theorem State.suspend_item_eq (x : CtxId) (c : Context) (w : Wand) (a : Tag) :
    (s.suspend x c w).item? a = s.item? a := rfl
@[simp] theorem State.releaseWalker_items (o : Option Wand) :
    (s.releaseWalker o).items = s.items := by
  cases o <;> rfl
@[simp] theorem State.releaseWalker_sections (o : Option Wand) :
    (s.releaseWalker o).sections = s.sections := by
  cases o <;> rfl
@[simp] theorem State.releaseWalker_decayLeft (o : Option Wand) :
    (s.releaseWalker o).decayLeft = s.decayLeft := by
  cases o <;> rfl
@[simp] theorem State.releaseWalker_claims (o : Option Wand) :
    (s.releaseWalker o).claims = s.claims := by
  cases o <;> rfl
@[simp] theorem State.releaseWalker_contexts (o : Option Wand) :
    (s.releaseWalker o).contexts = s.contexts := by
  cases o <;> rfl
@[simp] theorem State.releaseWalker_watch (o : Option Wand) :
    (s.releaseWalker o).watch = s.watch := by
  cases o <;> rfl
@[simp] theorem State.releaseWalker_campaign (o : Option Wand) :
    (s.releaseWalker o).campaign = s.campaign := by
  cases o <;> rfl
@[simp] theorem State.releaseWalker_clock (o : Option Wand) :
    (s.releaseWalker o).clock = s.clock := by
  cases o <;> rfl
@[simp] theorem State.releaseWalker_clockPart (o : Option Wand) :
    (s.releaseWalker o).clockPart = s.clockPart := by
  cases o <;> rfl
@[simp] theorem State.releaseWalker_forces (o : Option Wand) :
    (s.releaseWalker o).forces = s.forces := by
  cases o <;> rfl
@[simp] theorem State.releaseWalker_lampPhase (o : Option Wand) :
    (s.releaseWalker o).lampPhase = s.lampPhase := by
  cases o <;> rfl
@[simp] theorem State.releaseWalker_receiver (o : Option Wand) :
    (s.releaseWalker o).receiver = s.receiver := by
  cases o <;> rfl
@[simp] theorem State.releaseWalker_gathered (o : Option Wand) :
    (s.releaseWalker o).gathered = s.gathered := by
  cases o <;> rfl
@[simp] theorem State.releaseWalker_rxQueue (o : Option Wand) :
    (s.releaseWalker o).rxQueue = s.rxQueue := by
  cases o <;> rfl
@[simp] theorem State.releaseWalker_sendQueue (o : Option Wand) :
    (s.releaseWalker o).sendQueue = s.sendQueue := by
  cases o <;> rfl
@[simp] theorem State.releaseWalker_lastFrame (o : Option Wand) :
    (s.releaseWalker o).lastFrame = s.lastFrame := by
  cases o <;> rfl
@[simp] theorem State.releaseWalker_ltxSent (o : Option Wand) :
    (s.releaseWalker o).ltxSent = s.ltxSent := by
  cases o <;> rfl
@[simp] theorem State.releaseWalker_port (o : Option Wand) :
    (s.releaseWalker o).port = s.port := by
  cases o <;> rfl
@[simp] theorem State.releaseWalker_sdoTrace (o : Option Wand) :
    (s.releaseWalker o).sdoTrace = s.sdoTrace := by
  cases o <;> rfl
@[simp] theorem State.releaseWalker_events (o : Option Wand) :
    (s.releaseWalker o).events = s.events := by
  cases o <;> rfl
@[simp] theorem State.releaseWalker_settings (o : Option Wand) :
    (s.releaseWalker o).settings = s.settings := by
  cases o <;> rfl
@[simp] theorem State.releaseWalker_resetAsserted (o : Option Wand) :
    (s.releaseWalker o).resetAsserted = s.resetAsserted := by
  cases o <;> rfl
@[simp] theorem State.releaseWalker_freeIndex (o : Option Wand) :
    (s.releaseWalker o).freeIndex = s.freeIndex := by
  cases o <;> rfl
@[simp] theorem State.releaseWalker_pending (o : Option Wand) :
    (s.releaseWalker o).pending = s.pending := by
  cases o <;> rfl
@[simp] theorem State.releaseWalker_sec_eq (o : Option Wand) (X : SecId) :
    (s.releaseWalker o).sec X = s.sec X := by
  cases o <;> rfl
@[simp] theorem State.releaseWalker_item_eq (o : Option Wand) (a : Tag) :
    (s.releaseWalker o).item? a = s.item? a := by
  cases o <;> rfl
@[simp] theorem State.releaseWalker_ctx_eq (o : Option Wand) (y : CtxId) :
    (s.releaseWalker o).ctx y = s.ctx y := by
  cases o <;> rfl
@[simp] theorem State.tallySec_tables (S : SecId) :
    (s.tallySec S).tables = s.tables := by
  simp only [State.tallySec]; split <;> split <;> simp
@[simp] theorem State.tallySec_decayLeft (S : SecId) :
    (s.tallySec S).decayLeft = s.decayLeft := by
  simp only [State.tallySec]; split <;> split <;> simp
@[simp] theorem State.tallySec_claims (S : SecId) :
    (s.tallySec S).claims = s.claims := by
  simp only [State.tallySec]; split <;> split <;> simp
@[simp] theorem State.tallySec_contexts (S : SecId) :
    (s.tallySec S).contexts = s.contexts := by
  simp only [State.tallySec]; split <;> split <;> simp
@[simp] theorem State.tallySec_watch (S : SecId) :
    (s.tallySec S).watch = s.watch := by
  simp only [State.tallySec]; split <;> split <;> simp
@[simp] theorem State.tallySec_campaign (S : SecId) :
    (s.tallySec S).campaign = s.campaign := by
  simp only [State.tallySec]; split <;> split <;> simp
@[simp] theorem State.tallySec_clock (S : SecId) :
    (s.tallySec S).clock = s.clock := by
  simp only [State.tallySec]; split <;> split <;> simp
@[simp] theorem State.tallySec_clockPart (S : SecId) :
    (s.tallySec S).clockPart = s.clockPart := by
  simp only [State.tallySec]; split <;> split <;> simp
@[simp] theorem State.tallySec_forces (S : SecId) :
    (s.tallySec S).forces = s.forces := by
  simp only [State.tallySec]; split <;> split <;> simp
@[simp] theorem State.tallySec_lampPhase (S : SecId) :
    (s.tallySec S).lampPhase = s.lampPhase := by
  simp only [State.tallySec]; split <;> split <;> simp
@[simp] theorem State.tallySec_receiver (S : SecId) :
    (s.tallySec S).receiver = s.receiver := by
  simp only [State.tallySec]; split <;> split <;> simp
@[simp] theorem State.tallySec_gathered (S : SecId) :
    (s.tallySec S).gathered = s.gathered := by
  simp only [State.tallySec]; split <;> split <;> simp
@[simp] theorem State.tallySec_rxQueue (S : SecId) :
    (s.tallySec S).rxQueue = s.rxQueue := by
  simp only [State.tallySec]; split <;> split <;> simp
@[simp] theorem State.tallySec_sendQueue (S : SecId) :
    (s.tallySec S).sendQueue = s.sendQueue := by
  simp only [State.tallySec]; split <;> split <;> simp
@[simp] theorem State.tallySec_lastFrame (S : SecId) :
    (s.tallySec S).lastFrame = s.lastFrame := by
  simp only [State.tallySec]; split <;> split <;> simp
@[simp] theorem State.tallySec_ltxSent (S : SecId) :
    (s.tallySec S).ltxSent = s.ltxSent := by
  simp only [State.tallySec]; split <;> split <;> simp
@[simp] theorem State.tallySec_port (S : SecId) :
    (s.tallySec S).port = s.port := by
  simp only [State.tallySec]; split <;> split <;> simp
@[simp] theorem State.tallySec_sdoTrace (S : SecId) :
    (s.tallySec S).sdoTrace = s.sdoTrace := by
  simp only [State.tallySec]; split <;> split <;> simp
@[simp] theorem State.tallySec_settings (S : SecId) :
    (s.tallySec S).settings = s.settings := by
  simp only [State.tallySec]; split <;> split <;> simp
@[simp] theorem State.tallySec_resetAsserted (S : SecId) :
    (s.tallySec S).resetAsserted = s.resetAsserted := by
  simp only [State.tallySec]; split <;> split <;> simp
@[simp] theorem State.tallySec_freeIndex (S : SecId) :
    (s.tallySec S).freeIndex = s.freeIndex := by
  simp only [State.tallySec]; split <;> split <;> simp
@[simp] theorem State.tallySec_pending (S : SecId) :
    (s.tallySec S).pending = s.pending := by
  simp only [State.tallySec]; split <;> split <;> simp
@[simp] theorem State.tallySec_ctx_eq (S : SecId) (y : CtxId) :
    (s.tallySec S).ctx y = s.ctx y := by
  simp only [State.tallySec]; split <;> split <;> simp
@[simp] theorem State.tallySec_table_eq (S : SecId) (v : Wand) :
    (s.tallySec S).table v = s.table v := by
  simp only [State.tallySec]; split <;> split <;> simp

/-! ### What each does -/

@[simp] theorem State.sec_attend (S X : SecId) :
    (s.attend S).sec X = if X = S then { s.sec S with attention := true } else s.sec X := by
  unfold State.attend
  split
  · rename_i h
    split
    · subst_vars; rw [← h]
    · rfl
  · simp

@[simp] theorem State.attend_events (S : SecId) :
    (s.attend S).events = { s.events with
      raw := s.events.raw ||| if (s.sec S).attention then 0 else EventKind.attention.set } := by
  unfold State.attend
  split <;> simp [*]

@[simp] theorem State.sec_startWalk (x : CtxId) (S X : SecId) (w : Wand) :
    (s.startWalk x S w).sec X =
      if X = S then
        { s.sec S with
          state := .walking, context := some x, generation := (s.sec S).generation + 1 }
      else s.sec X := by
  rw [State.startWalk, State.sec_modSec]; rfl

@[simp] theorem State.ctx_startWalk (x y : CtxId) (S : SecId) (w : Wand) :
    (s.startWalk x S w).ctx y = if y = x then some (s.newContext S w) else s.ctx y := by
  rw [State.startWalk, State.modSec_ctx_eq, State.ctx_setCtx]

@[simp] theorem State.sec_resumeWalk (x : CtxId) (S X : SecId) (w : Wand) :
    (s.resumeWalk x S w).sec X =
      if X = S then { s.sec S with state := .walking, generation := (s.sec S).generation + 1 }
      else s.sec X := by
  rw [State.resumeWalk, State.sec_enter]; rfl

@[simp] theorem State.ctx_resumeWalk (x y : CtxId) (S : SecId) (w : Wand) :
    (s.resumeWalk x S w).ctx y =
      if y = x then
        (s.ctx x).map fun c => { c with walker := some w, lease := some s.fullLease }
      else s.ctx y := by
  rw [State.resumeWalk, State.enter_ctx_eq, State.ctx_modCtx]

@[simp] theorem State.sec_endWalk (x : CtxId) (S X : SecId) (st : SecState) :
    (s.endWalk x S st).sec X =
      if X = S then
        { s.sec S with state := st, context := none, generation := (s.sec S).generation + 1 }
      else s.sec X := by
  rw [State.endWalk, State.sec_modSec]; rfl

@[simp] theorem State.ctx_endWalk (x y : CtxId) (S : SecId) (st : SecState) :
    (s.endWalk x S st).ctx y = if y = x then none else s.ctx y := by
  rw [State.endWalk, State.modSec_ctx_eq, State.ctx_setCtx]

@[simp] theorem State.sec_suspend (x : CtxId) (c : Context) (w : Wand) (X : SecId) :
    (s.suspend x c w).sec X =
      if X = c.sec then
        { s.sec c.sec with state := .suspended, generation := (s.sec c.sec).generation + 1 }
      else s.sec X := by
  rw [State.suspend, State.releaseWaiting_sec_eq, State.sec_enter]; rfl

@[simp] theorem State.ctx_suspend (x y : CtxId) (c : Context) (w : Wand) :
    (s.suspend x c w).ctx y =
      if y = x then (s.ctx x).map fun d => { d with walker := none, lease := none }
      else s.ctx y := by
  rw [State.suspend, State.releaseWaiting_ctx_eq, State.enter_ctx_eq, State.ctx_modCtx]

@[simp] theorem State.table_suspend (x : CtxId) (c : Context) (w v : Wand) :
    (s.suspend x c w).table v = (s.releaseWaiting w).table v := by
  rw [State.suspend, State.table_releaseWaiting, State.table_releaseWaiting]; rfl

/-- The tally of a section (R102, R103). -/
@[simp] theorem State.tallySec_items (S : SecId) :
    (s.tallySec S).items = s.items.map fun r => if r.isHomeOf S then r.tallied else r := by
  simp only [State.tallySec]
  split <;> split <;> simp

@[simp] theorem State.sec_tallySec (S X : SecId) :
    (s.tallySec S).sec X =
      if X = S then
        { s.sec S with
          attention := (s.sec S).attention ||
            s.items.any fun r => r.isHomeOf S && r.tallyAttends
          generation := (s.sec S).generation +
            if s.items.any fun r => r.isHomeOf S && r.openAtTally then 1 else 0 }
      else s.sec X := by
  simp only [State.tallySec]
  by_cases hX : X = S
  · subst hX
    generalize (s.items.any fun r => r.isHomeOf X && r.tallyAttends) = a
    generalize (s.items.any fun r => r.isHomeOf X && r.openAtTally) = b
    cases a <;> cases b <;> simp
  · split <;> split <;> simp [hX]

@[simp] theorem State.tallySec_events (S : SecId) :
    (s.tallySec S).events = { s.events with
      raw := s.events.raw |||
        if (s.items.any fun r => r.isHomeOf S && r.tallyAttends) && !(s.sec S).attention then
          EventKind.attention.set else 0 } := by
  simp only [State.tallySec]
  generalize (s.items.any fun r => r.isHomeOf S && r.tallyAttends) = a
  cases a <;> cases h : (s.sec S).attention <;> split <;> simp [h]

/-! ### Grants (R54) -/

/-- With no waiter for the section nothing is granted. -/
theorem State.grantNext_none {S : SecId} (h : ∀ q ∈ s.claims, q.sec ≠ S) : s.grantNext S = s := by
  have : s.claims.find? (fun q => q.sec = S) = none := by simpa [List.find?_eq_none] using h
  rw [State.grantNext, this]

/-- The oldest waiter resumes a suspended walk. -/
theorem State.grantNext_resume {S : SecId} {q : Waiter} {x : CtxId}
    (hq : (s.claims.find? fun q => q.sec = S) = some q) (hs : (s.sec S).state = .suspended)
    (hx : (s.sec S).context = some x) :
    s.grantNext S =
      ((s.unclaim q.wand).resumeWalk x S q.wand).makeReady (.grant q.wand S true x) := by
  simp only [State.grantNext, hq, hs, hx, if_true]

/-- The oldest waiter begins a new walk in the free context of lowest index. -/
theorem State.grantNext_fresh {S : SecId} {q : Waiter} {x : CtxId}
    (hq : (s.claims.find? fun q => q.sec = S) = some q) (hs : (s.sec S).state ≠ .suspended)
    (hx : s.freeCtx = some x) :
    s.grantNext S =
      ((s.unclaim q.wand).startWalk x S q.wand).makeReady (.grant q.wand S false x) := by
  simp only [State.grantNext, hq, hs, hx, if_false]

/-- A context that is free guarantees that `freeCtx` finds one. -/
theorem State.freeCtx_exists {x : CtxId} (h : s.ctx x = none) :
    ∃ y, s.freeCtx = some y ∧ s.ctx y = none ∧ ∀ z : CtxId, z < y → s.ctx z ≠ none := by
  cases hf : s.freeCtx with
  | none => exact absurd h (s.freeCtx_eq_none.mp hf x)
  | some y => exact ⟨y, rfl, s.freeCtx_eq_some.mp hf⟩

end Sys2Proof.Machine
end

