-- ==== Sys2Proof/Tests/Slice0.lean ====
section
/-!
SUPPORT. Tests of the model: what is ill formed, words and bytes of the wire formats, one small step of
each command with the value that the manual gives, and for each statement with hypotheses a state that
meets them.
-/

namespace Sys2Proof.Tests

open Sys2Proof.Machine

-- one theorem at a time: many kernel evaluations at once take more threads than memory allows
set_option Elab.async false

/-! ### States to test on -/

/-- The state after a command. -/
def after (c : Instr) (s : State) : State :=
  match exec c s with
  | .next t => t
  | .fault _ => s
  | .refused _ => s

/-- The response held, as status and results. -/
def answered (s : State) : Option (Status × List Field) :=
  match s.port with
  | .holding r _ => some (r.status, r.results)
  | .idle => none
  | .working _ _ => none

def tagOf (n : Nat) : Tag := BitVec.ofNat 64 n

/-- A home item with no finding. -/
def volume (n : Nat) (H : SecId) (c : CountState) : Item where
  tag := tagOf n
  home := some H
  circ := some .shelf
  count := c
  found := none
  prior := none
  sight := 0
  moved := false
  conflict := false

/-- A home item with a finding at time 0. -/
def found (n : Nat) (H : SecId) (c : CountState) (S : SecId) (pos : Nat) : Item :=
  { volume n H c with found := some ⟨S, pos, 0⟩, sight := 1 }

/-- A provisional record found in a section. -/
def stranger (n : Nat) (S : SecId) : Item where
  tag := tagOf n
  home := none
  circ := none
  count := .unlisted
  found := some ⟨S, 0, 0⟩
  prior := none
  sight := 1
  moved := false
  conflict := false

/-- A section record with a list. -/
def shelfOf (st : SecState) (tags : List Nat) : SectionRec :=
  { SectionRec.blank with state := st, expected := tags.map tagOf, tolerance := 2 }

/-- RUNNING, section 5 READY with volumes 100 to 103 UNSEEN, section 6 READY with volume 200. -/
def ready : State :=
  { (State.reset.setSec 5 (shelfOf .ready [100, 101, 102, 103])).setSec 6 (shelfOf .ready [200]) with
    campaign := .running
    items := [volume 100 5 .unseen, volume 101 5 .unseen, volume 102 5 .unseen,
      volume 103 5 .unseen, volume 200 6 .unseen] }

/-- A walk of section 5 by wand 1 in context 0. -/
def walkOf5 : Context where
  sec := 5
  walker := some 1
  cursor := 0
  run := []
  park := []
  lease := some 120000
  markHit := false

/-- Section 5 walked by wand 1, nothing found yet. -/
def walking : State :=
  (ready.setSec 5 { shelfOf .walking [100, 101, 102, 103] with context := some 0 }).setCtx 0
    (some walkOf5)

/-- The walk as a suspended one. -/
def suspended : State :=
  (ready.setSec 5 { shelfOf .suspended [100, 101, 102, 103] with context := some 0 }).setCtx 0
    (some { walkOf5 with walker := none, lease := none })

/-- The walk with section 5's revision open. -/
def revising : State := walking.modSec 5 fun x => { x with revision := some 10000 }

/-- The revision with no time left. -/
def overdue : State := walking.modSec 5 fun x => { x with revision := some 0 }

/-- The walk with no time left on its lease, and wand 3 waiting. -/
def silent : State :=
  { walking.setCtx 0 (some { walkOf5 with lease := some 0 }) with claims := [⟨3, 5⟩] }

/-- Volume 103 stands HELD in the run of section 5's walk. -/
def held : State :=
  { walking.setCtx 0 (some { walkOf5 with run := [tagOf 103] }) with
    items := [volume 100 5 .unseen, volume 101 5 .unseen, volume 102 5 .unseen,
      { found 103 5 .held 5 0 with prior := some .unseen }, volume 200 6 .unseen] }

/-- Volume 200 of section 6 stands ELSEWHERE on section 5's chain, before provisional record 900. -/
def strays : State :=
  { ready.setSec 5
      { shelfOf .tallied [100, 101, 102, 103] with chain := [tagOf 200, tagOf 900], walks := 1 } with
    items := ready.items.take 4 ++ [found 200 6 .elsewhere 5 0, stranger 900 5] }

/-- Two reads that confirm a tag at the reset settings: 215 + 215 = 430 (R28, R29). -/
def confirming (w : Wand) (n : Nat) : Instr := .sight w [⟨tagOf n, 255⟩, ⟨tagOf n, 255⟩]

/-- The frame code and the fields of the first answer in the send queue. -/
def firstAnswer (s : State) : Option (FrameCode × List Field) :=
  match s.sendQueue.head? with
  | some (.answer _ _ code fields) => some (code, fields)
  | _ => none

/-! ### Well-formedness: a term that each check refuses -/

theorem test_illformed_transfers :
    (Instr.readTransfer 0).wellFormed = false ∧
      (Instr.ignoredTransfer (.badDirection 1 0)).wellFormed = false ∧
      (Instr.ignoredTransfer (.badDirection 2 0)).wellFormed = false := by decide

theorem test_illformed_sections :
    [Instr.revOpen 65536, .revInsert 65536 0 0 0, .revInsert 0 65536 0 0, .revAdopt 0 65536 0,
      .revAdopt 0 0 65536, .revClose 65536, .secUnload 65536, .walkAbandon 65536, .attAck 65536,
      .secRead 65536, .secList 65536 0 0, .secList 0 0 4294967296, .secReset 65536,
      .claim 0 65536].all (fun i => !i.wellFormed) = true := by decide +kernel

theorem test_illformed_settings :
    [Instr.secSet 65536 0 0 none none, .secSet 0 256 0 none none, .secSet 0 0 256 none none,
      .secSet 0 0 0 (some 65536) none, .walkRead 256, .watchSet 256 0 0 0 false,
      .watchSet 0 0 0 256 false, .watchClear 256, .watchRead 256, .watchAck 256,
      .lampForce 256 0, .wandRead 256, .setWrite 256 0, .setWrite 0 65536].all
      (fun i => !i.wellFormed) = true := by decide +kernel

theorem test_illformed_frames :
    (Instr.frameReceived ⟨0, 0, List.replicate 256 0, 0⟩).wellFormed = false ∧
      (Instr.badFrame 0 7).wellFormed = false ∧
      (Instr.sight 0 (List.replicate 29 ⟨0, 0⟩)).wellFormed = false ∧
      (Instr.walkendOtherMode 0 2).wellFormed = false := by decide +kernel

/-! ### Bytes of the wire formats -/

/-- R174's check value: the CRC of the nine ASCII digits 1 to 9 is 29B1H. -/
theorem test_crc : crc16 [0x31, 0x32, 0x33, 0x34, 0x35, 0x36, 0x37, 0x38, 0x39] = 0x29B1 := by
  decide +kernel

/-- REV_INSERT, code 11H: section 14, ordinal 300, tag 3E09_1C44_0000_07A2H, LOAN (11.3, R209). -/
theorem test_rev_insert_packet :
    (after (.writeTransfer [0x11, 0x00, 0x0D, 0x00, 0x0E, 0x01, 0x2C, 0x3E, 0x09, 0x1C, 0x44, 0x00,
      0x00, 0x07, 0xA2, 0x01]) State.reset).port =
      .working (.request (.revInsert 14 300 0x3E091C44000007A2 1)) false := by decide +kernel

/-- SEC_SET, code 20H: section 5, tolerance 2, lamp 7, mark 8, no end marker (11.3, R209). -/
theorem test_sec_set_packet :
    (after (.writeTransfer [0x20, 0x00, 0x10, 0x00, 0x05, 0x02, 0x07, 0x01, 0x00, 0x08, 0x00, 0xFF,
      0, 0, 0, 0, 0, 0, 0]) State.reset).port =
      .working (.request (.secSet 5 2 7 (some 8) none)) false := by decide +kernel

/-- A CLAIM frame from wand 9 for section 12: 7E 09 03 02 00 0C and its CRC (R210). -/
theorem test_claim_frame :
    gatheredFrame [0x09, 0x03, 0x02, 0x00, 0x0C, 0xAB, 0xCD] = some ⟨9, 3, [0x00, 0x0C], 0xABCD⟩ ∧
      frameOf 9 3 [0x00, 0x0C] = some (.claim 9 12) := by decide +kernel

/-- A SIGHT payload of two reads (R211). -/
theorem test_sight_payload :
    frameOf 5 2 [0x02, 0x3E, 0x09, 0x1C, 0x44, 0x00, 0x00, 0x07, 0xA2, 0xFF,
      0, 0, 0, 0, 0, 0, 0, 0x0B, 0x1E] =
      some (.sight 5 [⟨0x3E091C44000007A2, 255⟩, ⟨0x0B, 30⟩]) := by decide +kernel

/-- A part frame on LTX: DROP to wand 4 naming section 300, CLOSED (R210). -/
theorem test_drop_bytes :
    ((PartFrame.drop 4 300 true).bytes 0).1.take 7 = [0x7E, 0x04, 0x84, 0x03, 0x01, 0x2C, 0x01] ∧
      ((PartFrame.drop 4 300 true).bytes 0).1.length = 9 := by decide +kernel

/-! ### The catalogue port (11.2, and the worked example there) -/

theorem test_write_transfer :
    (after (.writeTransfer [0x30, 0, 0])
      { ready with port := .working (.request (.revClose 5)) false }).port =
      .working (.request (.revClose 5)) true := by decide +kernel

theorem test_read_transfer :
    (after (.readTransfer 8)
      { ready with port := .holding ⟨0x14, .done, [.num8 32]⟩ true }).sdoTrace =
      [.driven 0x00, .driven 0x0B, .driven 0x14, .driven 0x00, .driven 0x00, .driven 0x01,
        .driven 0x20, .driven 0x00, .highImpedance] := by decide +kernel

theorem test_ignored_transfer :
    (after (.ignoredTransfer (.badDirection 3 2)) ready).sdoTrace =
      [.driven 0, .driven 0, .driven 0, .highImpedance] ∧
      (after (.ignoredTransfer (.badDirection 3 2)) ready).port = .idle := by decide +kernel

/-- R194: a refused packet goes through WORKING, where a second write is lost (R196). -/
theorem test_bad_request :
    (after (.writeTransfer [0x30, 0, 1, 9]) ready).port = .working (.malformed 0x30) false ∧
      (after (.writeTransfer [0x30, 0, 0]) (after (.writeTransfer [0x30, 0, 1, 9]) ready)).port =
        .working (.malformed 0x30) true := by decide +kernel

/-- R194: the processing of the refused packet ends in HOLDING with BAD_REQUEST. -/
theorem test_bad_request_answer :
    (after (.readTransfer 6) (ready.refusePacket 0x30 true)).sdoTrace =
      [.driven 0x00, .driven 0x0B, .driven 0x30, .driven 0x02, .driven 0x00, .driven 0x00,
        .highImpedance] := by decide +kernel

/-! ### Shelf-lists (chapter 1) -/

theorem test_rev_open : ((after (.revOpen 6) ready).sec 6).revision = some 10000 ∧
    ((after (.revOpen 6) ready).sec 6).generation = 1 := by decide +kernel

/-- The first insertion of the revision example: below the cursor, which moves with its item. -/
theorem test_rev_insert :
    ((after (.revInsert 5 0 (tagOf 50) 0)
      { revising with contexts := revising.contexts.set 0 (some { walkOf5 with cursor := 1 }) }).ctx
      0).map (fun c => c.cursor) = some 2 ∧
      ((after (.revInsert 5 0 (tagOf 50) 0) revising).sec 5).expected =
        [50, 100, 101, 102, 103].map tagOf := by decide +kernel

theorem test_rev_retire :
    ((after (.revRetire (tagOf 101)) revising).sec 5).expected = [100, 102, 103].map tagOf ∧
      (after (.revRetire (tagOf 101)) revising).item? (tagOf 101) = none := by decide +kernel

theorem test_rev_adopt :
    ((after (.revAdopt (tagOf 900) 5 4)
      (strays.modSec 5 fun x => { x with revision := some 10000 })).item? (tagOf 900)).map
      (fun r => (r.home, r.count)) = some (some 5, .inPlace) := by decide +kernel

/-- A drained park queue: 100 is applied and counted (R95). -/
theorem test_rev_close :
    answered (after (.revClose 5) { revising with
      contexts := revising.contexts.set 0 (some { walkOf5 with park := [tagOf 100] }) }) =
      some (.done, [.num8 1]) := by decide +kernel

/-- R17: the expiry closes the revision; behind a REV_INSERT, which reloads the timer, there is none. -/
theorem test_revision_expiry :
    ((after (.revisionExpiry 5) overdue).sec 5).revision = none ∧
      (after (.revisionExpiry 5) overdue).events.raw = 0b001000000 ∧
      ((after (.revisionExpiry 5) (after (.revInsert 5 0 (tagOf 50) 0) overdue)).sec 5).revision =
        some 10000 := by decide +kernel

theorem test_sec_unload :
    (after (.secUnload 5) strays).items = [volume 200 6 .unseen].map (fun r => { r with sight := 1 }) ∧
      ((after (.secUnload 5) strays).sec 5).state = .empty := by decide +kernel

/-- R112: the unloading of an empty section changes its state alone, and bumps it once. -/
theorem test_sec_unload_empty :
    ((after (.secUnload 9) (ready.setSec 9 { SectionRec.blank with state := .ready })).sec
      9).generation = 1 := by decide +kernel

theorem test_item_drop :
    ((after (.itemDrop (tagOf 900)) strays).sec 5).chain = [tagOf 200] := by decide +kernel

/-- R213's second example: a provisional record has presence 02H and count state 09H. -/
theorem test_item_read :
    (match (after (.itemRead (tagOf 900)) strays).port with
      | .holding r _ => (fieldsBytes 0 r.results).1.drop 8
      | _ => []) =
      [0x02, 0xFF, 0xFF, 0xFF, 0xFF, 0xFF, 0x09, 0x00, 0x05, 0x00, 0x00, 0, 0, 0, 0, 0xFF, 0x01,
        0x00] := by decide +kernel

/-! ### Sections and walks (chapter 3) -/

theorem test_sec_set :
    answered (after (.secSet 5 20 48 (some 9) none) ready) = some (.clamped, []) ∧
      ((after (.secSet 5 20 48 (some 9) none) ready).sec 5).mark = some 4 := by decide +kernel

theorem test_walk_abandon :
    ((after (.walkAbandon 5) held).item? (tagOf 103)).map (fun r => (r.count, r.found)) =
      some (.unseen, none) ∧
      (after (.walkAbandon 5) held).sendQueue = [.drop 1 5 false] := by decide +kernel

theorem test_walk_read :
    answered (after (.walkRead 1) walking) = some (.done, [.flag false]) := by decide +kernel

theorem test_claimq_read :
    answered (after .claimqRead { walking with claims := [⟨3, 5⟩] }) =
      some (.done, [.num8 1, .num8 3, .num16 5]) := by decide +kernel

/-- The claims example: a second claim is queued at position 1. -/
theorem test_claim :
    firstAnswer (after (.claim 2 5) walking) = some (.queued, [.num16 5, .num8 1]) ∧
      firstAnswer (after (.claim 2 6) walking) =
        some (.granted, [.num16 6, .num8 1, .flag false]) := by decide +kernel

theorem test_walkend_complete :
    ((after (.walkendComplete 1) held).item? (tagOf 103)).map (fun r => r.count) =
      some .disordered ∧
      ((after (.walkendComplete 1) held).sec 5).generation = 2 := by decide +kernel

theorem test_walkend_break :
    ((after (.walkendBreak 1) walking).sec 5).state = .suspended ∧
      (after (.walkendBreak 1) walking).events.raw = 0 := by decide +kernel

theorem test_walkend_other_mode :
    firstAnswer (after (.walkendOtherMode 1 3) walking) = some (.badFrame, []) := by decide +kernel

theorem test_hello :
    firstAnswer (after (.hello 1) walking) = some (.ok, [.standing .walking, .num16 5]) ∧
      ((after (.hello 1) walking).sec 5).state = .suspended := by decide +kernel

/-- The claims example: the lease expires, and the oldest waiter resumes. -/
theorem test_lease_expiry :
    (after (.leaseExpiry 0) silent).sendQueue = [.suspended 1 5, .grant 3 5 true 0] ∧
      ((after (.leaseExpiry 0) silent).sec 5).state = .walking := by decide +kernel

/-- R59: a frame of the walker taken first loads the lease, and there is no expiry. -/
theorem test_lease_expiry_behind_keep :
    ((after (.leaseExpiry 0) (after (.keep 1) silent)).ctx 0).map (fun c => c.walker) =
      some (some 1) ∧
      (after (.leaseExpiry 0) (after (.keep 1) silent)).events.raw = 0 := by decide +kernel

/-! ### Confirmations and verdicts (chapters 2 and 4) -/

/-- The confirmation example: strengths 180 and 35 leave a score of 140. The gap example's third sighting:
d = 1, the item passed over becomes PASSED, the cursor 2. -/
theorem test_sight_gathers_and_places :
    ((after (.sight 4 [⟨tagOf 7, 180⟩, ⟨tagOf 7, 35⟩]) ready).table 4).entries[0] =
        .gathering (tagOf 7) 140 0 ∧
      ((after (confirming 1 101) walking).item? (tagOf 100)).map (fun r => r.count) = some .passed ∧
      ((after (confirming 1 101) walking).ctx 0).map (fun c => c.cursor) = some 2 := by
  decide +kernel

/-- At its end the tick halves; with time left it is no expiry (R33, R138). -/
theorem test_decay_tick :
    ((after .decayTick { after (.sight 4 [⟨tagOf 7, 255⟩, ⟨tagOf 7, 75⟩]) ready with
      decayLeft := 0 }).table 4).entries[0] = .gathering (tagOf 7) 125 0 ∧
      (after .decayTick { ready with decayLeft := 1 }).decayLeft = 1 := by decide +kernel

/-! ### Section results (chapter 5) -/

theorem test_att_next :
    answered (after .attNext { ready with
      sections := ready.sections.set 6 { ready.sec 6 with attention := true } }) =
      some (.done, [.num16Opt (some 6)]) := by decide +kernel

theorem test_att_ack :
    answered (after (.attAck 6) ready) = some (.done, [.flag false]) := by decide +kernel

theorem test_sec_read :
    (answered (after (.secRead 5) strays)).map (fun a => (a.2.take 4, a.2.drop 17)) =
      some ([.secState .tallied, .flag false, .num16Opt none, .num16 4],
        [.num32 2, .flag false, .generation 0, .num8 1, .num8Opt none]) := by decide +kernel

/-- The FOREIGN list of the tally example: a stray with its home, a provisional record with none. -/
theorem test_sec_list :
    answered (after (.secList 5 1 0) strays) = some (.done,
      [.num32 2, .generation 0, .num8 2, .tag (tagOf 200), .num16Opt (some 6), .num16Opt (some 0),
        .tag (tagOf 900), .num16Opt none, .num16Opt (some 0)]) := by decide +kernel

theorem test_sec_reset :
    answered (after (.secReset 5) strays) = some (.done, [.num16 0, .num32 2]) ∧
      ((after (.secReset 5) strays).sec 5).state = .ready := by decide +kernel

/-! ### Circulation and reshelving (chapter 6) -/

/-- The loan example's first row: UNSEEN becomes DESK, with one bump. -/
theorem test_circ_out :
    answered (after (.circOut (tagOf 100)) ready) =
      some (.done, [.num16 5, .count .desk, .flag true]) ∧
      ((after (.circOut (tagOf 100)) ready).sec 5).generation = 1 := by decide +kernel

theorem test_circ_in :
    answered (after (.circIn (tagOf 200)) strays) =
      some (.done, [.num16 6, .count .elsewhere, .flag false, .flag false]) := by decide +kernel

theorem test_item_clear :
    answered (after (.itemClear (tagOf 900)) strays) = some (.done, [.flag false, .flag false]) := by
  decide +kernel

/-- The reshelving example: the stray leaves the chain and is IN_PLACE at its own ordinal. -/
theorem test_shelved :
    firstAnswer (after (.shelved 9 (tagOf 200)) strays) =
      some (.ok, [.num16 6, .num16 0, .count .elsewhere]) ∧
      ((after (.shelved 9 (tagOf 200)) strays).sec 5).chain = [tagOf 900] := by decide +kernel

theorem test_where :
    firstAnswer (after (.whereIs 3 (tagOf 100)) ready) = some (.ok,
      [.num16 5, .num16 0, .count .unseen, .tagOpt none, .tagOpt (some (tagOf 101))]) := by
  decide +kernel

/-! ### The campaign (chapter 7) -/

theorem test_camp_start :
    (after .campStart { strays with campaign := .closed }).items.map (fun r => (r.count, r.sight)) =
      [(.unseen, 0), (.unseen, 0), (.unseen, 0), (.unseen, 0), (.unseen, 0)] ∧
      (after .campStart { strays with campaign := .closed }).campaign = .running := by decide +kernel

/-- Section 5 READY with one item. -/
def beginning (r : Item) : State :=
  { State.reset with
    sections := State.reset.sections.set 5 (shelfOf .ready [100])
    items := [r] }

/-- A READY section with an item DESK or with a review flag set is bumped, and one at the start of a count
is not (R125, R142). -/
theorem test_camp_start_bumps :
    ((beginning (volume 100 5 .desk)).startedSec 5).generation = 1 ∧
      ((beginning { volume 100 5 .unseen with conflict := true }).startedSec 5).generation = 1 ∧
      ((beginning (volume 100 5 .unseen)).startedSec 5).generation = 0 := by decide +kernel

theorem test_camp_pause : (after .campPause ready).campaign = .paused := by decide +kernel

theorem test_camp_resume :
    (after .campResume { ready with campaign := .paused }).campaign = .running := by decide +kernel

/-- As in the close example: a run entry is DISORDERED, an UNSEEN item MISSING, the walker dropped. -/
theorem test_camp_close :
    held.closeCampaign.items.map (fun r => r.count) =
      [.missing, .missing, .missing, .disordered, .missing] ∧
      held.closeCampaign.sendQueue = [.drop 1 5 true] ∧
      answered (after .campClose State.reset) = some (.wrongState, []) := by decide +kernel

theorem test_camp_read :
    (answered (after .campRead walking)).map (fun a => a.2.take 6) = some
      [.campState .running, .num32 0, .num32 5, .num32 0, .num8 1, .num8 0] := by decide +kernel

theorem test_campaign_clock_second :
    (after .campaignClockSecond { ready with clock := 4294967295, clockPart := 1000 }).clock =
        4294967295 ∧
      (after .campaignClockSecond { ready with clockPart := 1000 }).clock = 1 ∧
      (after .campaignClockSecond { ready with clockPart := 999 }).clock = 0 := by decide +kernel

/-! ### The watch table (chapter 8) -/

theorem test_watch_set :
    answered (after (.watchSet 3 1 2 9 true) ready) = some (.clamped, [.flag false, .flag false]) ∧
      (after (.watchSet 3 1 2 9 true) ready).watch[3].cls = 3 := by decide +kernel

theorem test_watch_clear :
    (after (.watchClear 3) (after (.watchSet 3 1 2 0 true) ready)).watch[3].valid = false := by
  decide +kernel

theorem test_watch_read :
    (answered (after (.watchRead 3) ready)).map (fun a => a.2.length) = some 10 := by decide +kernel

/-- Entry 3 of the watch example: a pending hit is found although the entry is invalid. -/
theorem test_watch_next :
    answered (after .watchNext { ready with
      watch := ready.watch.set 3 { WatchEntry.blank with hitPending := true } }) =
      some (.done, [.num8Opt (some 3)]) := by decide +kernel

theorem test_watch_ack :
    answered (after (.watchAck 15) ready) = some (.done, [.flag false]) := by decide +kernel

/-! ### Lamps (chapter 9) -/

theorem test_lamp_force :
    (after (.lampForce 47 0x01) ready).forces[47] = some .on ∧
      (after (.lampForce 47 0x01) ready).lampLit 47 = true ∧
      answered (after (.lampForce 48 0x01) ready) = some (.badRequest, []) := by decide +kernel

/-- The phase example: FLICKER is lit at 1,100 ms and dark at 1,125 ms. -/
theorem test_flicker : Pattern.flicker.litAt 1100 = true ∧ Pattern.flicker.litAt 1125 = false ∧
    Pattern.blinkEven.litAt 1499 = true ∧ Pattern.blinkEven.litAt 1500 = false := by decide

theorem test_lamp_phase_wrap :
    (after .lampPhaseWrap { ready with lampPhase := 2000 }).lampPhase = 0 ∧
      (after .lampPhaseWrap { ready with lampPhase := 1999 }).lampPhase = 1999 := by decide +kernel

/-! ### The stack link (chapter 10) -/

theorem test_byte_received :
    (after (.byteReceived 0x7E) ready).receiver = .gather [] 0 ∧
      (after (.byteReceived 0x7D) ready).receiver = .hunt := by decide +kernel

theorem test_framing_error :
    (after .framingError { ready with receiver := .gather [1] 0 }).receiver = .hunt := by
  decide +kernel

/-- More than 1 ms after a byte the frame is abandoned, and just after a byte it is not (R138, R173). -/
theorem test_receiver_gap :
    (after .receiverGap { ready with receiver := .gather [1] 2 }).receiver = .hunt ∧
      (after .receiverGap { ready with receiver := .gather [1] 0 }).receiver = .gather [1] 0 := by
  decide +kernel

theorem test_frame_received :
    (after (.frameReceived (rawFrame 9 0x03 [0x00, 0x0C])) ready).rxQueue = [.claim 9 12] ∧
      (after (.frameReceived ⟨9, 0x03, [0x00, 0x0C], 0⟩) ready).rxQueue = [] := by decide +kernel

theorem test_frame_sent :
    (after .frameSent { ready with sendQueue := [.suspended 2 300, .suspended 3 1] }).sendQueue =
      [.suspended 3 1] ∧
      (match (after .frameSent { ready with sendQueue := [.suspended 2 300] }).ltxSent with
        | some (.whole bytes) => bytes.take 6
        | _ => []) = [0x7E, 0x02, 0x83, 0x02, 0x01, 0x2C] := by decide +kernel

/-- A reset cuts off the frame being sent and takes LTX to its idle level (R191). -/
theorem test_ltx :
    ({ ready with sendQueue := [.suspended 2 300] } : State).ltxPin = .sending (.suspended 2 300) ∧
      (after (.deviceReset .powerApplied) { ready with sendQueue := [.suspended 2 300] }).ltxPin =
        .idleHigh ∧ ready.ltxPin = .idleHigh := by decide +kernel

theorem test_bad_frame :
    firstAnswer (after (.badFrame 0 0x0F) { ready with campaign := .paused }) =
      some (.badFrame, []) := by decide +kernel

/-- The stream example: KEEP from a wand that neither walks nor waits. -/
theorem test_keep :
    firstAnswer (after (.keep 2) walking) = some (.ok, [.standing .none]) ∧
      firstAnswer (after (.keep 1) walking) = some (.ok, [.standing .walking, .num16 5, .num8 0,
        .num16 0, .num16 4, .num8 0, .num8 0, .flag false]) := by decide +kernel

theorem test_wand_read :
    (answered (after (.wandRead 1) walking)).map (fun a => a.2.drop 1) = some
      [.num16Opt (some 5), .num8Opt (some 0), .num16Opt none, .num8Opt none, .num8 0, .num8 0,
        .num8 0] := by decide +kernel

/-! ### The event unit and the settings (11.4, 11.5) -/

/-- The lines example's first raised kind: LEASE_EXPIRED, enabled, is routed to URGENT. -/
theorem test_evt_enable :
    (after (.evtEnable 0b000100110) { ready with
      events := { ready.events with raw := EventKind.leaseExpired.set } }).urgentAsserted = true ∧
      (after (.evtEnable 0b000100110) ready).attnAsserted = false := by decide +kernel

theorem test_evt_clear :
    (after (.evtClear 0b000000001) { ready with
      events := { ready.events with raw := 0b000000011 } }).events.raw = 0b000000010 := by
  decide +kernel

theorem test_evt_force :
    answered (after (.evtForce 0b1000000000) ready) = some (.badRequest, []) ∧
      (after (.evtForce 0b100000000) ready).events.raw = 0b100000000 := by decide +kernel

theorem test_evt_route :
    answered (after (.evtRoute 0) ready) = some (.done, [.kinds 0b111100000]) := by decide +kernel

theorem test_evt_read :
    answered (after .evtRead ready) = some (.done,
      [.kinds 0, .kinds 0, .kinds 0, .kinds 0b111100000, .flag false, .flag false]) := by
  decide +kernel

theorem test_set_write :
    answered (after (.setWrite 3 48) ready) = some (.clamped, [.num8 3, .num16 64, .num16 32]) ∧
      answered (after (.setWrite 2 1023) ready) =
        some (.done, [.num8 2, .num16 1023, .num16 300]) := by decide +kernel

theorem test_set_read :
    answered (after .setRead ready) = some (.done,
      [.num16 40, .num16 300, .num16 32, .num16 8, .num16 120, .num16 10, .num16 3, .num16 3,
        .num16 64]) := by decide +kernel

/-! ### Reset -/

theorem test_device_reset :
    (after (.deviceReset .pinAsserted) walking).campaign = .stopped ∧
      (after (.deviceReset .pinAsserted) walking).resetAsserted = true := by decide +kernel

theorem test_reset_release :
    (after .resetRelease { ready with resetAsserted := true }).resetAsserted = false := by
  decide +kernel

/-! ### Witnesses: states and operands that meet the hypotheses of the statements

One theorem for each statement that has hypotheses, named after it, with a part for each clause. -/

/-- A free port in a part that is not in reset serves any request. -/
theorem serves {s : State} {c : Instr} (h : s.resetAsserted = false := by rfl)
    (k : s.port = .idle := by rfl) : s.Serves c :=
  State.serves_of_idle h k c

/-- With nothing received or to send a frame may be taken. -/
theorem takes {s : State} {f : Instr} (h : s.resetAsserted = false := by rfl)
    (k : s.sendQueue = [] := by rfl) (q : s.rxQueue = [] := by rfl) : s.Takes f :=
  ⟨h, by rw [k]; decide, .inl q⟩

theorem not_working {s : State} (h : s.port = .idle := by rfl) (inHand : InHand) (lost : Bool) :
    s.port ≠ .working inHand lost := by
  rw [h]; exact Port.noConfusion

theorem reset_expiryDue : State.reset.expiryDue = none := by
  have hc : ∀ x, State.reset.leaseOver x = false := by decide +kernel
  have hr : ∀ S : SecId, State.reset.revisionOver S = false := fun S => by
    have : (State.reset.sec S).revision = none := by
      show (Vector.replicate 512 SectionRec.blank)[S].revision = none
      simp [SectionRec.blank]
    simp [State.revisionOver, this]
  have h1 : (List.finRange 16).find? State.reset.leaseOver = none := by simp [hc]
  have h2 : (List.finRange 512).find? State.reset.revisionOver = none := by simp [hr]
  unfold State.expiryDue
  rw [h1, h2]
  rfl

/-- Each thing that may be due to an idle step, with every timer running, at its end and before it. -/
theorem witness_TimersCountAndExpire :
    (ready.pending = [] ∧ ready.resetAsserted = false) ∧
    { ready with gathered := [rawFrame 1 0x01 []] }.gathered = rawFrame 1 0x01 [] :: [] ∧
    (ready.gathered = [] ∧ { ready with port := .working (.request .attNext) true }.port =
      .working (.request .attNext) true) ∧
    ((∀ h lost, ready.port ≠ .working h lost) ∧ { ready with rxQueue := [.keep 1] }.rxQueue =
      .keep 1 :: [] ∧ ready.sendQueue.length < 32 ∧ ready.rxQueue = []) ∧
    (TimerOut { ready with decayLeft := 0 } .decayTick ∧
      TimerOut { ready with clockPart := 1000 } .campaignClockSecond ∧
      TimerOut { ready with lampPhase := 2000 } .lampPhaseWrap ∧
      TimerOut { ready with receiver := .gather [] 2 } .receiverGap ∧
      TimerOut silent (.leaseExpiry 0) ∧ TimerOut overdue (.revisionExpiry 5)) ∧
    (∀ c, ¬ TimerOut State.reset c) ∧ State.reset.sendQueue = [] ∧
    (IsExpiry .decayTick ∧ ¬ TimerOut { ready with decayLeft := 1 } .decayTick) :=
  ⟨⟨rfl, rfl⟩, rfl, ⟨rfl, rfl⟩, ⟨not_working, rfl, by decide +kernel, rfl⟩,
    ⟨⟨by decide, rfl⟩, ⟨rfl, by decide⟩, by show 2000 ≤ 2000; decide, ⟨[], 2, rfl, by decide⟩,
      (silent.leaseOver_iff 0).1 (by decide +kernel), ⟨by decide +kernel, by decide +kernel⟩⟩,
    State.expiryDue_none reset_expiryDue, rfl,
    .inr (.inr (.inl rfl)), fun h => absurd h.2 (by decide)⟩

theorem witness_WriteTransferTakesEveryRequest :
    (Instr.revInsert 65535 0 (tagOf 1) 1).WellFormed ∧
      requestPacket (.revInsert 65535 0 (tagOf 1) 1) =
        some (0x11, [0xFF, 0xFF, 0, 0, 0, 0, 0, 0, 0, 0, 0, 1, 1]) ∧
      ready.resetAsserted = false ∧ ∀ h lost, ready.port ≠ .working h lost :=
  ⟨by decide, by decide +kernel, rfl, not_working⟩

theorem witness_TransfersThatTakeNoRequest :
    [(0x30 : Byte), 0].length < 3 ∧ requestLength 0x00 = none ∧
      (requestLength 0x30 = some 0 ∧ (0 : Byte).toNat * 256 + (1 : Byte).toNat ≠ 0) ∧
      ready.resetAsserted = false ∧ (∀ h lost, ready.port ≠ .working h lost) ∧
      ready.pending = [] ∧ ready.gathered = [] :=
  ⟨by decide, by decide, by decide, rfl, not_working, rfl, rfl⟩

theorem witness_WriteWhileWorkingIsLost :
    { ready with port := .working (.request .attNext) false }.port =
        .working (.request .attNext) false ∧
      { ready with port := .working (.malformed 0) true }.port = .working (.malformed 0) true ∧
      ready.resetAsserted = false ∧ (requestPacket .attNext).isSome = true ∧
      ready.pending = [] ∧ ready.gathered = [] ∧ 2 ≤ 2 := by decide +kernel

theorem witness_ReadTransferReportsThePort :
    ready.resetAsserted = false ∧ 2 ≤ 2 ∧ ready.port = .idle ∧
      { ready with port := .working (.malformed 0) true }.port = .working (.malformed 0) true ∧
      { ready with port := .holding ⟨0x30, .done, []⟩ true }.port =
        .holding ⟨0x30, .done, []⟩ true := by decide +kernel

theorem witness_RefusedRequestsChangeNoState :
    requestPacket (.revOpen 512) = some (0x10, [0x02, 0x00]) ∧ ready.Serves (.revOpen 512) ∧
      answered (after (.revOpen 512) ready) = some (.noSection, []) :=
  ⟨by decide +kernel, serves, by decide +kernel⟩

theorem witness_InResetOnlyTheReleaseActs :
    { ready with resetAsserted := true }.resetAsserted = true ∧
      (∀ cause, Instr.campPause ≠ .deviceReset cause) ∧ Instr.campPause ≠ .resetRelease :=
  ⟨rfl, fun _ h => Instr.noConfusion h, fun h => Instr.noConfusion h⟩

theorem witness_DeviceResetGivesTheResetValues :
    ready.sendQueue = [] ∧ ready.resetAsserted = false ∧
      { ready with sendQueue := [.suspended 2 300] }.sendQueue = .suspended 2 300 :: [] :=
  ⟨rfl, rfl, rfl⟩

theorem witness_ReceiverGathersWholeFrames :
    (RawFrame.mk 0 0 (List.replicate 255 0x7E) 0).payload.length ≤ 255 ∧
      ready.resetAsserted = false ∧ ready.receiver = .hunt ∧
      ({ ready with receiver := .gather [9] 2 }.receiver = .gather [9] 2 ∧ 1 < 2) ∧
      { ready with receiver := .gather [9] 1 }.receiver = .gather [9] 1 := by
  decide +kernel

theorem witness_FrameChecksDecideItsFate :
    { ready with gathered := [rawFrame 15 0x07 []] }.gathered = rawFrame 15 0x07 [] :: [] ∧
      ready.resetAsserted = false ∧
      crc16 [15, 0x07, 0] = (rawFrame 15 0x07 []).crc ∧ crc16 [15, 0x07, 0] ≠ 0 ∧
      15 < (16 : Byte).toNat ∧ (requiredLength 0x07 [0]).any (fun n => [(0 : Byte)].length ≠ n) ∧
      { ready with gathered := [rawFrame 0 0x08 [1]] }.gathered = rawFrame 0 0x08 [1] :: [] ∧
      requiredLength 0x08 [1] = none := by
  decide +kernel

theorem witness_EveryWandFrameJoinsTheReceiveQueue :
    (Instr.claim 15 65535).WellFormed ∧
      wandFrame (.claim 15 65535) = some (15, 0x03, [0xFF, 0xFF]) ∧ ready.resetAsserted = false ∧
      ready.gathered = [] ∧ { ready with rxQueue := List.replicate 7 (.keep 0) }.rxQueue.length < 8 := by
  decide +kernel

theorem witness_HeadOfTheSendQueueIsSent :
    ready.resetAsserted = false ∧ ready.sendQueue = [] ∧
      { ready with sendQueue := [.suspended 15 511] }.sendQueue = .suspended 15 511 :: [] := by
  decide +kernel

theorem witness_TakenFrameIsAnsweredOnce :
    (wandFrame (.claim 2 512) = some (2, 0x03, [0x02, 0x00]) ∧ ready.Takes (.claim 2 512) ∧
      firstAnswer (after (.claim 2 512) ready) = some (.noSection, [.num16 512])) ∧
    ((wandFrame (.keep 2)).isSome = true ∧
      { ready with rxQueue := [.keep 2] }.rxQueue = .keep 2 :: [] ∧
      32 ≤ { ready with sendQueue := List.replicate 32 (.suspended 0 0) }.sendQueue.length) :=
  ⟨⟨by decide +kernel, takes, by decide +kernel⟩, by decide +kernel⟩

theorem witness_FrameRefusalsComeInOrder :
    ((Instr.keep 2).WellFormed ∧ { ready with campaign := .paused }.Takes (.keep 2)) ∧
    ready.Takes (.badFrame 0 0x08) ∧
    (ready.Takes (.walkendOtherMode 0 3) ∧ ready.campaign ≠ .paused) ∧
    (ready.Takes (.sight 0 []) ∧ ready.Takes (.sight 0 (List.replicate 9 ⟨0, 0⟩)) ∧
      8 < (List.replicate 9 (TagRead.mk 0 0)).length) ∧
    (State.reset.Takes (.claim 0 5) ∧ State.reset.campaign ≠ .running) ∧
    (walking.Takes (.claim 1 6) ∧ walking.campaign = .running ∧ walking.walkOf 1 = some 0 ∧
      walking.ctx 0 = some walkOf5) ∧
    (walking.walkOf 2 = none ∧ 511 < 512 ∧ (walking.sec 7).state = .empty) ∧
    (({ ready with contexts := Vector.replicate 16 (some walkOf5) }.sec 5).state = .ready ∧
      { ready with contexts := Vector.replicate 16 (some walkOf5) }.walkOf 2 = none ∧
      ∀ x : CtxId, { ready with contexts := Vector.replicate 16 (some walkOf5) }.ctx x ≠ none) ∧
    (revising.Takes (.walkendComplete 1) ∧ revising.walkOf 1 = some 0 ∧
      revising.ctx 0 = some walkOf5 ∧ (revising.sec 5).revision ≠ none) :=
  ⟨⟨by decide, takes⟩, takes, ⟨takes, by decide⟩, ⟨takes, takes, by decide⟩,
    ⟨takes, by decide⟩, ⟨takes, by decide +kernel⟩, by decide +kernel, by decide +kernel,
    ⟨takes, by decide +kernel⟩⟩

theorem witness_HelloFreesTheTableAndTheClaim :
    walking.Takes (.hello 2) ∧ walking.walkOf 2 = none := ⟨takes, by decide +kernel⟩

theorem witness_BreakAndHelloSuspendTheWalk :
    walking.Takes (.walkendBreak 1) ∧ walking.Takes (.hello 1) ∧ walking.campaign ≠ .paused ∧
      walking.walkOf 1 = some 0 ∧ walking.ctx 0 = some walkOf5 ∧
      (walking.sec walkOf5.sec).context = some 0 ∧ (∀ q ∈ walking.claims, q.sec ≠ walkOf5.sec) ∧
      ({ walking with claims := [⟨4, 6⟩, ⟨3, 5⟩] }.claims.find? fun q : Waiter => q.sec = 5) =
        some ⟨3, 5⟩ := ⟨takes, takes, by decide +kernel⟩

theorem witness_KeepAndWhereAnswerAndChangeNothing :
    walking.Takes (.keep 1) ∧ walking.campaign ≠ .paused ∧
      (walking.walkOf 1 = some 0 ∧ walking.ctx 0 = some walkOf5) ∧
      ({ walking with claims := [⟨4, 5⟩, ⟨3, 5⟩] }.claims[1]? = some ⟨3, 5⟩ ∧
        { walking with claims := [⟨4, 5⟩, ⟨3, 5⟩] }.walkOf 3 = none ∧
        ∀ q ∈ walking.claims, q.wand ≠ 2) ∧
      walking.Takes (.whereIs 2 (tagOf 100)) := ⟨takes, by decide +kernel, by decide +kernel,
        by decide +kernel, takes⟩

theorem witness_ShelvedPutsTheVolumeInPlace :
    strays.Takes (.shelved 9 (tagOf 200)) ∧ strays.campaign = .running ∧
      strays.item? (tagOf 200) = some (found 200 6 .elsewhere 5 0) := ⟨takes, by decide +kernel⟩

theorem witness_ClaimGrantsResumesOrQueues :
    (ready.Takes (.claim 2 5) ∧ ready.campaign = .running ∧ ready.walkOf 2 = none ∧
      (ready.sec 5).state = .ready ∧ ready.ctx 0 = none ∧ ∀ y : CtxId, y < 0 → ready.ctx y ≠ none) ∧
    ((suspended.sec 5).state = .suspended ∧ (suspended.sec 5).context = some 0 ∧
      suspended.ctx 0 = some { walkOf5 with walker := none, lease := none } ∧
      suspended.Takes (.claim 2 5) ∧ suspended.walkOf 2 = none) ∧
    ((walking.sec 5).state = .walking ∧ walking.Takes (.claim 2 5)) :=
  ⟨⟨takes, by decide +kernel⟩,
    ⟨by decide +kernel, by decide +kernel, by decide +kernel, takes, by decide +kernel⟩,
    by decide +kernel, takes⟩

theorem witness_WalkendCompleteTalliesTheSection :
    (held.Takes (.walkendComplete 1) ∧ held.campaign ≠ .paused ∧ held.walkOf 1 = some 0 ∧
      held.ctx 0 = some { walkOf5 with run := [tagOf 103] } ∧ (held.sec 5).revision = none ∧
      (∀ q ∈ held.claims, q.sec ≠ 5) ∧
      ({ held with claims := [⟨4, 6⟩, ⟨3, 5⟩] }.claims.find? fun q : Waiter => q.sec = 5) =
        some ⟨3, 5⟩) ∧
    ((held.modSec 5 fun x => { x with endMarker := some (tagOf 103) }).ctx 0 =
        some { walkOf5 with run := [tagOf 103] } ∧
      ((held.modSec 5 fun x => { x with endMarker := some (tagOf 103) }).sec 5).endMarker =
        some (tagOf 103)) :=
  ⟨⟨takes, by decide +kernel⟩, by decide +kernel⟩

/-- A table that holds one tag is sound. -/
theorem single_sound (i : Fin 24) (e : Entry) (h : e.Bounded) :
    ({ CandTable.blank with
      entries := (Vector.replicate 24 Entry.free).set i e } : CandTable).Sound := by
  have get : ∀ j : Fin 24, ((Vector.replicate 24 Entry.free).set i e)[j] =
      if j = i then e else .free := by
    intro j
    by_cases hj : j = i
    · subst hj; simp
    · have : (i : Nat) ≠ j := fun k => hj (Fin.ext k.symm)
      simp [hj, this]
  refine ⟨fun j => ?_, fun j k tag hj hk => ?_⟩
  · show ((Vector.replicate 24 Entry.free).set i e)[j].Bounded
    rw [get]; split
    · exact h
    · trivial
  · have hj : ((Vector.replicate 24 Entry.free).set i e)[j].tag? = some tag := hj
    have hk : ((Vector.replicate 24 Entry.free).set i e)[k].tag? = some tag := hk
    rw [get] at hj hk
    split at hj <;> split at hk <;> simp_all [Entry.tag?]

theorem ready_sec (S : SecId) : ready.sec S =
    if S = 6 then shelfOf .ready [200]
    else if S = 5 then shelfOf .ready [100, 101, 102, 103] else SectionRec.blank := by
  have hb : State.reset.sec S = SectionRec.blank := by
    show (Vector.replicate 512 SectionRec.blank)[S] = _
    simp
  show ((State.reset.setSec 5 _).setSec 6 _).sec S = _
  rw [State.sec_setSec, State.sec_setSec, hb]

theorem ready_ctx (x : CtxId) : ready.ctx x = none := by
  show (Vector.replicate 16 (none : Option Context))[x] = none
  simp

/-- A state whose only walk is one of section 5 in context 0, while RUNNING. -/
theorem walks_of_five {s : State} {shelf : SectionRec} {walk : Context}
    (hsec : ∀ S : SecId, s.sec S =
      if S = 5 then shelf else if S = 6 then shelfOf .ready [200] else SectionRec.blank)
    (hctx : ∀ x c, s.ctx x = some c ↔ x = 0 ∧ c = walk) (hshelf : shelf.context = some 0)
    (hstate : shelf.state = .walking) (hwalk : walk.sec = 5) (hwalker : walk.walker.isSome = true)
    (hlease : walk.lease.isSome = true) (hclaims : (s.claims.map fun q => q.wand).Nodup)
    (hwait : ∀ q ∈ s.claims, s.walkOf q.wand = none ∧ (s.sec q.sec).state = .walking)
    (hrun : s.campaign = .running) : WalksSound s := by
  have hs : ∀ S : SecId, (s.sec S).context = (if S = 5 then some 0 else none) := fun S => by
    rw [hsec]
    by_cases h5 : S = 5
    · simp [h5, hshelf]
    · by_cases h6 : S = 6 <;> simp [h5, h6, shelfOf, SectionRec.blank]
  have hst : ∀ S : SecId, (s.sec S).state.walked ↔ S = 5 := fun S => by
    rw [hsec]
    by_cases h5 : S = 5
    · simp [h5, hstate, SecState.walked]
    · by_cases h6 : S = 6 <;> simp [h5, h6, shelfOf, SectionRec.blank, SecState.walked]
  refine ⟨fun S x => ?_, fun S => ?_, fun x c h => ?_, fun x y c d w h k _ _ => ?_, hclaims, hwait,
    fun h => ?_⟩
  · rw [hs]
    constructor
    · intro h
      by_cases h5 : S = 5
      · rw [if_pos h5] at h
        exact ⟨walk, (hctx x walk).2 ⟨by simpa [eq_comm] using h, rfl⟩, hwalk.trans h5.symm⟩
      · simp [h5] at h
    · rintro ⟨c, hc, hS⟩
      obtain ⟨rfl, rfl⟩ := (hctx x c).1 hc
      rw [if_pos (hS.symm.trans hwalk)]
  · rw [hs, hst]
    by_cases h5 : S = 5 <;> simp [h5]
  · obtain ⟨-, rfl⟩ := (hctx x c).1 h
    rw [hsec, hwalk]
    simp [hstate, hwalker, hlease]
  · rw [((hctx x c).1 h).1, ((hctx y d).1 k).1]
  · simp [hrun] at h

/-- A wand's table with one entry, in the walk of section 5. -/
def reading (s : State) (w : Wand) (i : Fin 24) (e : Entry) : State :=
  s.setTable w { CandTable.blank with entries := (Vector.replicate 24 Entry.free).set i e }

/-- A frame of two tags that each confirm: the end marker, and then volume 100. -/
def markThenVolume : Instr :=
  .sight 1 [⟨tagOf 999, 255⟩, ⟨tagOf 100, 255⟩, ⟨tagOf 999, 255⟩, ⟨tagOf 100, 255⟩]

/-- Section 5 under a walk, its end marker the tag 999. -/
def markedShelf : SectionRec :=
  { shelfOf .walking [100, 101, 102, 103] with context := some 0, endMarker := some (tagOf 999) }

/-- The walk of section 5 by wand 1, towards that end marker. -/
def marked : State := (ready.setSec 5 markedShelf).setCtx 0 (some walkOf5)

theorem marked_walks : WalksSound marked := by
  refine walks_of_five (shelf := markedShelf) (walk := walkOf5) (fun S => ?_) (fun x c => ?_) rfl rfl rfl
    rfl rfl (by decide +kernel) (by decide +kernel) rfl
  · have h : marked.sec S = (ready.setSec 5 markedShelf).sec S := rfl
    rw [h, State.sec_setSec, ready_sec]
    by_cases h5 : S = 5 <;> simp [h5]
  · have h : marked.ctx x = (ready.setCtx 0 (some walkOf5)).ctx x := rfl
    rw [h, State.ctx_setCtx, ready_ctx]
    by_cases h0 : x = 0 <;> simp [h0, eq_comm]

theorem witness_ReadsGatherRefreshOrAllocate :
    (ready.Takes (.sight 4 [⟨tagOf 7, 40⟩]) ∧ ready.campaign ≠ .paused ∧
      (40 : Byte).toNat ≤ ready.settings.readFloor) ∧
    (∀ e : Entry, e.Bounded → ((reading ready 4 23 e).table 4).Sound) ∧
    (Entry.gathering (tagOf 7) 1 0).Bounded ∧ (Entry.confirmed (tagOf 7) 63 0 0).Bounded ∧
    (Entry.waiting (tagOf 7) 0 0).Bounded ∧
    (reading ready 4 23 (.gathering (tagOf 7) 1 0)).Takes (.sight 4 [⟨tagOf 7, 41⟩]) ∧
    ((reading ready 4 23 (.gathering (tagOf 7) 1 0)).table 4).entries[23] = .gathering (tagOf 7) 1 0 ∧
    min 1023 (1 + 1) < ready.settings.confirmThreshold ∧
    (ready.table 4).entries[0] = .free ∧ (∀ j : Fin 24, (ready.table 4).entries[j].tag? ≠ some 7) ∧
    (0 < 1 ∧ (41 : Byte).toNat = ready.settings.readFloor + 1) ∧
    (walking.Takes (confirming 1 100) ∧ walking.campaign ≠ .paused) ∧
    (marked.Takes markThenVolume ∧ marked.campaign ≠ .paused ∧ WalksSound marked) :=
  ⟨⟨takes, by decide +kernel⟩, fun e h => by
      rw [reading, State.table_setTable, if_pos rfl]; exact single_sound 23 e h,
    ⟨by decide, by decide⟩, by show 63 ≤ 63; decide, trivial, takes, by decide +kernel,
    by decide +kernel, by decide +kernel, by decide +kernel, by decide +kernel,
    ⟨takes, by decide +kernel⟩, takes, by decide +kernel, marked_walks⟩

/-- The outcomes stand in the order of the reads: the end marker completes the walk, and the volume after
it is ROAMING (R32, R36, R181). -/
theorem test_sight_in_order :
    firstAnswer (after markThenVolume marked) =
      some (.ok, [.num8 0, .num8 2, .sighting (Sighting.plain (tagOf 999) .marker (some 5)),
        .sighting (Sighting.plain (tagOf 100) .roaming (some 5))]) := by decide +kernel

/-- A table of 24 entries given by a rule. -/
def tableOf (f : Fin 24 → Entry) : CandTable := ⟨tabulate 24 f, 24, 24⟩

theorem witness_EvictionTakesTheWeakestEntry :
    (∀ j : Fin 24, (tableOf fun i => .gathering (tagOf i.val) (1 + i.val) 0).entries[j] ≠ .free ∧
      (tableOf fun i => .gathering (tagOf i.val) (1 + i.val) 0).entries[j] =
        .gathering (tagOf j.val) (1 + j.val) 0) ∧
    (∀ j : Fin 24, (tableOf fun i => .confirmed (tagOf i.val) 1 i.val 0).entries[j] =
      .confirmed (tagOf j.val) 1 j.val 0) ∧
    ((ready.setTable 4 (tableOf fun i => .gathering (tagOf i.val) (1 + i.val) 0)).Takes
        (.sight 4 [⟨tagOf 24, 41⟩]) ∧
      (41 : Byte).toNat = ready.settings.readFloor + 1 ∧ 1 < ready.settings.confirmThreshold ∧
      ∀ j : Fin 24, (tableOf fun i => .gathering (tagOf i.val) (1 + i.val) 0).entries[j].tag? ≠
        some (tagOf 24)) ∧
    ((ready.setTable 4 (tableOf fun i => .waiting (tagOf i.val) 0 0)).Takes
        (.sight 4 [⟨tagOf 24, 41⟩]) ∧
      ready.settings.readFloor < (41 : Byte).toNat ∧
      ∀ j : Fin 24,
        ((ready.setTable 4 (tableOf fun i => .waiting (tagOf i.val) 0 0)).table 4).entries[j] =
          .waiting (tagOf j.val) 0 0 ∧ tagOf j.val ≠ tagOf 24) :=
  ⟨by decide +kernel, by decide +kernel, ⟨takes, by decide +kernel⟩, takes, by decide +kernel⟩

theorem blank_sound : CandTable.blank.Sound := by
  refine ⟨fun i => ?_, fun i j tag h => ?_⟩
  · show (Vector.replicate 24 Entry.free)[i].Bounded
    simp [Entry.Bounded]
  · have : (Vector.replicate 24 Entry.free)[i].tag? = some tag := h
    simp [Entry.tag?] at this

/-- The walk of section 5 at the lowest confirm threshold. -/
def keen : State := { walking with settings := { walking.settings with confirmThreshold := 64 } }

theorem witness_ConfirmationIsDelivered :
    ((reading walking 1 0 (.gathering (tagOf 100) 299 0)).Takes (.sight 1 [⟨tagOf 100, 41⟩]) ∧
      ((reading walking 1 0 (.gathering (tagOf 100) 299 0)).table 1).entries[0] =
        .gathering (tagOf 100) 299 0 ∧
      ((reading walking 1 0 (.gathering (tagOf 100) 299 0)).table 1).Sound ∧
      ready.settings.confirmThreshold ≤ min 1023 (299 + 1) ∧ ready.campaign ≠ .paused) ∧
    (keen.Takes (.sight 1 [⟨tagOf 100, 104⟩]) ∧ (keen.table 1).Sound ∧
      (∀ j : Fin 24, (keen.table 1).entries[j].tag? ≠ some (tagOf 100)) ∧
      (keen.table 1).room = some 0 ∧ keen.settings.confirmThreshold ≤ 64 ∧
      (104 : Byte).toNat = keen.settings.readFloor + 64) ∧
    (ready.walkOf 1 = none ∧ walking.walkOf 1 = some 0 ∧ (walking.sec 5).revision = none ∧
      (revising.sec 5).revision ≠ none) ∧
    walkOf5.park.length < 32 ∧
    32 ≤ { walkOf5 with park := List.replicate 32 (tagOf 7) }.park.length :=
  ⟨⟨takes, by decide +kernel, by
      rw [reading, State.table_setTable, if_pos rfl]
      exact single_sound 0 _ ⟨by decide, by decide⟩, by decide +kernel, by decide +kernel⟩,
    ⟨takes, by
      have h : keen.table 1 = CandTable.blank := by decide +kernel
      rw [h]; exact blank_sound, by decide +kernel⟩,
    by decide +kernel, by decide +kernel, by decide +kernel⟩

theorem witness_WatchWinnerTakesTheHit :
    (∀ j : WatchId, ready.watch[j].valid = true →
      (tagOf 7 ^^^ ready.watch[j].value) &&& ready.watch[j].mask ≠ 0) ∧
    (∀ s : State, s = { ready with
        watch := (ready.watch.set 3 { WatchEntry.blank with valid := true, cls := 2 }).set 15
          { WatchEntry.blank with valid := true, cls := 1 } } →
      s.watch[(15 : WatchId)].valid = true ∧
      (tagOf 7 ^^^ s.watch[(15 : WatchId)].value) &&& s.watch[(15 : WatchId)].mask = 0 ∧
      ∀ j : WatchId, s.watch[j].valid = true →
        (tagOf 7 ^^^ s.watch[j].value) &&& s.watch[j].mask = 0 →
        s.watch[(15 : WatchId)].cls < s.watch[j].cls ∨
          (s.watch[(15 : WatchId)].cls = s.watch[j].cls ∧ 15 ≤ j)) ∧
    (reading ready 4 0 (.gathering (tagOf 7) 299 0)).Takes (.sight 4 [⟨tagOf 7, 41⟩]) ∧
    ((reading ready 4 0 (.gathering (tagOf 7) 299 0)).table 4).Sound ∧
    ready.settings.confirmThreshold ≤ min 1023 (299 + 1) ∧
    (keen.Takes (.sight 4 [⟨tagOf 7, 104⟩]) ∧ (keen.table 4).room = some 0 ∧
      keen.settings.confirmThreshold ≤ 64) :=
  ⟨by decide +kernel, fun s h => by subst h; decide +kernel, takes, by
      rw [reading, State.table_setTable, if_pos rfl]
      exact single_sound 0 _ ⟨by decide, by decide⟩, by decide +kernel, takes, by decide +kernel⟩

theorem witness_UnknownTagCreatesAProvisionalRecord :
    (walking.ctx 0 = some walkOf5 ∧ (walking.sec walkOf5.sec).endMarker ≠ some (tagOf 999) ∧
      walking.item? (tagOf 999) = none ∧ walking.items.length < 131072) ∧
    (∀ s : State, s = { walking with items := List.replicate 131072 (volume 100 5 .unseen) } →
      131072 ≤ s.items.length ∧ s.item? (tagOf 999) = none) ∧
    ((strays.setCtx 0 (some walkOf5)).item? (tagOf 900) = some (stranger 900 5) ∧
      (stranger 900 5).home = none ∧ (stranger 900 5).foundIn = some walkOf5.sec ∧
      (stranger 900 5).count = .unlisted ∧
      (stranger 900 5).foundIn ≠ some { walkOf5 with sec := 6 }.sec) :=
  ⟨by decide +kernel, fun s h => by
    subst h
    refine ⟨Nat.le_of_eq List.length_replicate.symm, ?_⟩
    rw [State.item?, List.find?_replicate]
    decide, by decide +kernel⟩

theorem witness_ForeignFindingMakesAStray :
    (walking.ctx 0 = some walkOf5 ∧ (walking.sec walkOf5.sec).endMarker ≠ some (tagOf 200) ∧
      walking.item? (tagOf 200) = some (volume 200 6 .unseen) ∧ (6 : SecId) ≠ walkOf5.sec) ∧
    (found 200 6 .elsewhere 5 0).foundIn = some walkOf5.sec ∧
    (strays.setCtx 0 (some walkOf5)).item? (tagOf 200) = some (found 200 6 .elsewhere 5 0) := by
  decide +kernel

/-- Volume 101 on LOAN, a stray of section 5 that stands in section 6. -/
def lentStray : Item := { found 101 5 .elsewhere 6 0 with circ := some .loan }

theorem witness_ItemAheadIsPlacedOrHeld :
    (walking.ctx 0 = some walkOf5 ∧ walkOf5.run = [] ∧
      (walking.sec walkOf5.sec).endMarker ≠ some (tagOf 102) ∧
      walking.item? (tagOf 102) = some (volume 102 5 .unseen) ∧
      (walking.sec 5).expected.Nodup ∧ tagOf 102 ∈ (walking.sec 5).expected ∧
      walkOf5.cursor ≤ walking.ordinal 5 (tagOf 102) ∧
      walking.ordinal 5 (tagOf 102) - walkOf5.cursor ≤ (walking.sec 5).tolerance ∧
      (walking.sec 5).tolerance < walking.ordinal 5 (tagOf 103) - walkOf5.cursor) ∧
    (held.ctx 0 = some { walkOf5 with run := [tagOf 103] } ∧
      held.item? (tagOf 100) = some (volume 100 5 .unseen) ∧
      held.ordinal 5 (tagOf 100) ≤ held.ordinal 5 (tagOf 103)) ∧
    (volume 102 5 .unseen).FreshAt 5 ∧ lentStray.FreshAt 5 ∧
    (lentStray.circ = some .loan ∧ lentStray.conflict = false) :=
  ⟨by decide +kernel, by decide +kernel, ⟨rfl, .inl rfl⟩,
    ⟨rfl, .inr (.inr (.inr (.inr rfl)))⟩, rfl, rfl⟩

theorem witness_ItemBehindIsLateOrDisordered :
    (∀ s : State, s = walking.setCtx 0 (some { walkOf5 with cursor := 4 }) →
      s.ctx 0 = some { walkOf5 with cursor := 4 } ∧
      (s.sec 5).endMarker ≠ some (tagOf 100) ∧ s.item? (tagOf 100) = some (volume 100 5 .unseen) ∧
      s.ordinal 5 (tagOf 100) < 4 ∧ ¬ 4 - 1 - s.ordinal 5 (tagOf 100) ≤ (s.sec 5).tolerance ∧
      4 - 1 - s.ordinal 5 (tagOf 101) ≤ (s.sec 5).tolerance) ∧
    ((volume 100 5 .unseen).FreshAt 5 ∧ lentStray.FreshAt 5) ∧
    (held.ctx 0 = some { walkOf5 with run := [tagOf 103] } ∧
      (held.item? (tagOf 103)).map (fun r => (r.home, r.count)) = some (some 5, .held)) :=
  ⟨by intro s h; subst h; decide +kernel,
    ⟨⟨rfl, .inl rfl⟩, rfl, .inr (.inr (.inr (.inr rfl)))⟩, by decide +kernel⟩

/-- The run of section 5's walk is 100 alone, HELD. -/
def running100 : State :=
  { walking.setCtx 0 (some { walkOf5 with run := [tagOf 100] }) with
    items := [{ found 100 5 .held 5 0 with prior := some .unseen }, volume 101 5 .unseen,
      volume 102 5 .unseen, volume 103 5 .unseen, volume 200 6 .unseen] }

theorem witness_ContinuationExtendsOrResyncsTheRun :
    running100.ctx 0 = some { walkOf5 with run := [tagOf 100] } ∧
      [tagOf 100].getLast? = some (tagOf 100) ∧
      running100.item? (tagOf 103) = some (volume 103 5 .unseen) ∧
      (running100.sec 5).expected.Nodup ∧ tagOf 103 ∈ (running100.sec 5).expected ∧
      (running100.item? (tagOf 100)).map (fun q => q.count) = some .held ∧
      running100.ordinal 5 (tagOf 100) < running100.ordinal 5 (tagOf 103) ∧
      running100.ordinal 5 (tagOf 103) ≤
        running100.ordinal 5 (tagOf 100) + (running100.sec 5).tolerance + 1 ∧
      [tagOf 100].length + 1 < running100.settings.resyncLength ∧
      { running100.settings with resyncLength := 2 }.resyncLength ≤ [tagOf 100].length + 1 ∧
      (volume 103 5 .unseen).FreshAt 5 := by
  have h : (volume 103 5 .unseen).FreshAt 5 := ⟨rfl, .inl rfl⟩
  simp only [h, and_true]
  decide +kernel

theorem witness_LeaseExpirySuspendsAndGrants :
    (walking.resetAsserted = false ∧ walking.campaign = .running ∧ walking.ctx 1 = none ∧
      walking.ctx 0 = some walkOf5 ∧ walkOf5.lease ≠ some 0) ∧
    (silent.resetAsserted = false ∧ silent.campaign = .running ∧
      silent.ctx 0 = some { walkOf5 with lease := some 0 } ∧ walkOf5.walker = some 1 ∧
      (silent.sec walkOf5.sec).context = some 0) := by decide +kernel

theorem witness_RevisionOpensClosesAndExpires :
    511 < 512 ∧ ready.Serves (.revOpen 5) ∧ (ready.sec 5).revision = none ∧
      ((revising.sec 5).revision ≠ none ∧ (revising.sec 5).revision ≠ some 0 ∧
        revising.resetAsserted = false) ∧ revising.Serves (.revClose 5) ∧
      ((overdue.sec 5).revision = some 0 ∧ overdue.campaign ≠ .paused ∧
        (overdue.resetAsserted = false ∧
          { overdue with port := .working (.request (.revOpen 6)) false }.resetAsserted = false)) ∧
      ((ready.modSec 5 fun x => { x with revision := some 1 }).sec 5).context = none ∧
      ((ready.modSec 511 fun x => { x with revision := some 1 }).sec 511).state = .empty :=
  ⟨by decide, serves, by decide +kernel, by decide +kernel, serves,
    by decide +kernel, by decide +kernel, by decide +kernel⟩

/-- The expiry closes the revision and leaves the port, which works on another request (R17). -/
theorem test_expiry_beside_the_port :
    let other := Port.working (.request (.revOpen 6)) true
    let u := after (.revisionExpiry 5) { overdue with port := other }
    (u.sec 5).revision = none ∧ u.port = other := by decide +kernel

/-- Section 5's revision is open; 100 and the end marker are parked, and 102 waits behind 101. -/
def crowded : State :=
  ((revising.modSec 5 fun x => { x with endMarker := some (tagOf 999) }).setCtx 0
    (some { walkOf5 with park := [tagOf 100, tagOf 999, tagOf 103] })).setTable 1
    { CandTable.blank with
      entries := ((Vector.replicate 24 Entry.free).set 0 (.waiting (tagOf 102) 0 9)).set 23
        (.waiting (tagOf 101) 1 8) }

theorem witness_RevCloseDrainsTheWalk :
    (revising.Serves (.revClose 5) ∧ (revising.sec 5).revision ≠ none ∧
      (revising.sec 5).context = some 0 ∧ revising.ctx 0 = some walkOf5 ∧ walkOf5.sec = 5 ∧
      (revising.sec 5).endMarker = none) ∧
    (crowded.Serves (.revClose 5) ∧
      crowded.ctx 0 = some { walkOf5 with park := [tagOf 100, tagOf 999, tagOf 103] }) ∧
    (crowded.table 1).WaitingInOrder [23, 0] :=
  ⟨⟨serves, by decide +kernel⟩, ⟨serves, by decide +kernel⟩, by decide +kernel, by
    have h0 : (crowded.table 1).waitingSeq 0 = some 9 := by decide +kernel
    have h23 : (crowded.table 1).waitingSeq 23 = some 8 := by decide +kernel
    simp [h0, h23]⟩

/-- R97: the marker ends the drain; two entries are applied, and the entries that wait are released. -/
theorem test_drain_ends_at_marker :
    answered (after (.revClose 5) crowded) = some (.done, [.num8 2]) ∧
      ((after (.revClose 5) crowded).item? (tagOf 103)).map (fun r => r.count) = some .notFound ∧
      ((after (.revClose 5) crowded).table 1).entries[23] = .confirmed (tagOf 101) 8 1 8 := by
  decide +kernel

theorem witness_RevInsertStandsANewRecord :
    (ready.Serves (.revInsert 512 0 (tagOf 7) 0) ∧ 511 < 512) ∧
    ((revising.sec 5).revision ≠ none ∧ revising.item? (tagOf 7) = none ∧
      (revising.sec 5).expected.length < 1024 ∧ revising.items.length < 131072 ∧
      revising.Serves (.revInsert 5 1023 (tagOf 7) 1)) ∧
    (ready.sec 5).revision = none ∧ revising.item? (tagOf 100) ≠ none :=
  ⟨⟨serves, by decide⟩, ⟨by decide +kernel, by decide +kernel, by decide +kernel,
    by decide +kernel, serves⟩, by decide +kernel⟩

theorem witness_RevRetireWithdrawsTheRecord :
    revising.Serves (.revRetire (tagOf 100)) ∧
      revising.item? (tagOf 100) = some (volume 100 5 .unseen) ∧
      (revising.sec 5).revision ≠ none ∧ (volume 100 5 .unseen).count ≠ .unlisted ∧
      (volume 100 5 .unseen).foundIn ≠ some 5 := ⟨serves, by decide +kernel⟩

theorem witness_RevAdoptGivesARecordAHome :
    (strays.modSec 6 fun x => { x with revision := some 1 }).Serves (.revAdopt (tagOf 900) 6 1) ∧
      (strays.modSec 6 fun x => { x with revision := some 1 }).item? (tagOf 900) =
        some (stranger 900 5) ∧
      ((strays.modSec 6 fun x => { x with revision := some 1 }).sec 6).revision ≠ none ∧
      ((strays.modSec 6 fun x => { x with revision := some 1 }).sec 6).expected.length < 1024 :=
  ⟨serves, by decide +kernel⟩

theorem witness_SecUnloadEmptiesTheSection :
    strays.Serves (.secUnload 5) ∧ ((strays.sec 5).state = .tallied ∧
      (strays.sec 5).revision = none ∧ (strays.sec 511).state = .empty ∧
      (walking.sec 5).state = .walking ∧ (ready.sec 6).state = .ready) :=
  ⟨serves, by decide +kernel⟩

theorem witness_SecResetRestartsTheResults :
    strays.Serves (.secReset 5) ∧ (strays.sec 5).state = .tallied ∧ (strays.sec 5).chain ≠ [] ∧
      (suspended.sec 5).state = .suspended ∧ (strays.sec 0).state = .empty :=
  ⟨serves, by decide +kernel⟩

theorem witness_ItemDropRemovesAProvisionalRecord :
    strays.Serves (.itemDrop (tagOf 900)) ∧
      strays.item? (tagOf 900) = some (stranger 900 5) ∧ (stranger 900 5).home = none :=
  ⟨serves, by decide +kernel⟩

theorem witness_SecSetWritesTheFourSettings :
    walking.Serves (.secSet 5 16 48 (some 5) none) ∧ (walking.sec 5).state ≠ .empty ∧
      (walking.sec 5).context = some 0 ∧ 511 < 512 := ⟨serves, by decide +kernel⟩

theorem witness_WalkAbandonEndsTheWalk :
    (held.Serves (.walkAbandon 512) ∧ 511 < 512) ∧
    (ready.Serves (.walkAbandon 5) ∧ (ready.sec 5).state ≠ .walking ∧
      (ready.sec 5).state ≠ .suspended) ∧
    ((held.sec 5).state = .walking ∧ (held.sec 5).context = some 0 ∧
      held.ctx 0 = some { walkOf5 with run := [tagOf 103] } ∧ (∀ q ∈ held.claims, q.sec ≠ 5) ∧
      ({ held with claims := [⟨3, 5⟩] }.claims.find? fun q : Waiter => q.sec = 5) = some ⟨3, 5⟩) :=
  ⟨⟨serves, by decide⟩, ⟨serves, by decide +kernel⟩, by decide +kernel⟩

theorem witness_AttentionIsFoundAndAcknowledged :
    ready.Serves (.attAck 511) ∧ ready.Serves (.attAck 512) ∧ ready.Serves .attNext :=
  ⟨serves, serves, serves⟩

theorem witness_NoticesMoveTheItemToTheDesk :
    (ready.item? (tagOf 7) = none ∧ ready.Serves (.circOut (tagOf 7))) ∧
    (strays.item? (tagOf 900) = some (stranger 900 5) ∧ (stranger 900 5).home = none ∧
      strays.Serves (.circIn (tagOf 900)) ∧ strays.Serves (.itemClear (tagOf 900))) ∧
    (ready.item? (tagOf 100) = some (volume 100 5 .unseen) ∧ ready.campaign ≠ .closed ∧
      ready.Serves (.circOut (tagOf 100)) ∧ ready.Serves (.circIn (tagOf 100))) :=
  ⟨⟨by decide +kernel, serves⟩, ⟨by decide +kernel, rfl, serves, serves⟩,
    ⟨by decide +kernel, by decide +kernel, serves, serves⟩⟩

theorem witness_CampStartBeginsTheCount :
    State.reset.Serves .campStart ∧ State.reset.campaign = .stopped ∧
      { strays with campaign := .closed }.Serves .campStart ∧ (strays.sec 5).state = .tallied ∧
      (strays.sec 6).state = .ready ∧ ((strays.sec 7).state = .empty ∧ (strays.sec 7).chain = []) :=
  ⟨serves, rfl, serves, by decide +kernel⟩

theorem witness_PauseAndResumeKeepEveryTimer :
    ready.Serves .campPause ∧ { ready with campaign := .paused }.Serves .campResume ∧
      (ready.Serves .campStart ∧ ready.campaign = .running) ∧
      (State.reset.Serves .campClose ∧ State.reset.campaign = .stopped) ∧
      (revising.Serves .campClose ∧ revising.campaign = .running ∧
        ∃ S : SecId, (revising.sec S).revision ≠ none) :=
  ⟨serves, serves, ⟨serves, rfl⟩, ⟨serves, rfl⟩, serves, rfl, 5, by decide +kernel⟩

theorem witness_CampCloseGivesFinalFindings :
    held.Serves .campClose ∧ held.campaign = .running ∧
      ∀ S : SecId, (held.sec S).revision = none := by
  refine ⟨serves, rfl, fun S => ?_⟩
  have hb : (State.reset.sec S).revision = none := by
    show (Vector.replicate 512 SectionRec.blank)[S].revision = none
    simp [SectionRec.blank]
  have h5 : held.sec S = (walking.sec S) := rfl
  rw [h5, walking, State.setCtx_sec_eq, State.sec_setSec]
  split
  · rfl
  · show (((State.reset.setSec 5 _).setSec 6 _).sec S).revision = none
    rw [State.sec_setSec, State.sec_setSec]
    split
    · rfl
    · exact hb

theorem witness_WatchRequestsWriteOneEntry :
    15 < 16 ∧ ready.Serves (.watchSet 16 0 0 0 false) ∧ ready.Serves (.watchSet 15 0 0 3 true) ∧
      ready.Serves (.watchClear 15) ∧ ready.Serves (.watchAck 16) :=
  ⟨by decide, serves, serves, serves, serves⟩

theorem witness_LampForceAndDerivedPattern :
    (ready.Serves (.lampForce 48 0) ∧ 47 < 48) ∧
      (ready.Serves (.lampForce 47 5) ∧ 4 < (5 : Byte).toNat ∧ (5 : Byte) ≠ 0x0F) ∧
      (ready.Serves (.lampForce 47 4) ∧ (4 : Byte).toNat = Pattern.flicker.code) ∧
      ((ready.setSec 9 { shelfOf .tallied [] with lamp := some 47 }).sec 9).lamp = some 47 ∧
      { ready with lampPhase := 1999 }.lampPhase < 2000 :=
  ⟨⟨serves, by decide⟩, ⟨serves, by decide⟩, ⟨serves, by decide⟩, by decide +kernel, by decide⟩

theorem witness_EventRequestsWriteTheSetsNamed :
    ready.Serves (.evtClear 511) ∧ (511 : BitVec 16).toNat < 512 ∧ ready.Serves (.evtForce 512) ∧
      512 ≤ (512 : BitVec 16).toNat ∧ ready.Serves (.evtEnable 0) ∧ ready.Serves (.evtRoute 511) :=
  ⟨serves, by decide, serves, by decide, serves, serves⟩

theorem witness_SettingsAreWrittenWithinRange :
    ready.Serves (.setWrite 0 1) ∧ ready.Serves (.setWrite 10 1) ∧ ready.Serves (.setWrite 1 256) ∧
      ready.Serves (.setWrite 9 0) ∧ ready.Serves .setRead ∧ 1 ≤ 9 :=
  ⟨serves, serves, serves, serves, serves, by decide⟩

theorem witness_UnitReadsReturnWhatStands :
    ready.Serves .evtRead ∧ ready.Serves .campRead ∧ ready.Serves .claimqRead ∧
      ready.Serves (.watchRead 15) ∧ ready.Serves .watchNext :=
  ⟨serves, serves, serves, serves, serves⟩

theorem witness_RecordReadsReturnWhatStands :
    (strays.Serves (.itemRead (tagOf 900)) ∧
      strays.item? (tagOf 900) = some (stranger 900 5)) ∧
    (strays.Serves (.secList 5 1 2) ∧ (strays.sec 5).chain.length = 2) ∧
    strays.Serves (.secRead 511) ∧ (walking.Serves (.walkRead 0) ∧ walking.ctx 0 = some walkOf5 ∧
      walking.Serves (.walkRead 15) ∧ walking.ctx 15 = none) ∧ strays.Serves (.wandRead 15) ∧
    (strays.item? (tagOf 7) = none ∧ strays.Serves (.secList 512 0 0) ∧
      strays.Serves (.secList 5 2 0) ∧ strays.Serves (.walkRead 16)) :=
  ⟨⟨serves, by decide +kernel⟩, ⟨serves, by decide +kernel⟩, serves,
    ⟨serves, by decide +kernel, serves, by decide +kernel⟩, serves,
    by decide +kernel, serves, serves, serves⟩

/-! ### Witnesses of the invariants -/

/-- The state of `ready` with one command waiting. -/
def waitingCommand : State := { ready with pending := [.campPause] }

theorem waitingCommand_steps : ∃ t, step waitingCommand = .next t := ⟨_, rfl⟩

theorem witness_StepKeepsTheItemTableAndReceiveQueue :
    ItemsCanonical waitingCommand.items ∧ ReceiveBounded waitingCommand ∧
      ∃ t, step waitingCommand = .next t :=
  ⟨⟨by decide +kernel, by decide +kernel⟩, by show 0 ≤ 8; decide, waitingCommand_steps⟩

theorem witness_StepKeepsTheCandidateTablesSound :
    TablesSound waitingCommand ∧ ∃ t, step waitingCommand = .next t := by
  refine ⟨⟨by unfold SettingsInRange; decide +kernel, fun w => ?_⟩, waitingCommand_steps⟩
  have : waitingCommand.table w = CandTable.blank := by
    show (Vector.replicate 16 CandTable.blank)[w] = _
    simp
  rw [this]
  exact blank_sound

/-! ### A state that meets every invariant, with a walk, a run, a park queue and a chain -/

def busyShelf : SectionRec :=
  { shelfOf .walking [100, 101, 102, 103] with
    context := some 0, revision := some 10000, chain := [tagOf 200, tagOf 900] }

def busyWalk : Context := { walkOf5 with cursor := 4, run := [tagOf 103], park := [tagOf 7] }

/-- Section 5 under revision and walked by wand 1, wand 3 waiting: volume 103 HELD, volume 200 of section
6 and provisional record 900 on the chain, one tag parked, and a command waiting. -/
def busy : State :=
  { (ready.setSec 5 busyShelf).setCtx 0 (some busyWalk) with
    items := [volume 100 5 .unseen, found 101 5 .inPlace 5 1, volume 102 5 .desk,
      { found 103 5 .held 5 0 with prior := some .unseen }, found 200 6 .elsewhere 5 0,
      stranger 900 5]
    claims := [⟨3, 5⟩]
    pending := [.campPause] }

theorem busy_steps : ∃ t, step busy = .next t := ⟨_, rfl⟩

theorem busy_sec (S : SecId) : busy.sec S =
    if S = 5 then busyShelf else if S = 6 then shelfOf .ready [200] else SectionRec.blank := by
  have h : busy.sec S = (ready.setSec 5 busyShelf).sec S := rfl
  rw [h, State.sec_setSec, ready_sec]
  by_cases h5 : S = 5 <;> simp [h5]

theorem busy_ctx (x : CtxId) (c : Context) : busy.ctx x = some c ↔ x = 0 ∧ c = busyWalk := by
  have h : busy.ctx x = (ready.setCtx 0 (some busyWalk)).ctx x := rfl
  rw [h, State.ctx_setCtx, ready_ctx]
  by_cases h0 : x = 0 <;> simp [h0, eq_comm]

theorem busy_walks : WalksSound busy :=
  walks_of_five busy_sec busy_ctx rfl rfl rfl rfl rfl (by decide +kernel) (by decide +kernel) rfl

theorem busy_lists : ListsSound busy := by
  refine ⟨⟨by decide +kernel, by decide +kernel⟩, by decide +kernel, fun S => ?_⟩
  rw [busy_sec]
  by_cases h5 : S = 5
  · subst h5
    refine ⟨by decide, fun t => ?_⟩
    simp [busy, busyShelf, volume, found, stranger, shelfOf, eq_comm]
  · by_cases h6 : S = 6
    · subst h6
      refine ⟨by decide, fun t => ?_⟩
      simp [busy, volume, found, stranger, shelfOf, eq_comm]
    · refine ⟨by simp [h5, h6, SectionRec.blank], fun t => ?_⟩
      simp [busy, volume, found, stranger, h5, h6, SectionRec.blank, eq_comm]

theorem busy_records : RecordsSound busy := by
  intro r hr
  simp only [busy, List.mem_cons, List.not_mem_nil, or_false] at hr
  rcases hr with rfl | rfl | rfl | rfl | rfl | rfl <;>
    simp [Item.FieldsSound, CountState.AtHome, CountState.OnChain, Item.foundIn, volume, found,
      stranger]

theorem busy_chains : ChainsSound busy := by
  intro S
  rw [busy_sec]
  by_cases h5 : S = 5
  · subst h5
    refine ⟨by decide, fun t => ?_⟩
    simp [busy, busyShelf, volume, found, stranger, CountState.OnChain, Item.foundIn, eq_comm]
  · by_cases h6 : S = 6
    · subst h6
      refine ⟨by decide, fun t => ?_⟩
      simp [busy, volume, found, stranger, shelfOf, SectionRec.blank, CountState.OnChain,
        Item.foundIn]
    · refine ⟨by simp [h5, h6, SectionRec.blank], fun t => ?_⟩
      simp [busy, volume, found, stranger, h5, h6, SectionRec.blank, CountState.OnChain,
        Item.foundIn]
      tauto

theorem busy_places : CursorsSound busy ∧ RunsSound busy ∧ ParksSound busy := by
  refine ⟨fun x c h => ?_, ⟨by decide +kernel, fun x c h => ?_⟩, fun x c h => ?_⟩ <;>
    obtain ⟨-, rfl⟩ := (busy_ctx x c).1 h
  · show 4 ≤ (busy.sec 5).expected.length
    rw [busy_sec]
    decide
  · refine ⟨?_, by simp [busyWalk], by decide⟩
    simp [busyWalk, walkOf5, busy, volume, found, stranger]
  · refine ⟨by decide, fun hr => ?_⟩
    have : (busy.sec 5).revision = none := hr
    rw [busy_sec] at this
    exact absurd this (by decide)

theorem busy_sound : Sound busy := by
  refine ⟨by show 0 ≤ 8; decide, ⟨by unfold SettingsInRange; decide +kernel, fun w => ?_⟩, busy_walks,
    busy_lists, busy_records, busy_chains, busy_places⟩
  have : busy.table w = CandTable.blank := by
    show (Vector.replicate 16 CandTable.blank)[w] = _
    simp
  rw [this]
  exact blank_sound

theorem witness_StepKeepsTheWalksSound :
    WalksSound busy ∧ Sound busy ∧ ∃ t, step busy = .next t :=
  ⟨busy_walks, busy_sound, busy_steps⟩

theorem witness_StepKeepsTheListsSound :
    ListsSound busy ∧ Sound busy ∧ ∃ t, step busy = .next t :=
  ⟨busy_lists, busy_sound, busy_steps⟩

theorem witness_CountsSumToTheLength : ListsSound busy := busy_lists

end Sys2Proof.Tests
end

/-! # Proofs: attention is found and acknowledged (R109, R110) -/

namespace Sys2Proof.Machine

/-! ### ATT_ACK -/

/-- ATT_ACK is a catalogue request of code 31H. -/
theorem exec_attAck (S : Nat) (s : State) :
    exec (.attAck S) s = .next (carryOut (.attAck S) 0x31 (attAckBody S) s) := rfl

theorem attAckBody_of_no_section {S : Nat} (h : 511 < S) (s : State) :
    attAckBody S s = s.refuse .noSection := by
  simp only [attAckBody, secOf_none h]

theorem attAckBody_of_section (T : SecId) (s : State) :
    attAckBody T.val s =
      (s.modSec T fun r => { r with attention := false }).done [.flag (s.sec T).attention] := by
  simp only [attAckBody, secOf_val]

/-- A served ATT_ACK answers what its body gives. -/
theorem answers_attAck {S : Nat} {s : State} (h : s.Serves (.attAck S)) :
    Answers s (.attAck S) ((attAckBody S s).hold 0x31 s.lost) (attAckBody S s).status
      (attAckBody S s).results :=
  answers_of_body (exec_attAck S s) rfl h

theorem answers_attAck_of_no_section {S : Nat} {s : State} (h : s.Serves (.attAck S))
    (hS : 511 < S) : ∃ u, Answers s (.attAck S) u .noSection [] := by
  have answered := answers_attAck h
  rw [attAckBody_of_no_section hS] at answered
  exact ⟨_, answered⟩

/-- ATT_ACK reports the attention that it clears. Beside the port, its frame is the sections and, of
these, the one acknowledged: the raw bit of ATTENTION stands. -/
theorem answers_attAck_of_section {T : SecId} {s : State} (h : s.Serves (.attAck T.val)) :
    ∃ u, Answers s (.attAck T.val) u .done [.flag (s.sec T).attention] ∧
      u = { s with sections := u.sections, port := u.port } ∧
      u.sec T = { s.sec T with attention := false } ∧
      ∀ X : SecId, X ≠ T → u.sec X = s.sec X := by
  have answered := answers_attAck h
  rw [attAckBody_of_section] at answered
  refine ⟨_, answered, rfl, ?_, fun X hX => ?_⟩
  · rw [Reply.hold_sec_eq, State.done_state, State.sec_modSec, if_pos rfl]
  · rw [Reply.hold_sec_eq, State.done_state, State.sec_modSec, if_neg hX]

/-! ### ATT_NEXT -/

/-- ATT_NEXT is a catalogue request of code 30H. -/
theorem exec_attNext (s : State) :
    exec .attNext s = .next (carryOut .attNext 0x30 attNextBody s) := rfl

/-- A served ATT_NEXT changes the port alone and answers the first section with attention. -/
theorem answers_attNext {s : State} (h : s.Serves .attNext) :
    ∃ u, Answers s .attNext u .done [.secOpt (s.findSec fun r => r.attention)] ∧
      u = { s with port := u.port } :=
  ⟨_, answers_of_body (exec_attNext s) rfl h, rfl⟩

/-- Settles O44: ATT_ACK by the section that its number names, if it names one; ATT_NEXT by what the
search in ascending order finds. -/
theorem attentionIsFoundAndAcknowledged : Obligations.AttentionIsFoundAndAcknowledged := by
  unfold Obligations.AttentionIsFoundAndAcknowledged
  refine ⟨fun S s h => ⟨answers_attAck_of_no_section h, ?_⟩, fun s h => ?_⟩
  · rintro T rfl
    exact answers_attAck_of_section h
  · obtain ⟨u, answered, frame⟩ := answers_attNext h
    exact ⟨u, s.findSec fun r => r.attention, answered, frame,
      fun S found => s.findSec_eq_some.mp found, s.findSec_eq_none.mp⟩

end Sys2Proof.Machine

/-! # Proofs: the watch table (R150 to R161) -/

namespace Sys2Proof.Machine

/-! ### One entry of the watch table read back -/

@[simp] theorem State.watch_setWatch (s : State) (i j : WatchId) (e : WatchEntry) :
    (s.setWatch i e).watch[j] = if j = i then e else s.watch[j] := by
  unfold State.setWatch
  by_cases h : j = i
  · subst h; simp
  · have : (i : Nat) ≠ j := fun e => h (Fin.ext e.symm)
    simp [h, this]

/-! ### WATCH_SET, WATCH_CLEAR and WATCH_ACK -/

/-- A watch request whose index names no entry is refused. -/
theorem onWatch_of_no_entry {x : Nat} (h : 15 < x) (body : WatchId → WatchEntry → State → Reply)
    (s : State) : onWatch x body s = s.refuse .badRequest := by
  simp only [onWatch, idOf_none h]

/-- A watch request runs on the entry that its index names. -/
theorem onWatch_of_entry (i : WatchId) (body : WatchId → WatchEntry → State → Reply) (s : State) :
    onWatch i.val body s = body i s.watch[i] s := by
  simp only [onWatch, idOf_val]

/-- A served request that a body on the watch table carries out is refused above 15. -/
theorem answers_onWatch_of_no_entry {request : Instr} {code : Byte} {args : List Byte} {x : Nat}
    {body : WatchId → WatchEntry → State → Reply} {s : State}
    (exec_eq : exec request s = .next (carryOut request code (onWatch x body) s))
    (packet : requestPacket request = some (code, args)) (h : s.Serves request) (hx : 15 < x) :
    ∃ u, Answers s request u .badRequest [] := by
  have answered := answers_of_body exec_eq packet h
  rw [onWatch_of_no_entry hx] at answered
  exact ⟨_, answered⟩

/-- A served request whose body writes one watch entry answers the status and results of its body;
beside the port its frame is that entry. -/
theorem answers_onWatch_of_entry {request : Instr} {code : Byte} {args : List Byte} {i : WatchId}
    {body : WatchId → WatchEntry → State → Reply} {s : State} {e : WatchEntry}
    (exec_eq : exec request s = .next (carryOut request code (onWatch i.val body) s))
    (packet : requestPacket request = some (code, args)) (h : s.Serves request)
    (writes : (body i s.watch[i] s).state = s.setWatch i e) :
    ∃ u, Answers s request u (body i s.watch[i] s).status (body i s.watch[i] s).results ∧
      u = { s with watch := u.watch, port := u.port } ∧
      u.watch[i] = e ∧ ∀ j : WatchId, j ≠ i → u.watch[j] = s.watch[j] := by
  have answered := answers_of_body exec_eq packet h
  rw [onWatch_of_entry] at answered
  refine ⟨_, answered, ?_, ?_, fun j hj => ?_⟩
  · simp only [Reply.hold, writes]; rfl
  · rw [Reply.hold_watch, writes, State.watch_setWatch, if_pos rfl]
  · rw [Reply.hold_watch, writes, State.watch_setWatch, if_neg hj]

/-- Settles O49: each of the three requests is one write of the entry that its index names. -/
theorem watchRequestsWriteOneEntry : Obligations.WatchRequestsWriteOneEntry := by
  unfold Obligations.WatchRequestsWriteOneEntry
  refine ⟨fun x s hx => ⟨fun _ _ _ _ h => ?set, fun h => ?clear, fun h => ?ack⟩, fun i s =>
    ⟨fun _ _ cls _ h => ?setEntry, fun h => ?clearEntry, fun h => ?ackEntry⟩⟩
  case set => exact answers_onWatch_of_no_entry rfl rfl h hx
  case clear => exact answers_onWatch_of_no_entry rfl rfl h hx
  case ack => exact answers_onWatch_of_no_entry rfl rfl h hx
  case setEntry =>
    obtain ⟨u, answered, written⟩ := answers_onWatch_of_entry rfl rfl h rfl
    simp only [State.doneClamped_status, State.doneClamped_results, decide_eq_true_eq] at answered
    exact ⟨u, answered, written⟩
  case clearEntry => exact answers_onWatch_of_entry rfl rfl h rfl
  case ackEntry => exact answers_onWatch_of_entry rfl rfl h rfl

/-! ### The winner of a match (R151 to R153) -/

/-- A search in ascending order for a value finds that of the least number that has one. -/
theorem findSome_finRange_of_least {n : Nat} {α : Type} {f : Fin n → Option α} {i : Fin n} {a : α}
    (found : f i = some a) (least : ∀ j : Fin n, j < i → f j = none) :
    (List.finRange n).findSome? f = some a := by
  have split : List.finRange n =
      (List.finRange n).take i.val ++ i :: (List.finRange n).drop (i.val + 1) := by
    have hi : i.val < (List.finRange n).length := by simp
    simpa using ((List.finRange n).take_append_drop i.val).symm.trans
      (congrArg _ (List.drop_eq_getElem_cons hi))
  refine List.findSome?_eq_some_iff.mpr ⟨_, i, _, split, found, fun j hj => least j ?_⟩
  obtain ⟨k, hk, rfl⟩ := List.mem_take_iff_getElem.mp hj
  simpa [Fin.lt_def] using (lt_inf_iff.mp hk).1

section Matching
variable {s : State} {w : Wand} {t : Tag}

theorem WatchEntry.qualifies_iff {e : WatchEntry} :
    e.qualifies t = true ↔ e.valid = true ∧ (t ^^^ e.value) &&& e.mask = 0 := by
  simp [WatchEntry.qualifies, WatchEntry.matchesTag]

/-- With no qualifying entry there is no winner. -/
theorem State.watchWinner_of_none (h : ∀ j : WatchId, s.watch[j].qualifies t = false) :
    s.watchWinner t = none := by
  unfold State.watchWinner
  refine List.findSome?_eq_none_iff.mpr fun cls _ => find_finRange_eq_none.mpr fun j => ?_
  rw [h j, Bool.false_and]

/-- The qualifying entry of lowest class, and of lowest index within it, wins. -/
theorem State.watchWinner_of_least {i : WatchId} (hi : s.watch[i].qualifies t = true)
    (least : ∀ j : WatchId, s.watch[j].qualifies t = true →
      s.watch[i].cls < s.watch[j].cls ∨ (s.watch[i].cls = s.watch[j].cls ∧ i ≤ j)) :
    s.watchWinner t = some i := by
  unfold State.watchWinner
  refine findSome_finRange_of_least (i := s.watch[i].cls) ?_ fun cls hcls => ?_
  · refine find_finRange_eq_some.mpr ⟨by simpa using hi, fun j hj => ?_⟩
    by_contra hwins
    obtain ⟨hq, hcls⟩ : s.watch[j].qualifies t = true ∧ s.watch[j].cls = s.watch[i].cls := by
      simpa using hwins
    rcases least j hq with hlt | ⟨-, hle⟩
    · exact absurd hcls hlt.ne'
    · exact absurd hle (not_le.mpr hj)
  · refine find_finRange_eq_none.mpr fun j => ?_
    by_contra hwins
    obtain ⟨hq, hj⟩ : s.watch[j].qualifies t = true ∧ s.watch[j].cls = cls := by
      simpa using hwins
    rw [← hj] at hcls
    rcases least j hq with hlt | ⟨heq, -⟩
    · exact absurd hcls hlt.asymm
    · exact absurd heq hcls.ne'

/-! ### What a match does (R154 to R156) -/

theorem State.matchWatch_of_none (h : s.watchWinner t = none) : s.matchWatch w t = (s, false) := by
  simp only [State.matchWatch, h]

theorem State.matchWatch_of_winner {i : WatchId} (h : s.watchWinner t = some i) :
    s.matchWatch w t =
      ((s.setWatch i (s.watch[i].hit w (s.walkedSec w) s.clock)).raise .watchHit, true) := by
  simp only [State.matchWatch, h, State.setWatch]

/-- The hit that a match records in the winning entry; beside it, the match raises WATCH_HIT. -/
theorem State.matchWatch_records_hit {i : WatchId} (valid : s.watch[i].valid = true)
    (h : s.watchWinner t = some i) :
    ∃ u, s.matchWatch w t = (u, true) ∧
      u = { s with
        watch := u.watch
        events := { s.events with raw := s.events.raw ||| EventKind.watchHit.set } } ∧
      u.watch[i] = { s.watch[i] with
        hits := min 255 (s.watch[i].hits + 1)
        hitPending := true
        last := some ⟨w, s.walkedSec w, s.clock⟩
        valid := !s.watch[i].oneShot } ∧
      ∀ j : WatchId, j ≠ i → u.watch[j] = s.watch[j] := by
  refine ⟨_, State.matchWatch_of_winner h, rfl, ?_, fun j hj => ?_⟩
  · rw [State.raise_watch, State.watch_setWatch, if_pos rfl, WatchEntry.hit, valid, Bool.true_and]
  · rw [State.raise_watch, State.watch_setWatch, if_neg hj]

end Matching

/-! ### The raw bit of WATCH_HIT (R199) -/

/-- The raw bit of WATCH_HIT. -/
def State.hitRaw (s : State) : Bool := s.events.raw.getLsbD EventKind.watchHit.bit

/-- No other kind has the place of WATCH_HIT (R209). -/
theorem EventKind.set_hitBit (k : EventKind) :
    k.set.getLsbD EventKind.watchHit.bit = decide (k = .watchHit) := by
  cases k <;> rfl

@[simp] theorem State.hitRaw_raise (s : State) (k : EventKind) :
    (s.raise k).hitRaw = (s.hitRaw || decide (k = .watchHit)) := by
  rw [State.hitRaw, State.raise_events, BitVec.getLsbD_or, EventKind.set_hitBit]
  rfl

/-! ### What leaves the watch table and WATCH_HIT as they are -/

/-- `u` has the watch table of `s` and the raw bit of WATCH_HIT as it is in `s`. -/
structure WatchStands (s u : State) : Prop where
  watch : u.watch = s.watch
  hitRaw : u.hitRaw = s.hitRaw

theorem WatchStands.refl (s : State) : WatchStands s s := ⟨rfl, rfl⟩

theorem WatchStands.trans {s t u : State} (h : WatchStands s t) (k : WatchStands t u) :
    WatchStands s u := ⟨k.watch.trans h.watch, k.hitRaw.trans h.hitRaw⟩

theorem WatchStands.ite {s t u : State} {p : Prop} [Decidable p] (h : WatchStands s t)
    (k : WatchStands s u) : WatchStands s (if p then t else u) := by split <;> assumption

/-- What keeps the watch table and the event unit keeps both. -/
theorem WatchStands.of_eq {s u : State} (watch : u.watch = s.watch := by rfl)
    (events : u.events = s.events := by rfl) : WatchStands s u :=
  ⟨watch, by rw [State.hitRaw, events]; rfl⟩

section Updates
variable {s u : State}

theorem WatchStands.raise (h : WatchStands s u) {k : EventKind} (other : k ≠ .watchHit) :
    WatchStands s (u.raise k) := ⟨h.watch, by simp [h.hitRaw, other]⟩

theorem WatchStands.bumpWhere (h : WatchStands s u) (p : SecId → Bool) :
    WatchStands s (u.bumpWhere p) :=
  h.trans (.of_eq (u.bumpWhere_watch p) (u.bumpWhere_events p))

theorem WatchStands.attend (h : WatchStands s u) (S : SecId) : WatchStands s (u.attend S) := by
  unfold State.attend
  exact .ite h (WatchStands.raise (h.trans .of_eq) (by decide))

theorem WatchStands.raiseCursor (h : WatchStands s u) (x : CtxId) (c : Context) (new : Nat) :
    WatchStands s (u.raiseCursor x c new).1 := by
  unfold State.raiseCursor
  exact .ite (.raise (h.trans .of_eq) (by decide)) (h.trans .of_eq)

theorem WatchStands.adoptDue (h : WatchStands s u) : WatchStands s u.adoptDue := by
  unfold State.adoptDue
  exact .ite (h.raise (by decide)) h

theorem WatchStands.leavePlace (h : WatchStands s u) (r : Item) : WatchStands s (u.leavePlace r) := by
  refine h.trans ?_
  unfold State.leavePlace State.leaveChainOf
  split
  · split <;> exact .of_eq
  · split
    · split <;> exact .of_eq
    · exact .refl u

theorem WatchStands.markConflict (h : WatchStands s u) (r : Item) (S : SecId) :
    WatchStands s (u.markConflict r S) := by
  unfold State.markConflict
  exact .ite (WatchStands.attend (h.trans .of_eq) S) h

theorem WatchStands.grantNext (h : WatchStands s u) (S : SecId) : WatchStands s (u.grantNext S) := by
  refine h.trans ?_
  unfold State.grantNext
  split
  · exact .refl u
  · split <;> split <;> exact .of_eq

theorem WatchStands.releaseWalker (h : WatchStands s u) (o : Option Wand) :
    WatchStands s (u.releaseWalker o) :=
  h.trans (.of_eq (u.releaseWalker_watch o) (u.releaseWalker_events o))

end Updates

/-! ### The completion of a walk (R102, R103) -/

theorem State.tallySec_stands (s : State) (S : SecId) : WatchStands s (s.tallySec S) := by
  refine ⟨s.tallySec_watch S, ?_⟩
  rw [State.hitRaw, State.tallySec_events, BitVec.getLsbD_or]
  split <;> simp [EventKind.set_hitBit, State.hitRaw]

theorem State.completeWalk_stands (s : State) (x : CtxId) (c : Context) :
    WatchStands s (s.completeWalk x c) := by
  have counted : WatchStands s ((s.tallySec c.sec).modSec c.sec fun r =>
      { r with walks := min 255 (r.walks + 1) }) := (s.tallySec_stands c.sec).trans .of_eq
  have released := (counted.raise (k := .walkDone) (by decide)).releaseWalker c.walker
  exact .grantNext (released.trans .of_eq) c.sec

/-! ### The judgement -/

theorem judgeUnknown_stands (s : State) (c : Context) (t : Tag) :
    WatchStands s (judgeUnknown c t s).state := by
  unfold judgeUnknown
  split
  · exact (WatchStands.refl s).raise (by decide)
  · have attended : WatchStands s (((s.addItem (provisional t c.sec c.cursor s.clock)).joinChain
        c.sec t).attend c.sec) := .attend .of_eq c.sec
    exact .adoptDue (attended.trans .of_eq)

theorem judgeProvisional_stands (s : State) (c : Context) (r : Item) :
    WatchStands s (judgeProvisional c r s).state := by
  unfold judgeProvisional
  split
  · exact .of_eq
  · exact .bumpWhere (.attend (((WatchStands.refl s).leavePlace r).trans .of_eq) c.sec) _

/-- A re-sighting, at home or as a stray, bumps at most the home. -/
theorem State.sightAgain_stands (s : State) (c : Context) (H : SecId) (r : Item) :
    WatchStands s (if r.newConflict then
      ((s.modItem r.tag Item.sighted).markConflict r c.sec).bump H
      else (s.modItem r.tag Item.sighted).markConflict r c.sec) := by
  have marked : WatchStands s ((s.modItem r.tag Item.sighted).markConflict r c.sec) :=
    .markConflict .of_eq r c.sec
  exact .ite (marked.trans .of_eq) marked

theorem judgeForeign_stands (s : State) (c : Context) (H : SecId) (r : Item) :
    WatchStands s (judgeForeign c H r s).state := by
  unfold judgeForeign
  split
  · exact s.sightAgain_stands c H r
  · exact .bumpWhere (.markConflict
      (.attend (((WatchStands.refl s).leavePlace r).trans .of_eq) c.sec) r c.sec) _

theorem judgeAgain_stands (s : State) (c : Context) (r : Item) :
    WatchStands s (judgeAgain c r s).state :=
  s.sightAgain_stands c c.sec r

theorem stepB_stands (s : State) (x : CtxId) (c : Context) (t : Tag) (prior : CountState)
    (broken : Bool) : WatchStands s (stepB x c t prior broken s).state := by
  unfold stepB
  simp only
  split
  · split
    · exact .raiseCursor .of_eq x c _
    · exact .of_eq
  · split
    · exact .of_eq
    · exact .attend .of_eq c.sec

theorem continueRun_stands (s : State) (x : CtxId) (c : Context) (t : Tag) (prior : CountState) :
    WatchStands s (continueRun x c t prior s).state := by
  unfold continueRun resync
  simp only
  split
  · exact .of_eq
  · exact .raiseCursor .of_eq x c _

theorem placeFresh_stands (s : State) (x : CtxId) (c : Context) (t : Tag) (prior : CountState) :
    WatchStands s (placeFresh x c t prior s).state := by
  unfold placeFresh
  split
  · exact stepB_stands s x c t prior _
  · simp only
    split
    · exact continueRun_stands s x c t prior
    · have broken : WatchStands s (s.breakRun x c) := .attend .of_eq c.sec
      exact broken.trans (stepB_stands _ x _ t prior _)

theorem judgeFresh_stands (s : State) (x : CtxId) (c : Context) (r : Item) :
    WatchStands s (judgeFresh x c r s).state := by
  unfold judgeFresh
  exact .bumpWhere (.markConflict ((((WatchStands.refl s).leavePlace r).trans .of_eq).trans
    (placeFresh_stands _ x c r.tag _)) r c.sec) _

/-- No judgement touches the watch table or raises WATCH_HIT: its six tests in their order (R71). -/
theorem judgeWalk_stands (s : State) (x : CtxId) (c : Context) (t : Tag) :
    WatchStands s (judgeWalk x c t s).state := by
  unfold judgeWalk
  split
  · exact s.completeWalk_stands x c
  · split
    · exact judgeUnknown_stands s c t
    · split
      · exact judgeProvisional_stands s c _
      · split
        · exact judgeForeign_stands s c _ _
        · split
          · exact judgeAgain_stands s c _
          · exact judgeFresh_stands s x c _

/-- The delivery of a confirmation is after the match, and leaves it as it is (R36). -/
theorem State.deliver_stands (s : State) (w : Wand) (i : Fin 24) (tag : Tag) :
    WatchStands s (s.deliver w i tag).state := by
  unfold State.deliver State.deferEntry
  split
  · exact .refl s
  · split
    · exact .refl s
    · split
      · exact judgeWalk_stands s _ _ tag
      · split <;> exact .of_eq

/-! ### A confirmation records its match -/

section Confirmation
variable {s : State} {w : Wand}

/-- `u` is as `s` in all that a match of the wand looks at or changes. -/
structure MatchesAlike (w : Wand) (s u : State) : Prop where
  watch : u.watch = s.watch
  walkedSec : u.walkedSec w = s.walkedSec w
  clock : u.clock = s.clock
  hitRaw : u.hitRaw = s.hitRaw

theorem MatchesAlike.refl (w : Wand) (s : State) : MatchesAlike w s s := ⟨rfl, rfl, rfl, rfl⟩

theorem MatchesAlike.trans {s u v : State} (h : MatchesAlike w s u) (k : MatchesAlike w u v) :
    MatchesAlike w s v :=
  ⟨k.watch.trans h.watch, k.walkedSec.trans h.walkedSec, k.clock.trans h.clock,
    k.hitRaw.trans h.hitRaw⟩

theorem State.setTable_matchesAlike (s : State) (w v : Wand) (t : CandTable) :
    MatchesAlike w s (s.setTable v t) := ⟨rfl, rfl, rfl, rfl⟩

/-- Loading a lease moves no walk. -/
theorem State.walkedSec_begun (s : State) (w v : Wand) :
    (s.begun w).walkedSec v = s.walkedSec v := by
  unfold State.walkedSec
  rw [State.walkOf_begun]
  cases s.walkOf v with
  | none => rfl
  | some x =>
    rw [Option.bind_some, Option.bind_some, State.ctx_begun]
    unfold State.leaseLoaded
    split <;> cases s.ctx x <;> rfl

theorem State.begun_matchesAlike (s : State) (w : Wand) : MatchesAlike w s (s.begun w) :=
  ⟨s.begun_watch w, s.walkedSec_begun w w, s.begun_clock w, by
    rw [State.hitRaw, State.begun_events, State.hitRaw]⟩

/-- `u` and the flag are what the wand's match of the tag in `s` makes of the watch table, of the raw
bit of WATCH_HIT, and of the flag WATCH. -/
structure RecordsMatch (w : Wand) (tag : Tag) (s u : State) (hit : Bool) : Prop where
  watch : u.watch = (s.matchWatch w tag).1.watch
  flag : hit = (s.matchWatch w tag).2
  hitRaw : u.hitRaw = (s.hitRaw || hit)

theorem State.matchWatch_records (s : State) (w : Wand) (tag : Tag) :
    RecordsMatch w tag s (s.matchWatch w tag).1 (s.matchWatch w tag).2 := by
  refine ⟨rfl, rfl, ?_⟩
  cases h : s.watchWinner tag with
  | none => simp [State.matchWatch_of_none h]
  | some i =>
    rw [State.matchWatch_of_winner h, State.hitRaw_raise]
    rfl

theorem RecordsMatch.of_stands {tag : Tag} {s u v : State} {hit : Bool}
    (h : RecordsMatch w tag s u hit) (k : WatchStands u v) : RecordsMatch w tag s v hit :=
  ⟨k.watch.trans h.watch, h.flag, k.hitRaw.trans h.hitRaw⟩

/-- A match looks at the watch table, the clock and the wand's walk alone. -/
theorem RecordsMatch.of_alike {tag : Tag} {s t u : State} {hit : Bool}
    (h : RecordsMatch w tag t u hit) (alike : MatchesAlike w s t) :
    RecordsMatch w tag s u hit := by
  have winner : t.watchWinner tag = s.watchWinner tag := by
    unfold State.watchWinner
    rw [alike.watch]
  obtain ⟨watch, flag_eq, hitRaw⟩ := h
  rw [alike.hitRaw] at hitRaw
  cases hs : s.watchWinner tag with
  | none =>
    rw [State.matchWatch_of_none (winner.trans hs)] at watch flag_eq
    refine ⟨?_, ?_, hitRaw⟩ <;> rw [State.matchWatch_of_none hs]
    · exact watch.trans alike.watch
    · exact flag_eq
  | some i =>
    rw [State.matchWatch_of_winner (winner.trans hs)] at watch flag_eq
    refine ⟨?_, ?_, hitRaw⟩ <;> rw [State.matchWatch_of_winner hs]
    · rw [watch]
      simp only [State.raise_watch, State.setWatch, alike.watch, alike.walkedSec, alike.clock]
    · exact flag_eq

/-- A confirmation records its match and its outcome carries the flag, whatever its delivery does
(R35, R36, R156). -/
theorem State.confirmEntry_records (s : State) (w : Wand) (i : Fin 24) (tag : Tag) (a : Nat) :
    RecordsMatch w tag s (s.confirmEntry w i tag a).state
      (s.confirmEntry w i tag a).outcome.watch :=
  ((State.matchWatch_records _ w tag).of_stands (State.deliver_stands _ w i tag)).of_alike
    (s.setTable_matchesAlike w w _)

/-! ### A read that confirms -/

/-- In a sound table the position of a tag is the one that holds it. -/
theorem CandTable.position_of_holds {t : CandTable} (sound : t.Sound) {k : Fin 24} {tag : Tag}
    (holds : t.entries[k].tag? = some tag) : t.position? tag = some k := by
  obtain ⟨-, once⟩ := sound
  refine find_finRange_eq_some.mpr ⟨by simpa using holds, fun j hj => ?_⟩
  by_contra h
  exact absurd (once j k tag (by simpa using h) holds) hj.ne

/-- The read confirms the tag in entry k: it brings the score of its entry to the confirm threshold, or
it allocates the entry with a weight that reaches it (R29, R30). -/
def State.Confirms (s : State) (w : Wand) (tag : Tag) (weight : Nat) (k : Fin 24) : Prop :=
  (∃ score a, (s.table w).entries[k] = .gathering tag score a ∧
      s.settings.confirmThreshold ≤ min 1023 (score + weight)) ∨
    ((∀ j : Fin 24, (s.table w).entries[j].tag? ≠ some tag) ∧ (s.table w).room = some k ∧
      s.settings.confirmThreshold ≤ weight)

/-- A read that confirms gives a confirmation of its entry, with at most the table changed before. -/
theorem readOne_of_confirms {strength : Byte} {weight : Nat} {tag : Tag} {k : Fin 24}
    (positive : 0 < weight) (weighs : strength.toNat = s.settings.readFloor + weight)
    (sound : (s.table w).Sound) (confirms : s.Confirms w tag weight k) :
    ∃ u a, MatchesAlike w s u ∧
      readOne w ⟨tag, strength⟩ s = (u.confirmEntry w k tag a).asRead := by
  have weight_eq : s.settings.weight strength = weight := by
    rw [Settings.weight, weighs, Nat.add_sub_cancel_left]
  simp only [readOne, weight_eq, if_neg positive.ne']
  rcases confirms with ⟨score, a, gathers, reaches⟩ | ⟨absent, room, reaches⟩
  · have position := CandTable.position_of_holds sound (k := k) (tag := tag) (by rw [gathers]; rfl)
    refine ⟨s, a, .refl w s, ?_⟩
    simp only [position, readHeld, gathers]
    exact if_pos reaches
  · have position : (s.table w).position? tag = none :=
      find_finRange_eq_none.mpr fun j => by simpa using absent j
    refine ⟨s.setTable w ((s.table w).allocate k tag weight), (s.table w).nextAlloc,
      s.setTable_matchesAlike w w _, ?_⟩
    simp only [position, readNew, room, if_pos reaches]

/-- A SIGHT of one read that confirms answers the one outcome. -/
theorem sightBody_of_confirms {r : TagRead} {j : Judged} (h : readOne w r s = j.asRead) :
    sightBody w [r] s = ⟨j.state, .ok, [.num8 0, .num8 1, .sighting j.outcome]⟩ := by
  simp [sightBody, Config.maxReads, readAll_cons, h, Judged.asRead, listFields]

/-- SIGHT is a wand frame of kind 02H, not processed while PAUSED. -/
theorem exec_sight (w : Wand) (reads : List TagRead) (s : State) :
    exec (.sight w reads) s =
      .next (takeFrame (.sight w reads) w 0x02 (unlessPaused (sightBody w reads)) s) := rfl

/-- The taking of a SIGHT outside PAUSED is the taking of what its processing gives. -/
theorem taken_sight {reads : List TagRead} (takes : s.Takes (.sight w reads))
    (unpaused : s.campaign ≠ .paused) {a : Answer} (h : sightBody w reads (s.begun w) = a)
    (same : SameOutside (s.begun w) a.state) :
    Taken s (.sight w reads) (a.state.sending (s.sendQueue ++
      .answer w 0x02 a.code a.fields :: a.state.sendQueue)) a.code a.fields a.state.sendQueue := by
  have body : unlessPaused (sightBody w reads) (s.begun w) = a := by
    rw [unlessPaused, State.begun_campaign, if_neg unpaused, h]
  have taken := taken_of_body (exec_sight w reads s) rfl takes (by rw [body]; exact same)
  rwa [body] at taken

/-- A SIGHT that confirms its tag is taken, answers the outcome, and records the match. -/
theorem taken_sight_of_confirms {strength : Byte} {weight : Nat} {tag : Tag} {k : Fin 24}
    (takes : s.Takes (.sight w [⟨tag, strength⟩])) (unpaused : s.campaign ≠ .paused)
    (positive : 0 < weight) (weighs : strength.toNat = s.settings.readFloor + weight)
    (sound : (s.table w).Sound) (confirms : s.Confirms w tag weight k) :
    ∃ (u : State) (outcome : Sighting) (notices : List PartFrame),
      Taken s (.sight w [⟨tag, strength⟩]) u .ok [.num8 0, .num8 1, .sighting outcome] notices ∧
      RecordsMatch w tag s u outcome.watch := by
  obtain ⟨v, a, alike, read⟩ : ∃ v a, MatchesAlike w (s.begun w) v ∧
      readOne w ⟨tag, strength⟩ (s.begun w) = (v.confirmEntry w k tag a).asRead :=
    readOne_of_confirms positive (by rwa [State.begun_settings]) (by rwa [State.begun_table_eq])
      (by simpa only [State.Confirms, State.begun_table_eq, State.begun_settings] using confirms)
  have same : SameOutside (s.begun w) (v.confirmEntry w k tag a).state := by
    have h := readOne_same (s.begun w) w ⟨tag, strength⟩
    rwa [read] at h
  refine ⟨_, _, _, taken_sight takes unpaused (sightBody_of_confirms read) same, ?_⟩
  exact ((v.confirmEntry_records w k tag a).of_alike
    ((s.begun_matchesAlike w).trans alike)).of_stands .of_eq

end Confirmation

/-- Settles O26: the match by its winner; the SIGHT by the match that its confirmation records. -/
theorem watchWinnerTakesTheHit : Obligations.WatchWinnerTakesTheHit := by
  unfold Obligations.WatchWinnerTakesTheHit
  refine fun w tag s => ⟨fun unmatched => ?_, fun i valid agrees least => ?_,
    fun strength weight k takes unpaused positive weighs sound confirms => ?_⟩
  · refine State.matchWatch_of_none (State.watchWinner_of_none fun j => ?_)
    by_contra h
    obtain ⟨valid, agrees⟩ := WatchEntry.qualifies_iff.mp (Bool.eq_true_of_not_eq_false h)
    exact unmatched j valid agrees
  · refine State.matchWatch_records_hit valid (State.watchWinner_of_least
      (WatchEntry.qualifies_iff.mpr ⟨valid, agrees⟩) fun j hj => ?_)
    obtain ⟨jvalid, jagrees⟩ := WatchEntry.qualifies_iff.mp hj
    exact least j jvalid jagrees
  · obtain ⟨u, outcome, notices, taken, watch, flag, hitRaw⟩ :=
      taken_sight_of_confirms takes unpaused positive weighs sound confirms
    refine ⟨u, outcome, notices, taken, watch, flag, fun hit => ?_, fun quiet => ?_⟩
    · rw [hit, Bool.or_true] at hitRaw
      exact hitRaw
    · rw [quiet, Bool.or_false] at hitRaw
      exact hitRaw

end Sys2Proof.Machine

/-! # Proofs: the event unit (R200 to R204) -/

namespace Sys2Proof.Machine

/-! ### The kinds by their bits (R209) -/

/-- Every bit of a set of kinds is the bit of a kind. -/
theorem EventKind.exists_bit_eq {n : Nat} (h : n < 9) : ∃ k : EventKind, k.bit = n := by
  match n, h with
  | 0, _ => exact ⟨.watchHit, rfl⟩
  | 1, _ => exact ⟨.attention, rfl⟩
  | 2, _ => exact ⟨.walkDone, rfl⟩
  | 3, _ => exact ⟨.markReached, rfl⟩
  | 4, _ => exact ⟨.adoptDue, rfl⟩
  | 5, _ => exact ⟨.leaseExpired, rfl⟩
  | 6, _ => exact ⟨.revisionExpired, rfl⟩
  | 7, _ => exact ⟨.tableFull, rfl⟩
  | 8, _ => exact ⟨.filterSaturated, rfl⟩

theorem EventKind.bit_lt (k : EventKind) : k.bit < 9 := by
  cases k <;> decide

/-- A set of kinds is empty exactly when it holds none of the nine. -/
theorem KindSet.ne_zero_iff {K : KindSet} :
    K ≠ 0 ↔ ∃ k : EventKind, K.getLsbD k.bit = true := by
  refine ⟨fun nonempty => ?_, fun ⟨k, held⟩ empty => ?_⟩
  · by_contra none_held
    refine nonempty (BitVec.eq_of_getLsbD_eq fun n hn => ?_)
    obtain ⟨k, rfl⟩ := EventKind.exists_bit_eq hn
    have absent : K.getLsbD k.bit = false :=
      Bool.eq_false_of_not_eq_true fun held => none_held ⟨k, held⟩
    exact absent.trans BitVec.getLsbD_zero.symm
  · subst empty
    exact Bool.false_ne_true (BitVec.getLsbD_zero.symm.trans held)

/-! ### The notification lines (R200) -/

theorem EventUnit.masked_bit (e : EventUnit) (n : Nat) :
    e.masked.getLsbD n = (e.raw.getLsbD n && e.enable.getLsbD n) := BitVec.getLsbD_and

theorem EventUnit.attnLine_iff (e : EventUnit) :
    e.attnLine = true ↔ ∃ k : EventKind, e.raw.getLsbD k.bit = true ∧
      e.enable.getLsbD k.bit = true ∧ e.urgent.getLsbD k.bit = false := by
  rw [EventUnit.attnLine, decide_eq_true_eq, KindSet.ne_zero_iff]
  simp only [BitVec.getLsbD_and, BitVec.getLsbD_not, EventUnit.masked_bit, EventKind.bit_lt,
    decide_true, Bool.true_and, Bool.and_eq_true, Bool.not_eq_true', and_assoc]

theorem EventUnit.urgentLine_iff (e : EventUnit) :
    e.urgentLine = true ↔ ∃ k : EventKind, e.raw.getLsbD k.bit = true ∧
      e.enable.getLsbD k.bit = true ∧ e.urgent.getLsbD k.bit = true := by
  rw [EventUnit.urgentLine, decide_eq_true_eq, KindSet.ne_zero_iff]
  simp only [BitVec.getLsbD_and, EventUnit.masked_bit, Bool.and_eq_true, and_assoc]

/-- Settles O10: a pin is its line while RESET is released, and a line is up when the masked kinds
routed to it are not the empty set. -/
theorem linesFollowRawEnableAndRoute : Obligations.LinesFollowRawEnableAndRoute := by
  unfold Obligations.LinesFollowRawEnableAndRoute
  refine fun s => ⟨?attn, ?urgent⟩
  case attn =>
    rw [State.attnAsserted, Bool.and_eq_true, Bool.not_eq_true', EventUnit.attnLine_iff]
  case urgent =>
    rw [State.urgentAsserted, Bool.and_eq_true, Bool.not_eq_true', EventUnit.urgentLine_iff]

/-! ### EVT_CLEAR, EVT_FORCE, EVT_ENABLE and EVT_ROUTE (R201 to R204) -/

/-- An event request that names something that is no kind is refused. -/
theorem onKinds_of_unknown {k : BitVec 16} (h : 512 ≤ k.toNat) (former : EventUnit → KindSet)
    (write : KindSet → EventUnit → EventUnit) (s : State) :
    onKinds k former write s = s.refuse .badRequest := by
  simp only [onKinds, kindsOf, if_neg (Nat.not_lt.mpr h)]

/-- An event request writes the event unit by the kinds that it names and reports the former set. -/
theorem onKinds_of_known {k : BitVec 16} (h : k.toNat < 512) (former : EventUnit → KindSet)
    (write : KindSet → EventUnit → EventUnit) (s : State) :
    onKinds k former write s =
      ({ s with events := write (k.setWidth 9) s.events } : State).done
        [.kinds (former s.events)] := by
  simp only [onKinds, kindsOf, if_pos h]

/-- The kinds named are those of the sixteen bits carried. -/
theorem getLsbD_kinds_named (k : BitVec 16) {n : Nat} (h : n < 9) :
    (k.setWidth 9).getLsbD n = k.getLsbD n := by
  rw [BitVec.getLsbD_setWidth, decide_eq_true h, Bool.true_and]

/-- A served request on a set of kinds is refused or reports the former set; beside the port its frame
is the event unit, of which `P` says what is written. -/
theorem answers_onKinds {request : Instr} {code : Byte} {args : List Byte} {k : BitVec 16}
    {former : EventUnit → KindSet} {write : KindSet → EventUnit → EventUnit} {s : State}
    {P : State → Prop}
    (exec_eq : exec request s = .next (carryOut request code (onKinds k former write) s))
    (packet : requestPacket request = some (code, args)) (h : s.Serves request)
    (writes : ∀ u : State, u.events = write (k.setWidth 9) s.events → P u) :
    if 512 ≤ k.toNat then ∃ u, Answers s request u .badRequest []
    else ∃ u, Answers s request u .done [.kinds (former s.events)] ∧
      u = { s with events := u.events, port := u.port } ∧ P u := by
  have answered := answers_of_body exec_eq packet h
  split
  next unknown =>
    rw [onKinds_of_unknown unknown] at answered
    exact ⟨_, answered⟩
  next known =>
    rw [onKinds_of_known (Nat.lt_of_not_le known)] at answered
    exact ⟨_, answered, rfl, writes _ rfl⟩

/-- Settles O51: each of the four requests is one write of the event unit by the kinds named. -/
theorem eventRequestsWriteTheSetsNamed : Obligations.EventRequestsWriteTheSetsNamed := by
  unfold Obligations.EventRequestsWriteTheSetsNamed
  refine fun k s =>
    ⟨fun h => answers_onKinds rfl rfl h fun u written => ?clear,
      fun h => answers_onKinds rfl rfl h fun u written => ?force,
      fun h => answers_onKinds rfl rfl h fun u written => ?enable,
      fun h => answers_onKinds rfl rfl h fun u written => ?route⟩
  all_goals rw [written]; refine ⟨rfl, rfl, fun n hn => ?_⟩
  case clear =>
    rw [BitVec.getLsbD_and, BitVec.getLsbD_not, getLsbD_kinds_named k hn, decide_eq_true hn,
      Bool.true_and]
  case force => rw [BitVec.getLsbD_or, getLsbD_kinds_named k hn]
  case enable => exact getLsbD_kinds_named k hn
  case route => exact getLsbD_kinds_named k hn

end Sys2Proof.Machine

/-! # Proofs: every request and every frame by its body -/

namespace Sys2Proof.Machine

/-- The processing of a catalogue request (chapter 11.3); of any other command, a refusal that no
rule uses. -/
def requestBody : Instr → State → Reply
  | .revOpen S => revOpenBody S
  | .revInsert S k t circ => revInsertBody S k t circ
  | .revRetire t => revRetireBody t
  | .revAdopt t S k => revAdoptBody t S k
  | .revClose S => revCloseBody S
  | .secUnload S => secUnloadBody S
  | .itemDrop t => itemDropBody t
  | .itemRead t => itemReadBody t
  | .secSet S tol lamp mark endMarker => secSetBody S tol lamp mark endMarker
  | .walkAbandon S => walkAbandonBody S
  | .walkRead x => walkReadBody x
  | .claimqRead => claimqReadBody
  | .attNext => attNextBody
  | .attAck S => attAckBody S
  | .secRead S => secReadBody S
  | .secList S list start => secListBody S list start
  | .secReset S => secResetBody S
  | .circOut t => circOutBody t
  | .circIn t => circInBody t
  | .itemClear t => itemClearBody t
  | .campStart => campStartBody
  | .campPause => campPauseBody
  | .campResume => campResumeBody
  | .campClose => campCloseBody
  | .campRead => campReadBody
  | .watchSet x value mask cls oneShot => watchSetBody x value mask cls oneShot
  | .watchClear x => watchClearBody x
  | .watchRead x => watchReadBody x
  | .watchNext => watchNextBody
  | .watchAck x => watchAckBody x
  | .lampForce m pattern => lampForceBody m pattern
  | .wandRead w => wandReadBody w
  | .evtClear k => evtClearBody k
  | .evtForce k => evtForceBody k
  | .evtEnable k => evtEnableBody k
  | .evtRoute k => evtRouteBody k
  | .evtRead => evtReadBody
  | .setWrite key v => setWriteBody key v
  | .setRead => setReadBody
  | _ => fun s => s.refuse .badRequest

/-- The processing of a taken frame (chapter 10.5); of any other command, an answer that no rule
uses. -/
def frameBody : Instr → State → Answer
  | .badFrame _ _ => fun s => s.reply .badFrame []
  | .hello w => helloBody w
  | .sight w reads => unlessPaused (sightBody w reads)
  | .claim w S => unlessPaused (claimBody w S)
  | .walkendComplete w => unlessPaused (walkendCompleteBody w)
  | .walkendBreak w => unlessPaused (walkendBreakBody w)
  | .walkendOtherMode _ _ => unlessPaused fun s => s.reply .badFrame []
  | .whereIs _ t => whereBody t
  | .shelved _ t => unlessPaused (shelvedBody t)
  | .keep w => unlessPaused (keepBody w)
  | _ => fun s => s.reply .badFrame []

/-- A request is carried out by its body and echoes the code of its packet (R193, R212). -/
theorem exec_request {i : Instr} {code : Byte} {args : List Byte}
    (packet : requestPacket i = some (code, args)) (s : State) :
    exec i s = .next (carryOut i code (requestBody i) s) := by
  cases i <;> cases packet
  all_goals rfl

/-- A taken frame is processed by its body and its answer repeats its kind (R176, R178). -/
theorem exec_frame {i : Instr} {w : Wand} {kind : Byte} {payload : List Byte}
    (frame : wandFrame i = some (w, kind, payload)) (s : State) :
    exec i s = .next (takeFrame i w kind (frameBody i) s) := by
  cases i <;> cases frame
  all_goals rfl

/-- A served request answers what its body gives. -/
theorem answers_request {i : Instr} {code : Byte} {args : List Byte} {s : State}
    (packet : requestPacket i = some (code, args)) (serves : s.Serves i) :
    Answers s i ((requestBody i s).hold code s.lost) (requestBody i s).status
      (requestBody i s).results :=
  answers_of_body (exec_request packet s) packet serves

end Sys2Proof.Machine

/-! # Proofs: what a step can do -/

namespace Sys2Proof.Machine

/-! ### The part of a state that the invariants speak of -/

/-- What the invariants see of a record: not its sight count, its flags, the position and time of
its finding, or which circulation it has. -/
def Item.core (r : Item) : Item :=
  { r with
    circ := r.circ.map fun _ => .shelf
    found := r.found.map fun f => ⟨f.sec, 0, 0⟩
    sight := 0
    moved := false
    conflict := false }

/-- What the invariants see of a section: state, sequence, chain, context, and whether its revision
is open. -/
def SectionRec.core (x : SectionRec) : SectionRec :=
  { SectionRec.blank with
    state := x.state
    revision := x.revision.map fun _ => 0
    expected := x.expected
    chain := x.chain
    context := x.context }

/-- What the invariants see of a context: not its mark-hit flag nor how much of a lease remains. -/
def Context.core (c : Context) : Context :=
  { c with lease := c.lease.map fun _ => 0, markHit := false }

/-- The invariants of records, sections, walks and claims see no difference between two states. -/
structure Alike (s u : State) : Prop where
  items : u.items.map Item.core = s.items.map Item.core
  sec : ∀ X, (u.sec X).core = (s.sec X).core
  ctx : ∀ x, (u.ctx x).map Context.core = (s.ctx x).map Context.core
  claims : u.claims = s.claims
  campaign : u.campaign = s.campaign

/-- The same, with the same candidate tables and settings. -/
structure AlikeAll (s u : State) : Prop extends Alike s u where
  tables : u.tables = s.tables
  settings : u.settings = s.settings

theorem Alike.refl (s : State) : Alike s s := ⟨rfl, fun _ => rfl, fun _ => rfl, rfl, rfl⟩

theorem AlikeAll.refl (s : State) : AlikeAll s s := ⟨.refl s, rfl, rfl⟩

theorem Alike.trans {s t u : State} (h : Alike s t) (k : Alike t u) : Alike s u where
  items := k.items.trans h.items
  sec X := (k.sec X).trans (h.sec X)
  ctx x := (k.ctx x).trans (h.ctx x)
  claims := k.claims.trans h.claims
  campaign := k.campaign.trans h.campaign

theorem AlikeAll.trans {s t u : State} (h : AlikeAll s t) (k : AlikeAll t u) : AlikeAll s u where
  toAlike := h.toAlike.trans k.toAlike
  tables := k.tables.trans h.tables
  settings := k.settings.trans h.settings

theorem AlikeAll.ite {s t u : State} {p : Prop} [Decidable p] (h : AlikeAll s t)
    (k : AlikeAll s u) : AlikeAll s (if p then t else u) := by split <;> assumption

/-- States that agree in the parts the invariants speak of are alike. -/
theorem AlikeAll.of_eq {s u : State} (items : u.items = s.items := by rfl)
    (sections : u.sections = s.sections := by rfl) (contexts : u.contexts = s.contexts := by rfl)
    (claims : u.claims = s.claims := by rfl) (campaign : u.campaign = s.campaign := by rfl)
    (tables : u.tables = s.tables := by rfl) (settings : u.settings = s.settings := by rfl) :
    AlikeAll s u where
  items := by rw [items]
  sec X := by rw [State.sec, State.sec, sections]
  ctx x := by rw [State.ctx, State.ctx, contexts]
  claims := claims
  campaign := campaign
  tables := tables
  settings := settings

section Updates
variable (s : State)

theorem State.modSec_alike (S : SecId) (f : SectionRec → SectionRec)
    (hf : (f (s.sec S)).core = (s.sec S).core) : AlikeAll s (s.modSec S f) := by
  refine ⟨⟨rfl, fun X => ?_, fun _ => rfl, rfl, rfl⟩, rfl, rfl⟩
  rw [State.sec_modSec]
  split
  · subst_vars; exact hf
  · rfl

theorem State.bump_alike (S : SecId) : AlikeAll s (s.bump S) := s.modSec_alike S _ rfl

theorem State.mapSecs_alike (f : SecId → SectionRec → SectionRec)
    (hf : ∀ X x, (f X x).core = x.core) : AlikeAll s (s.mapSecs f) where
  items := congrArg (List.map Item.core) (s.mapSecs_items f)
  sec X := by rw [State.sec_mapSecs, hf]
  ctx x := congrArg (Option.map Context.core) (s.mapSecs_ctx_eq f x)
  claims := s.mapSecs_claims f
  campaign := s.mapSecs_campaign f
  tables := s.mapSecs_tables f
  settings := s.mapSecs_settings f

theorem State.raise_alike (k : EventKind) : AlikeAll s (s.raise k) := .of_eq

theorem State.attend_alike (S : SecId) : AlikeAll s (s.attend S) := by
  unfold State.attend
  exact .ite (.refl s)
    ((s.modSec_alike S (fun x => { x with attention := true }) rfl).trans (State.raise_alike _ _))

theorem State.modItems_alike (p : Item → Bool) (f : Item → Item) (hf : ∀ r, (f r).core = r.core) :
    AlikeAll s (s.modItems p f) := by
  refine ⟨⟨?_, fun _ => rfl, fun _ => rfl, rfl, rfl⟩, rfl, rfl⟩
  rw [State.modItems_items, List.map_map]
  refine List.map_congr_left fun r _ => ?_
  rw [Function.comp]
  split
  · exact hf r
  · rfl

theorem State.modItem_alike (t : Tag) (f : Item → Item) (hf : ∀ r, (f r).core = r.core) :
    AlikeAll s (s.modItem t f) := s.modItems_alike _ f hf

theorem State.modCtx_alike (x : CtxId) (f : Context → Context) (hf : ∀ c, (f c).core = c.core) :
    AlikeAll s (s.modCtx x f) := by
  refine ⟨⟨rfl, fun _ => rfl, fun y => ?_, rfl, rfl⟩, rfl, rfl⟩
  rw [State.ctx_modCtx]
  split
  · subst_vars; rw [Option.map_map]; exact congrArg (fun g => Option.map g _) (funext hf)
  · rfl

theorem State.markConflict_alike (r : Item) (S : SecId) : AlikeAll s (s.markConflict r S) := by
  unfold State.markConflict
  exact .ite ((s.modItem_alike r.tag (fun q => { q with conflict := true }) fun _ => rfl).trans
    (State.attend_alike _ _)) (.refl s)

/-- A re-sighting, at home or as a stray, changes nothing that the invariants see. -/
theorem State.sightAgain_alike (c : Context) (H : SecId) (r : Item) :
    AlikeAll s (if r.newConflict then
      ((s.modItem r.tag Item.sighted).markConflict r c.sec).bump H
      else (s.modItem r.tag Item.sighted).markConflict r c.sec) := by
  have marked : AlikeAll s ((s.modItem r.tag Item.sighted).markConflict r c.sec) :=
    (s.modItem_alike _ Item.sighted fun _ => rfl).trans (State.markConflict_alike _ r c.sec)
  exact .ite (marked.trans (State.bump_alike _ H)) marked

theorem State.matchWatch_alike (w : Wand) (t : Tag) : AlikeAll s (s.matchWatch w t).1 := by
  unfold State.matchWatch
  split
  · exact .refl s
  · exact .of_eq

/-- A millisecond changes nothing that the invariants see: remaining times are some before and
after. -/
theorem State.tick_alike : AlikeAll s s.tick := by
  have running : AlikeAll s s.tickRunning := by
    unfold State.tickRunning
    refine .ite ⟨⟨rfl, fun _ => rfl, fun x => ?_, rfl, rfl⟩, rfl, rfl⟩ (.refl s)
    show ((tabulate 16 fun y => (s.ctx y).map Context.tick)[(x : Nat)]).map Context.core = _
    rw [getElem_tabulate, Option.map_map]
    refine congrArg (fun g => Option.map g _) (funext fun c => ?_)
    simp [Context.core, Context.tick, countDown, Function.comp_def]
  have unpaused : ∀ t : State, AlikeAll t t.tickUnpaused := by
    intro t
    unfold State.tickUnpaused
    have counted : AlikeAll t { t with decayLeft := t.decayLeft - 1 } := .of_eq
    refine .ite (.refl t) (counted.trans (State.mapSecs_alike _ _ fun _ x => ?_))
    simp [SectionRec.core, countDown, Function.comp_def]
  exact (running.trans (unpaused _)).trans .of_eq

end Updates

/-! ### What can happen to a candidate table -/

/-- One change of a candidate table (R29 to R42): a read gathers, refreshes, allocates or confirms;
a confirmation is deferred; WAITING entries are released, one or all; the table is freed; it decays.
-/
inductive TableStep (k : Settings) (t : CandTable) : CandTable → Prop where
  | gather {i : Fin 24} {tag : Tag} {score a weight : Nat}
      (gathers : t.entries[i] = .gathering tag score a) (positive : 0 < weight) :
      TableStep k t { t with
        entries := t.entries.set i (.gathering tag (min Config.maxScore (score + weight)) a) }
  | refresh {i : Fin 24} {tag : Tag} {hold a f : Nat}
      (confirmed : t.entries[i] = .confirmed tag hold a f) :
      TableStep k t { t with entries := t.entries.set i (.confirmed tag k.holdTicks a f) }
  | allocate {i : Fin 24} {tag : Tag} {weight : Nat} (absent : t.position? tag = none)
      (positive : 0 < weight) (byte : weight ≤ 255) : TableStep k t (t.allocate i tag weight)
  | confirm {i : Fin 24} {tag : Tag} {score a : Nat}
      (gathers : t.entries[i] = .gathering tag score a) :
      TableStep k t (t.confirm i tag a k.holdTicks)
  | defer (i : Fin 24) : TableStep k t { t with entries := t.entries.set i t.entries[i].wait }
  | release {i : Fin 24} {tag : Tag} {a f : Nat} (waits : t.entries[i] = .waiting tag a f) :
      TableStep k t { t with entries := t.entries.set i (.confirmed tag k.holdTicks a f) }
  | releaseAll : TableStep k t { t with
      entries := tabulate 24 fun i => t.entries[i].release k.holdTicks }
  | free : TableStep k t { t with entries := Vector.replicate 24 .free }
  | decay : TableStep k t t.decay

/-! ### The effects -/

/-- What an event can do to the state, one change at a time, with what holds when it is done: the
changes that the invariants do not see, and one constructor for each of the others. -/
inductive Effect (s : State) : State → Prop where
  | alike {u : State} (h : AlikeAll s u) : Effect s u
  | tables {u : State} (h : Alike s u) (settings : u.settings = s.settings)
      (steps : ∀ w, u.table w = s.table w ∨
        TableStep s.settings (s.table w) (u.table w)) : Effect s u
  | setting {key : Nat} (v : Nat) (named : 1 ≤ key ∧ key ≤ 9) :
      Effect s { s with settings := s.settings.put key (settingWritten key v) }
  | reset {u : State} (h : AlikeAll State.reset u) : Effect s u
  | lease (w : Wand) : Effect s (s.loadLeaseOf w)
  -- the campaign (chapter 7)
  | toggle {st : CampState} (before : s.campaign = .running ∨ s.campaign = .paused)
      (after : st = .running ∨ st = .paused) : Effect s { s with campaign := st }
  | start (before : s.campaign = .stopped ∨ s.campaign = .closed) : Effect s s.startCampaign
  | close (before : s.campaign = .running ∨ s.campaign = .paused)
      (closed : ∀ S, (s.sec S).revision = none) : Effect s s.closeCampaign
  -- shelf-lists and sections (chapters 1 and 5)
  | openRevision (S : SecId) :
      Effect s ((s.modSec S fun r => { r with revision := some s.fullRevision }).bump S)
  | insert {S : SecId} {k : Nat} {t : Tag} (c : Circulation) (isOpen : (s.sec S).revision.isSome)
      (new : s.item? t = none) (room : s.items.length < Config.maxItems) (within : k ≤ s.length S) :
      Effect s (((s.addItem (homeRecord t S c)).insertAt S k t).bump S)
  | retire {H : SecId} {r : Item} (found : s.item? r.tag = some r) (home : r.home = some H)
      (isOpen : (s.sec H).revision.isSome) : Effect s (s.retire H r)
  | adopt {S : SecId} {k : Nat} {r : Item} (found : s.item? r.tag = some r) (home : r.home = none)
      (isOpen : (s.sec S).revision.isSome) (within : k ≤ s.length S) : Effect s (s.adopt S k r)
  | unload {S : SecId} (still : (s.sec S).state = .ready ∨ (s.sec S).state = .tallied)
      (closed : (s.sec S).revision = none) : Effect s (s.unload S)
  | recount {S : SecId} (still : (s.sec S).state = .ready ∨ (s.sec S).state = .tallied) :
      Effect s (s.recount S)
  | dropRecord {r : Item} (found : s.item? r.tag = some r) (home : r.home = none) :
      Effect s (((s.leaveChainOf r.foundIn r.tag).dropItems fun q =>
        q.tag = r.tag).bumpWhere fun X =>
        some X = r.foundIn)
  -- circulation (chapter 6)
  | notice {r : Item} {H : SecId} {f : Item → Item} {count : CountState} (circ : Circulation)
      (found : s.item? r.tag = some r) (home : r.home = some H)
      (moves : count = r.count ∨ r.openToNotice = true ∧ count = .desk)
      (writes : ∀ q, (f q).core = { q with circ := some circ, count := count }.core) :
      Effect s (s.modItem r.tag f)
  | shelve {H : SecId} {r : Item} (found : s.item? r.tag = some r) (home : r.home = some H)
      (free : r.count ≠ .held) : Effect s (s.shelve H r)
  -- walks (chapter 3)
  | unclaim (w : Wand) : Effect s (s.unclaim w)
  | enqueue {w : Wand} {S : SecId} (running : s.campaign = .running) (idle : s.walkOf w = none)
      (walking : (s.sec S).state = .walking) : Effect s (s.enqueue w S)
  | startWalk {w : Wand} {S : SecId} {x : CtxId} (running : s.campaign = .running)
      (idle : s.walkOf w = none) (still : (s.sec S).state = .ready ∨ (s.sec S).state = .tallied)
      (free : s.freeCtx = some x) : Effect s ((s.unclaim w).startWalk x S w)
  | resumeWalk {w : Wand} {S : SecId} {x : CtxId} (running : s.campaign = .running)
      (idle : s.walkOf w = none) (suspended : (s.sec S).state = .suspended)
      (walk : (s.sec S).context = some x) : Effect s ((s.unclaim w).resumeWalk x S w)
  | suspend {w : Wand} {x : CtxId} {c : Context} {v : State} (walk : s.ctx x = some c)
      (walker : c.walker = some w) (h : AlikeAll (s.suspend x c w) v) : Effect s (v.grantNext c.sec)
  | complete {x : CtxId} {c : Context} (walk : s.ctx x = some c) : Effect s (s.completeWalk x c)
  | abandon {x : CtxId} {c : Context} {S : SecId} (walk : s.ctx x = some c)
      (names : (s.sec S).context = some x) : Effect s (s.abandon x c)
  | park {x : CtxId} {c : Context} (t : Tag) (walk : s.ctx x = some c)
      (isOpen : (s.sec c.sec).revision.isSome) (room : c.park.length < Config.maxPark) :
      Effect s (s.modCtx x fun d => { d with park := d.park ++ [t] })
  -- placement verdicts (chapter 4)
  | unknown {x : CtxId} {c : Context} {t : Tag} (walk : s.ctx x = some c) (new : s.item? t = none) :
      Effect s (judgeUnknown c t s).state
  | provisional {x : CtxId} {c : Context} {r : Item} (walk : s.ctx x = some c)
      (found : s.item? r.tag = some r) (home : r.home = none) :
        Effect s (judgeProvisional c r s).state
  | foreign {x : CtxId} {c : Context} {H : SecId} {r : Item} (walk : s.ctx x = some c)
      (found : s.item? r.tag = some r) (home : r.home = some H) (other : H ≠ c.sec) :
      Effect s (judgeForeign c H r s).state
  | fresh {x : CtxId} {c : Context} {r : Item} (walk : s.ctx x = some c)
      (found : s.item? r.tag = some r) (home : r.home = some c.sec)
      (new : ¬ (r.count = .inPlace ∨ r.count = .disordered ∨ r.count = .held)) :
      Effect s (judgeFresh x c r s).state

/-- An effect, or the close of a revision, which drains a walk in many effects (R16, R95). -/
inductive Change (s : State) : State → Prop where
  | effect {u : State} (h : Effect s u) : Change s u
  | closeRevision {S : SecId} (isOpen : (s.sec S).revision.isSome) : Change s (s.closeRevision S).1

/-- From `s` the part comes to `u` by effects one after another. -/
abbrev Effects : State → State → Prop := Relation.ReflTransGen Effect

/-- From `s` the part comes to `u` by effects and closes of revisions one after another. -/
abbrev Reaches : State → State → Prop := Relation.ReflTransGen Change

theorem Effect.effects {s u : State} (h : Effect s u) : Effects s u := .single h

theorem AlikeAll.effects {s u : State} (h : AlikeAll s u) : Effects s u := .single (.alike h)

theorem Effects.reaches {s u : State} (h : Effects s u) : Reaches s u :=
  Relation.ReflTransGen.mono (fun _ _ => Change.effect) _ _ h

theorem Effect.reaches {s u : State} (h : Effect s u) : Reaches s u := h.effects.reaches

theorem AlikeAll.reaches {s u : State} (h : AlikeAll s u) : Reaches s u := h.effects.reaches

/-- What every effect keeps is kept by all of them one after another. -/
theorem Effects.keeps {P : State → Prop} (kept : ∀ s u, Effect s u → P s → P u) {s u : State}
    (h : Effects s u) (start : P s) : P u := by
  induction h with
  | refl => exact start
  | tail _ effect ih => exact kept _ _ effect ih

/-- What every effect and every close of a revision keeps is kept by all of them one after another.
-/
theorem Reaches.keeps {P : State → Prop} (kept : ∀ s u, Effect s u → P s → P u)
    (closing : ∀ (s : State) S, (s.sec S).revision.isSome → P s → P (s.closeRevision S).1)
    {s u : State} (h : Reaches s u) (start : P s) : P u := by
  induction h with
  | refl => exact start
  | tail _ change ih =>
    cases change with
    | effect effect => exact kept _ _ effect ih
    | closeRevision isOpen => exact closing _ _ isOpen ih

/-! ### The effects of a judgement -/

theorem judgeWalk_effects {s : State} {x : CtxId} {c : Context}
    (walk : s.ctx x = some c) (t : Tag) :
    Effects s (judgeWalk x c t s).state := by
  unfold judgeWalk
  split
  · exact (Effect.complete walk).effects
  · split
    next new => exact (Effect.unknown walk new).effects
    next r found =>
      obtain rfl := s.item_tag found
      split
      next home => exact (Effect.provisional walk found home).effects
      next H home =>
        split
        next other => exact (Effect.foreign walk found home other).effects
        next same =>
          rw [not_not] at same
          subst same
          split
          next => exact (s.sightAgain_alike c c.sec r).effects
          next new => exact (Effect.fresh walk found home new).effects

theorem judge_effects (s : State) (x : CtxId) (t : Tag) : Effects s (judge x t s).state := by
  unfold judge
  split
  next walk => exact judgeWalk_effects walk t
  next => exact .refl

/-! ### The effects of reads (R28 to R38) -/

/-- A change of one table, as an effect. -/
theorem TableStep.effect {s : State} {w : Wand} {T : CandTable}
    (h : TableStep s.settings (s.table w) T) : Effect s (s.setTable w T) := by
  refine .tables ⟨rfl, fun _ => rfl, fun _ => rfl, rfl, rfl⟩ rfl fun v => ?_
  rw [State.table_setTable]
  split
  · subst_vars; exact .inr h
  · exact .inl rfl

theorem State.deliver_effects (s : State) (w : Wand) (i : Fin 24) (t : Tag) :
    Effects s (s.deliver w i t).state := by
  unfold State.deliver
  split
  next => exact .refl
  next x _ =>
    split
    next => exact .refl
    next c walk =>
      split
      next => exact judgeWalk_effects walk t
      next isOpen =>
        split
        next room =>
          have isSome : (s.sec c.sec).revision.isSome = true := by
            simpa [Option.isSome_iff_ne_none] using isOpen
          exact (Effect.park t walk isSome room).effects
        next => exact (TableStep.defer i).effect.effects

theorem State.confirmEntry_effects {s : State} {w : Wand} {i : Fin 24} {t : Tag} {score a : Nat}
    (gathers : (s.table w).entries[i] = .gathering t score a) :
    Effects s (s.confirmEntry w i t a).state :=
  .trans ((TableStep.confirm gathers).effect.effects) <|
    .trans (State.matchWatch_alike _ w t).effects (State.deliver_effects _ w i t)

theorem readHeld_effects (s : State) (w : Wand) (i : Fin 24) {weight : Nat}
    (positive : 0 < weight) :
    Effects s (readHeld w i weight s).state := by
  unfold readHeld
  simp only
  split
  next gathers =>
    split
    · exact State.confirmEntry_effects gathers
    · exact (TableStep.gather gathers positive).effect.effects
  next confirmed => exact (TableStep.refresh confirmed).effect.effects
  next => exact .refl
  next => exact .refl

theorem readNew_effects (s : State) (w : Wand) {t : Tag} {weight : Nat} (positive : 0 < weight)
    (byte : weight ≤ 255) (absent : (s.table w).position? t = none) :
    Effects s (readNew w t weight s).state := by
  unfold readNew
  simp only
  split
  next => exact (s.raise_alike _).effects
  next i _ =>
    have allocated := (TableStep.allocate (k := s.settings)
      (i := i) absent positive byte).effect.effects
    split
    · refine .trans allocated (State.confirmEntry_effects (score := weight) ?_)
      rw [State.table_setTable, if_pos rfl]
      simp [CandTable.allocate]
    · exact allocated

theorem readOne_effects (s : State) (w : Wand) (r : TagRead) : Effects s (readOne w r s).state := by
  unfold readOne
  simp only
  split
  next => exact .refl
  next weighs =>
    have positive := Nat.pos_of_ne_zero weighs
    split
    next i _ => exact readHeld_effects s w i positive
    next absent =>
      refine readNew_effects s w positive ?_ absent
      have := r.strength.isLt
      unfold Settings.weight
      omega

theorem readAll_effects (w : Wand) (reads : List TagRead) :
    ∀ s : State, Effects s (readAll w reads s).state := by
  induction reads with
  | nil => exact fun _ => .refl
  | cons r rest ih => exact fun s => .trans (readOne_effects s w r) (ih _)

/-! ### The effects of requests -/

/-- A section that is neither EMPTY nor walked is READY or TALLIED (R46). -/
theorem SecState.still_of {st : SecState} (empty : st ≠ .empty)
    (walked : ¬ (st = .walking ∨ st = .suspended)) : st = .ready ∨ st = .tallied := by
  cases st <;> simp_all

/-- A notice moves a finding that is open to it, or leaves it (R121 to R123). -/
theorem State.noticeCount_cases (s : State) (r : Item) :
    s.noticeCount r = r.count ∨ r.openToNotice = true ∧ s.noticeCount r = .desk := by
  unfold State.noticeCount State.noticeMoves
  split
  next moves => exact .inr ⟨(Bool.and_eq_true_iff.mp moves).2, rfl⟩
  next => exact .inl rfl

theorem State.lend_reaches {s : State} {H : SecId} {r : Item} (found : s.item? r.tag = some r)
    (home : r.home = some H) : Reaches s (s.lend H r) := by
  have moved := Effect.notice .loan found home (s.noticeCount_cases r)
    (f := fun q => { q with circ := some .loan, count := s.noticeCount r }) fun _ => rfl
  refine .trans moved.reaches (AlikeAll.reaches ?_)
  unfold State.lend
  exact .ite (State.bump_alike _ H) (.refl _)

theorem State.takeBack_reaches {s : State} {H : SecId} {r : Item} (found : s.item? r.tag = some r)
    (home : r.home = some H) : Reaches s (s.takeBack H r) := by
  have moved := Effect.notice .shelf found home (s.noticeCount_cases r) (f := fun q =>
    { q with
      circ := some .shelf
      count := s.noticeCount r
      conflict := r.conflict && !s.noticeSettles r }) fun _ => rfl
  refine .trans moved.reaches (AlikeAll.reaches ?_)
  unfold State.takeBack
  exact .ite (State.bump_alike _ H) (.refl _)

theorem State.clearFlags_alike (s : State) (r : Item) : AlikeAll s (s.clearFlags r) := by
  have cleared := s.modItem_alike r.tag (fun q => { q with moved := false, conflict := false })
    fun _ => rfl
  unfold State.clearFlags
  split
  · exact .ite (cleared.trans (State.bump_alike _ _)) cleared
  · exact cleared

theorem onWatch_reaches {x : Nat} {body : WatchId → WatchEntry → State → Reply} {s : State}
    (h : ∀ i e, Reaches s (body i e s).state) : Reaches s (onWatch x body s).state := by
  unfold onWatch
  split
  · exact .refl
  · exact h _ _

theorem onKinds_reaches (k : BitVec 16) (former : EventUnit → KindSet)
    (write : KindSet → EventUnit → EventUnit) (s : State) :
    Reaches s (onKinds k former write s).state := by
  unfold onKinds
  split
  · exact .refl
  · exact AlikeAll.reaches .of_eq

theorem secSetBody_reaches (S tol lamp : Nat) (mark : Option Nat) (endMarker : Option Tag)
    (s : State) :
    Reaches s (secSetBody S tol lamp mark endMarker s).state := by
  unfold secSetBody
  split
  next => exact .refl
  next T _ =>
    simp only
    split
    next => exact .refl
    next =>
      have written := s.modSec_alike T (fun old => { old with
        tolerance := min tol 15
        lamp := lampOf lamp
        mark := mark.map fun m => min m (s.length T)
        endMarker := endMarker
        generation := old.generation + 1 }) rfl
      refine written.trans ?_ |>.reaches
      rw [State.doneClamped_state]
      split
      · exact .ite (.refl _) (State.modCtx_alike _ _ _ fun _ => rfl)
      · exact .refl _

theorem walkAbandonBody_reaches (S : Nat) (s : State) : Reaches s (walkAbandonBody S s).state := by
  unfold walkAbandonBody
  split
  next => exact .refl
  next T _ =>
    split
    next =>
      split
      next => exact .refl
      next x names =>
        split
        next => exact .refl
        next c walk => exact (Effect.abandon walk names).reaches
    next => exact .refl

theorem revOpenBody_reaches (S : Nat) (s : State) : Reaches s (revOpenBody S s).state := by
  unfold revOpenBody
  split
  next => exact .refl
  next T _ =>
    split
    · exact .refl
    · exact (Effect.openRevision T).reaches

/-- A revision that is not closed is open. -/
theorem isSome_of_not_isNone {α : Type} {o : Option α} (h : ¬ o.isNone = true) :
    o.isSome = true := by
  cases o <;> simp_all

theorem revInsertBody_reaches (S k : Nat) (t : Tag) (circ : Byte) (s : State) :
    Reaches s (revInsertBody S k t circ s).state := by
  unfold revInsertBody
  split
  next => exact .refl
  next T _ =>
    split
    next => exact .refl
    next c _ =>
      simp only
      split
      next => exact .refl
      next isOpen =>
        split
        next => exact .refl
        next new =>
          split
          next => exact .refl
          next =>
            split
            next => exact .refl
            next room =>
              exact (Effect.insert c (isSome_of_not_isNone isOpen) (by simpa using new)
                (Nat.lt_of_not_le room) (Nat.min_le_right k _)).reaches

theorem revRetireBody_reaches (t : Tag) (s : State) : Reaches s (revRetireBody t s).state := by
  unfold revRetireBody
  split
  next => exact .refl
  next r found =>
    obtain rfl := s.item_tag found
    split
    next => exact .refl
    next H home =>
      split
      next => exact .refl
      next isOpen => exact (Effect.retire found home (isSome_of_not_isNone isOpen)).reaches

theorem revAdoptBody_reaches (t : Tag) (S k : Nat) (s : State) :
    Reaches s (revAdoptBody t S k s).state := by
  unfold revAdoptBody
  split
  next => exact .refl
  next T _ =>
    split
    next => exact .refl
    next r found =>
      obtain rfl := s.item_tag found
      simp only
      split
      next => exact .refl
      next home =>
        split
        next => exact .refl
        next isOpen =>
          split
          next => exact .refl
          next =>
            exact (Effect.adopt found (by simpa using home) (isSome_of_not_isNone isOpen)
              (Nat.min_le_right k _)).reaches

theorem revCloseBody_reaches (S : Nat) (s : State) : Reaches s (revCloseBody S s).state := by
  unfold revCloseBody
  split
  next => exact .refl
  next T _ =>
    split
    next => exact .refl
    next isOpen => exact .single (.closeRevision (isSome_of_not_isNone isOpen))

theorem secUnloadBody_reaches (S : Nat) (s : State) : Reaches s (secUnloadBody S s).state := by
  unfold secUnloadBody
  split
  next => exact .refl
  next T _ =>
    split
    next => exact .refl
    next empty =>
      split
      next => exact .refl
      next walked =>
        split
        next => exact .refl
        next closed =>
          exact (Effect.unload (SecState.still_of empty walked) (by simpa using closed)).reaches

theorem secResetBody_reaches (S : Nat) (s : State) : Reaches s (secResetBody S s).state := by
  unfold secResetBody
  split
  next => exact .refl
  next T _ =>
    split
    next => exact .refl
    next empty =>
      split
      next => exact .refl
      next walked => exact (Effect.recount (SecState.still_of empty walked)).reaches

theorem itemDropBody_reaches (t : Tag) (s : State) : Reaches s (itemDropBody t s).state := by
  unfold itemDropBody
  split
  next => exact .refl
  next r found =>
    obtain rfl := s.item_tag found
    split
    next => exact .refl
    next home => exact (Effect.dropRecord found (by simpa using home)).reaches

theorem circOutBody_reaches (t : Tag) (s : State) : Reaches s (circOutBody t s).state := by
  unfold circOutBody
  split
  next => exact .refl
  next r found =>
    obtain rfl := s.item_tag found
    split
    next => exact .refl
    next H home => exact State.lend_reaches found home

theorem circInBody_reaches (t : Tag) (s : State) : Reaches s (circInBody t s).state := by
  unfold circInBody
  split
  next => exact .refl
  next r found =>
    obtain rfl := s.item_tag found
    split
    next => exact .refl
    next H home => exact State.takeBack_reaches found home

theorem campCloseBody_reaches (s : State) : Reaches s (campCloseBody s).state := by
  unfold campCloseBody
  split
  next before =>
    split
    next => exact .refl
    next closed =>
      have none_open : s.findSec (fun x => x.revision.isSome) = none := by simpa using closed
      refine (Effect.close before fun S => ?_).reaches
      simpa using s.findSec_eq_none.mp none_open S
  next => exact .refl

theorem attAckBody_reaches (S : Nat) (s : State) : Reaches s (attAckBody S s).state := by
  unfold attAckBody
  split
  · exact .refl
  · exact (s.modSec_alike _ (fun r => { r with attention := false }) rfl).reaches

theorem secListBody_reaches (S : Nat) (list : Byte) (start : Nat) (s : State) :
    Reaches s (secListBody S list start s).state := by
  unfold secListBody
  split
  · exact .refl
  · split
    · exact .refl
    · split <;> exact .refl

theorem itemClearBody_reaches (t : Tag) (s : State) : Reaches s (itemClearBody t s).state := by
  unfold itemClearBody
  split
  · exact .refl
  · exact (s.clearFlags_alike _).reaches

theorem campStartBody_reaches (s : State) : Reaches s (campStartBody s).state := by
  unfold campStartBody
  split
  next before => exact (Effect.start before).reaches
  next => exact .refl

theorem campPauseBody_reaches (s : State) : Reaches s (campPauseBody s).state := by
  unfold campPauseBody
  split
  next before => exact (Effect.toggle (.inl before) (.inr rfl)).reaches
  next => exact .refl

theorem campResumeBody_reaches (s : State) : Reaches s (campResumeBody s).state := by
  unfold campResumeBody
  split
  next before => exact (Effect.toggle (.inr before) (.inl rfl)).reaches
  next => exact .refl

theorem lampForceBody_reaches (m : Nat) (pattern : Byte) (s : State) :
    Reaches s (lampForceBody m pattern s).state := by
  unfold lampForceBody
  split
  · exact AlikeAll.reaches .of_eq
  · exact .refl

theorem setWriteBody_reaches (key v : Nat) (s : State) :
    Reaches s (setWriteBody key v s).state := by
  unfold setWriteBody
  split
  next named => exact (Effect.setting v named).reaches
  next => exact .refl

theorem itemReadBody_reaches (t : Tag) (s : State) : Reaches s (itemReadBody t s).state := by
  unfold itemReadBody
  split <;> exact .refl

theorem walkReadBody_reaches (x : Nat) (s : State) : Reaches s (walkReadBody x s).state := by
  unfold walkReadBody
  split
  · exact .refl
  · split <;> exact .refl

theorem secReadBody_reaches (S : Nat) (s : State) : Reaches s (secReadBody S s).state := by
  unfold secReadBody
  split <;> exact .refl

theorem wandReadBody_reaches (w : Nat) (s : State) : Reaches s (wandReadBody w s).state := by
  unfold wandReadBody
  split <;> exact .refl

/-- What a request does to the state comes from effects (11.3). -/
theorem requestBody_reaches (i : Instr) (s : State) : Reaches s (requestBody i s).state := by
  cases i with
  | revOpen S => exact revOpenBody_reaches S s
  | revInsert S k t circ => exact revInsertBody_reaches S k t circ s
  | revRetire t => exact revRetireBody_reaches t s
  | revAdopt t S k => exact revAdoptBody_reaches t S k s
  | revClose S => exact revCloseBody_reaches S s
  | secUnload S => exact secUnloadBody_reaches S s
  | itemDrop t => exact itemDropBody_reaches t s
  | itemRead t => exact itemReadBody_reaches t s
  | secSet S tol lamp mark endMarker => exact secSetBody_reaches S tol lamp mark endMarker s
  | walkAbandon S => exact walkAbandonBody_reaches S s
  | walkRead x => exact walkReadBody_reaches x s
  | attAck S => exact attAckBody_reaches S s
  | secRead S => exact secReadBody_reaches S s
  | secList S list start => exact secListBody_reaches S list start s
  | secReset S => exact secResetBody_reaches S s
  | circOut t => exact circOutBody_reaches t s
  | circIn t => exact circInBody_reaches t s
  | itemClear t => exact itemClearBody_reaches t s
  | campStart => exact campStartBody_reaches s
  | campPause => exact campPauseBody_reaches s
  | campResume => exact campResumeBody_reaches s
  | campClose => exact campCloseBody_reaches s
  | watchSet x value mask cls oneShot => exact onWatch_reaches fun _ _ => AlikeAll.reaches .of_eq
  | watchClear x => exact onWatch_reaches fun _ _ => AlikeAll.reaches .of_eq
  | watchRead x => exact onWatch_reaches fun _ _ => .refl
  | watchAck x => exact onWatch_reaches fun _ _ => AlikeAll.reaches .of_eq
  | lampForce m pattern => exact lampForceBody_reaches m pattern s
  | wandRead w => exact wandReadBody_reaches w s
  | evtClear k => exact onKinds_reaches k _ _ s
  | evtForce k => exact onKinds_reaches k _ _ s
  | evtEnable k => exact onKinds_reaches k _ _ s
  | evtRoute k => exact onKinds_reaches k _ _ s
  | setWrite key v => exact setWriteBody_reaches key v s
  | _ => exact .refl

/-! ### The effects of frames -/

theorem State.freeTable_effect (s : State) (w : Wand) : Effect s (s.freeTable w) :=
  TableStep.free.effect

theorem helloBody_reaches (w : Wand) (s : State) : Reaches s (helloBody w s).state := by
  have freed := (s.freeTable_effect w).reaches
  unfold helloBody
  simp only
  split
  next x walks =>
    obtain ⟨c, walk, walker⟩ := s.walkOf_eq_some walks
    simp only [walk]
    exact .tail freed (.effect (Effect.suspend (s := s.freeTable w) walk walker (.refl _)))
  next =>
    split
    · exact .tail freed (.effect (.unclaim w))
    · exact freed

theorem claimSec_reaches {w : Wand} {S : SecId} {s : State} (running : s.campaign = .running)
    (idle : s.walkOf w = none) : Reaches s (claimSec w S s).state := by
  unfold claimSec
  cases state : (s.sec S).state with
  | empty => exact .refl
  | walking => exact (Effect.enqueue running idle state).reaches
  | suspended =>
    simp only
    split
    next walk => exact (Effect.resumeWalk running idle state walk).reaches
    next => exact .refl
  | ready =>
    simp only
    split
    next free => exact (Effect.startWalk running idle (.inl state) free).reaches
    next => exact .refl
  | tallied =>
    simp only
    split
    next free => exact (Effect.startWalk running idle (.inr state) free).reaches
    next => exact .refl

/-- A wand that walks no section stands in no context. -/
theorem State.walkOf_of_walkedSec {s : State} {w : Wand} (h : s.walkedSec w = none) :
    s.walkOf w = none := by
  cases walks : s.walkOf w with
  | none => rfl
  | some x =>
    obtain ⟨c, walk, -⟩ := s.walkOf_eq_some walks
    simp [State.walkedSec, walks, walk] at h

theorem claimBody_reaches (w : Wand) (S : Nat) (s : State) : Reaches s (claimBody w S s).state := by
  unfold claimBody
  split
  next running =>
    split
    next => exact .refl
    next idle =>
      split
      next => exact claimSec_reaches running (State.walkOf_of_walkedSec idle)
      next => exact .refl
  next => exact .refl

theorem walkendCompleteBody_reaches (w : Wand) (s : State) :
    Reaches s (walkendCompleteBody w s).state := by
  unfold walkendCompleteBody
  split
  next => exact .refl
  next x _ =>
    split
    next => exact .refl
    next c walk =>
      split
      · exact .refl
      · exact (Effect.complete walk).reaches

theorem walkendBreakBody_reaches (w : Wand) (s : State) :
    Reaches s (walkendBreakBody w s).state := by
  unfold walkendBreakBody
  split
  next => exact .refl
  next x walks =>
    obtain ⟨c, walk, walker⟩ := s.walkOf_eq_some walks
    simp only [walk]
    exact (Effect.suspend walk walker (.refl _)).reaches

theorem shelvedBody_reaches (t : Tag) (s : State) : Reaches s (shelvedBody t s).state := by
  unfold shelvedBody
  split
  next => exact .refl
  next =>
    split
    next => exact .refl
    next r found =>
      obtain rfl := s.item_tag found
      split
      next => exact .refl
      next H home =>
        split
        next => exact .refl
        next free => exact (Effect.shelve found home free).reaches

theorem unlessPaused_reaches {body : State → Answer} {s : State} (h : Reaches s (body s).state) :
    Reaches s (unlessPaused body s).state := by
  unfold unlessPaused
  split
  · exact .refl
  · exact h

theorem sightBody_reaches (w : Wand) (reads : List TagRead) (s : State) :
    Reaches s (sightBody w reads s).state := by
  unfold sightBody
  split
  · exact .refl
  · exact (readAll_effects w reads s).reaches

theorem whereBody_state (t : Tag) (s : State) : (whereBody t s).state = s := by
  unfold whereBody
  split
  · rfl
  · split <;> rfl

theorem keepBody_state (w : Wand) (s : State) : (keepBody w s).state = s := by
  unfold keepBody
  split
  · rfl
  · split <;> rfl

/-- What a taken frame does to the state comes from effects (10.5). -/
theorem frameBody_reaches (i : Instr) (s : State) : Reaches s (frameBody i s).state := by
  cases i with
  | hello w => exact helloBody_reaches w s
  | sight w reads => exact unlessPaused_reaches (sightBody_reaches w reads s)
  | claim w S => exact unlessPaused_reaches (claimBody_reaches w S s)
  | walkendComplete w => exact unlessPaused_reaches (walkendCompleteBody_reaches w s)
  | walkendBreak w => exact unlessPaused_reaches (walkendBreakBody_reaches w s)
  | walkendOtherMode w mode => exact unlessPaused_reaches .refl
  | whereIs w t =>
    show Reaches s (whereBody t s).state
    rw [whereBody_state]
  | shelved w t => exact unlessPaused_reaches (shelvedBody_reaches t s)
  | keep w =>
    refine unlessPaused_reaches ?_
    rw [keepBody_state]
  | _ => exact .refl

/-! ### The effects of commands and steps -/

theorem carryOut_reaches {i : Instr} {code : Byte} {body : State → Reply} {s : State}
    (h : Reaches s (body s).state) : Reaches s (carryOut i code body s) := by
  have held : ∀ lost, Reaches s ((body s).hold code lost) := fun _ =>
    .tail h (.effect (.alike .of_eq))
  unfold carryOut
  split
  · exact .refl
  · split
    · split
      · exact held _
      · exact AlikeAll.reaches .of_eq
    · exact held _
    · exact held _

theorem takeFrame_reaches {i : Instr} {w : Wand} {kind : Byte} {body : State → Answer} {s : State}
    (h : ∀ t, Reaches t (body t).state) : Reaches s (takeFrame i w kind body s) := by
  unfold takeFrame
  split
  · exact .refl
  · split
    · exact .refl
    next head rest _ =>
      split
      · have written : Reaches s
            { s with rxQueue := rest, lastFrame := s.lastFrame.set w (some s.clock) } :=
          AlikeAll.reaches .of_eq
        have loaded : Reaches s (({ s with rxQueue := rest } : State).frameTaken w) :=
          .tail written (.effect (.lease w))
        have begun : Reaches s
            { ({ s with rxQueue := rest } : State).frameTaken w with sendQueue := [] } :=
          .tail loaded (.effect (.alike .of_eq))
        exact .tail (.trans begun (h _)) (.effect (.alike .of_eq))
      · exact AlikeAll.reaches .of_eq

theorem unlessReset_reaches {body : State → State} {s : State} (h : Reaches s (body s)) :
    Reaches s (unlessReset body s) := by
  unfold unlessReset
  split
  · exact .refl
  · exact h

theorem atEnd_reaches {ended : Bool} {effect : State → State} {s : State}
    (h : ended = true → Reaches s (effect s)) : Reaches s (atEnd ended effect s) := by
  unfold atEnd
  split
  next ended => exact h ended
  next => exact .refl

theorem expireLease_reaches (x : CtxId) (s : State) : Reaches s (expireLease x s) := by
  unfold expireLease
  split
  next => exact .refl
  next c walk =>
    split
    next => exact .refl
    next w walker => exact (Effect.suspend walk walker .of_eq).reaches

theorem decayAll_effect (s : State) : Effect s (decayAll s) := by
  refine .tables ⟨rfl, fun _ => rfl, fun _ => rfl, rfl, rfl⟩ rfl fun w => .inr ?_
  have decayed : (decayAll s).table w = (s.table w).decay := by
    show (tabulate 16 fun v => (s.table v).decay)[(w : Nat)] = _
    rw [getElem_tabulate]
  rw [decayed]
  exact .decay

theorem State.checkedIn_alike (s : State) (f : RawFrame) : AlikeAll s (s.checkedIn f) := by
  unfold State.checkedIn
  split
  · exact .refl s
  · exact .ite .of_eq (.refl s)

theorem receiveFrame_alike (f : RawFrame) (s : State) : AlikeAll s (receiveFrame f s) := by
  unfold receiveFrame
  split
  · exact .refl s
  next rest _ =>
    have handed : AlikeAll s { s with gathered := rest } := .of_eq
    exact .ite (handed.trans (State.checkedIn_alike _ f)) .of_eq

theorem receiveByte_alike (b : Byte) (s : State) : AlikeAll s (receiveByte b s) := by
  unfold receiveByte huntByte gatherByte
  split
  · exact .of_eq
  · split
    · exact .of_eq
    · split <;> exact .of_eq

theorem writePacket_alike (packet : List Byte) (s : State) : AlikeAll s (writePacket packet s) := by
  unfold writePacket
  simp only
  split <;> exact .of_eq

theorem sendFrame_alike (s : State) : AlikeAll s (sendFrame s) := by
  unfold sendFrame
  split
  · exact .refl s
  · exact .of_eq

/-- What any command does comes from effects. -/
theorem exec_reaches {c : Instr} {s t : State} (h : exec c s = .next t) : Reaches s t := by
  by_cases request : ∃ code args, requestPacket c = some (code, args)
  · obtain ⟨code, args, packet⟩ := request
    rw [exec_request packet] at h
    cases h
    exact carryOut_reaches (requestBody_reaches c s)
  by_cases frame : ∃ w kind payload, wandFrame c = some (w, kind, payload)
  · obtain ⟨w, kind, payload, frame⟩ := frame
    rw [exec_frame frame] at h
    cases h
    exact takeFrame_reaches (frameBody_reaches c)
  cases c with
  | writeTransfer packet => cases h; exact unlessReset_reaches (writePacket_alike packet s).reaches
  | readTransfer clocked => cases h; exact unlessReset_reaches (AlikeAll.reaches .of_eq)
  | ignoredTransfer why => cases h; exact unlessReset_reaches (AlikeAll.reaches .of_eq)
  | frameReceived f => cases h; exact unlessReset_reaches (receiveFrame_alike f s).reaches
  | framingError => cases h; exact unlessReset_reaches (AlikeAll.reaches .of_eq)
  | receiverGap =>
    cases h; exact unlessReset_reaches (atEnd_reaches fun _ => AlikeAll.reaches .of_eq)
  | frameSent => cases h; exact unlessReset_reaches (sendFrame_alike s).reaches
  | decayTick =>
    cases h; exact unlessReset_reaches (atEnd_reaches fun _ => (decayAll_effect s).reaches)
  | leaseExpiry x =>
    cases h; exact unlessReset_reaches (atEnd_reaches fun _ => expireLease_reaches x s)
  | revisionExpiry S =>
    cases h
    refine unlessReset_reaches (atEnd_reaches fun ended => ?_)
    obtain ⟨-, zero⟩ := (s.revisionOver_iff S).mp ended
    exact .trans (.single (.closeRevision (by rw [zero]; rfl))) (State.raise_alike _ _).reaches
  | campaignClockSecond =>
    cases h; exact unlessReset_reaches (atEnd_reaches fun _ => AlikeAll.reaches .of_eq)
  | lampPhaseWrap =>
    cases h; exact unlessReset_reaches (atEnd_reaches fun _ => AlikeAll.reaches .of_eq)
  | deviceReset cause => cases h; exact (Effect.reset .of_eq).reaches
  | byteReceived b => cases h; exact unlessReset_reaches (receiveByte_alike b s).reaches
  | resetRelease => cases h; exact AlikeAll.reaches .of_eq
  | _ => first | exact absurd ⟨_, _, rfl⟩ request | exact absurd ⟨_, _, _, rfl⟩ frame

/-- A step runs the front command, or, on an empty queue, what is due, or lets a millisecond pass.
-/
theorem step_cases {s t : State} (h : step s = .next t) :
    (∃ c rest, exec c { s with pending := rest } = .next t) ∨ t = s ∨
      (∃ code lost, t = s.refusePacket code lost) ∨ t = s.tick := by
  unfold step at h
  split at h
  next c rest _ => exact .inl ⟨c, rest, h⟩
  next empty =>
    unfold idle at h
    split at h
    · cases h; exact .inr (.inl rfl)
    split at h
    next c _ => exact .inl ⟨c, s.pending, h⟩
    next code lost _ => cases h; exact .inr (.inr (.inl ⟨code, lost, rfl⟩))
    next => cases h; exact .inr (.inr (.inr rfl))

/-- What a step does comes from effects. -/
theorem step_reaches {s t : State} (h : step s = .next t) : Reaches s t := by
  rcases step_cases h with ⟨c, rest, ran⟩ | rfl | ⟨code, lost, rfl⟩ | rfl
  · have queued : AlikeAll s { s with pending := rest } := .of_eq
    exact .trans queued.reaches (exec_reaches ran)
  · exact .refl
  · exact AlikeAll.reaches .of_eq
  · exact s.tick_alike.reaches

end Sys2Proof.Machine

/-! # Proofs: what every step keeps of the item table, the receive queue and the candidate tables -/

namespace Sys2Proof.Machine

/-! ### The close of a revision, effect by effect (R16, R95) -/

/-- The close of a revision before its drain: the flag cleared, EMPTY to READY, the bumps (R16). -/
def State.shut (s : State) (S : SecId) : State :=
  let t := (s.modSec S fun r => { r with revision := none }).bump S
  if (s.sec S).state = .empty then t.enter S .ready else t

/-- The walk with another park queue, as an entry is taken from it (R95, step 1). -/
def State.withPark (s : State) (x : CtxId) (rest : List Tag) : State :=
  s.modCtx x fun c => { c with park := rest }

section Drain
variable {P : State → Prop} (kept : ∀ s u, Effect s u → P s → P u)
  (parks : ∀ s x rest, P s → P (s.withPark x rest))
include kept

theorem judge_keeps {s : State} (x : CtxId) (t : Tag) (h : P s) : P (judge x t s).state :=
  (judge_effects s x t).keeps kept h

theorem drainWaiting_keeps (x : CtxId) (w : Wand) (order : List (Fin 24)) :
    ∀ {s : State}, P s → P (drainWaiting x w order s) := by
  induction order with
  | nil => exact id
  | cons i rest ih =>
    intro s h
    unfold drainWaiting
    simp only
    split
    next tag _ _ waits =>
      have judged := judge_keeps kept x tag (kept _ _ (TableStep.release waits).effect h)
      split
      · exact judged
      · exact ih judged
    next => exact ih h

include parks

theorem drainPark_keeps (x : CtxId) (tags : List Tag) :
    ∀ {s : State}, P s → P (drainPark x tags s).state := by
  induction tags with
  | nil => exact id
  | cons t rest ih =>
    intro s h
    have judged : P (judge x t (s.withPark x rest)).state :=
      judge_keeps kept x t (parks _ _ _ h)
    unfold drainPark
    simp only
    split
    · exact judged
    · exact ih judged

theorem State.drain_keeps (x : CtxId) (c : Context) {s : State} (h : P s) : P (s.drain x c).1 := by
  have parked := drainPark_keeps kept parks x c.park h
  unfold State.drain
  simp only
  split
  · split
    · exact drainWaiting_keeps kept x _ _ parked
    · exact parked
  · exact parked

/-- What every effect keeps, and the clearing of the flag and the taking of a park entry too, the
close of a revision keeps. -/
theorem State.closeRevision_keeps {s : State} {S : SecId} (shut : P (s.shut S)) :
    P (s.closeRevision S).1 := by
  have closed : (s.closeRevision S).1 =
      match (s.sec S).context.bind s.ctx, (s.sec S).context with
      | some c, some x => ((s.shut S).drain x c).1
      | _, _ => s.shut S := by
    unfold State.closeRevision State.shut
    simp only
    cases (s.sec S).context with
    | none => rfl
    | some x =>
      simp only [Option.bind_some]
      cases s.ctx x <;> rfl
  rw [closed]
  split
  · exact State.drain_keeps kept parks _ _ shut
  · exact shut

end Drain

/-! ### The item table (R1) -/

/-- The tags of the item table, in its order. -/
def State.tags (s : State) : List Tag := s.items.map Item.tag

/-- A canonical item table is one whose tags rise and are at most 131,072. -/
theorem itemsCanonical_iff {items : List Item} :
    ItemsCanonical items ↔ (items.map Item.tag).Pairwise (fun t u => t.toNat < u.toNat) ∧
      (items.map Item.tag).length ≤ 131072 := by
  rw [ItemsCanonical, List.pairwise_map, List.length_map]

/-- An item table whose tags are among those of a canonical one, in their order, is canonical. -/
theorem ItemsCanonical.of_sublist {s u : State} (h : ItemsCanonical s.items)
    (tags : u.tags.Sublist s.tags) : ItemsCanonical u.items := by
  rw [itemsCanonical_iff] at h ⊢
  exact ⟨h.1.sublist tags, tags.length_le.trans h.2⟩

theorem ItemsCanonical.of_tags {s u : State} (h : ItemsCanonical s.items) (tags : u.tags = s.tags) :
    ItemsCanonical u.items := h.of_sublist (tags ▸ List.Sublist.refl _)

theorem State.tags_of_items {s u : State} (h : u.items = s.items) : u.tags = s.tags :=
  congrArg (List.map Item.tag) h

theorem Alike.tags {s u : State} (h : Alike s u) : u.tags = s.tags := by
  have tags := congrArg (List.map Item.tag) h.items
  rwa [List.map_map, List.map_map] at tags

section Tags
variable (s : State)

@[simp] theorem State.tags_modItems (p : Item → Bool) (f : Item → Item)
    (hf : ∀ r, (f r).tag = r.tag) : (s.modItems p f).tags = s.tags := by
  unfold State.tags
  rw [State.modItems_items, List.map_map]
  refine List.map_congr_left fun r _ => ?_
  rw [Function.comp]
  split
  · exact hf r
  · rfl

@[simp] theorem State.tags_modItem (t : Tag) (f : Item → Item) (hf : ∀ r, (f r).tag = r.tag) :
    (s.modItem t f).tags = s.tags := s.tags_modItems _ f hf

@[simp] theorem State.tags_modSec (S : SecId) (f : SectionRec → SectionRec) :
    (s.modSec S f).tags = s.tags := rfl
@[simp] theorem State.tags_mapSecs (f : SecId → SectionRec → SectionRec) :
    (s.mapSecs f).tags = s.tags := State.tags_of_items (s.mapSecs_items f)
@[simp] theorem State.tags_bump (S : SecId) : (s.bump S).tags = s.tags := rfl
@[simp] theorem State.tags_bumpWhere (p : SecId → Bool) : (s.bumpWhere p).tags = s.tags :=
  State.tags_of_items (s.bumpWhere_items p)
@[simp] theorem State.tags_joinChain (S : SecId) (t : Tag) : (s.joinChain S t).tags = s.tags := rfl
@[simp] theorem State.tags_leaveChain (S : SecId) (t : Tag) :
    (s.leaveChain S t).tags = s.tags := rfl
@[simp] theorem State.tags_modCtx (x : CtxId) (f : Context → Context) :
    (s.modCtx x f).tags = s.tags := rfl
@[simp] theorem State.tags_raise (k : EventKind) : (s.raise k).tags = s.tags := rfl
@[simp] theorem State.tags_attend (S : SecId) : (s.attend S).tags = s.tags :=
  State.tags_of_items (s.attend_items S)
@[simp] theorem State.tags_markConflict (r : Item) (S : SecId) :
    (s.markConflict r S).tags = s.tags :=
  (s.markConflict_alike r S).tags

@[simp] theorem State.leaveChainOf_items (F : Option SecId) (t : Tag) :
    (s.leaveChainOf F t).items = s.items := by
  cases F <;> rfl

@[simp] theorem State.leavePlace_items (r : Item) : (s.leavePlace r).items = s.items := by
  unfold State.leavePlace
  split
  · exact s.leaveChainOf_items _ _
  · split
    · split <;> rfl
    · rfl

@[simp] theorem State.tags_leavePlace (r : Item) : (s.leavePlace r).tags = s.tags :=
  State.tags_of_items (s.leavePlace_items r)

@[simp] theorem State.raiseCursor_items (x : CtxId) (c : Context) (new : Nat) :
    (s.raiseCursor x c new).1.items = s.items := by
  unfold State.raiseCursor
  simp only
  split <;> rfl

@[simp] theorem State.tags_raiseCursor (x : CtxId) (c : Context) (new : Nat) :
    (s.raiseCursor x c new).1.tags = s.tags := State.tags_of_items (s.raiseCursor_items x c new)

@[simp] theorem State.tags_findAtHome (c : Context) (t : Tag) (st : CountState)
    (prior : Option CountState) : (s.findAtHome c t st prior).tags = s.tags :=
  s.tags_modItem _ _ fun _ => rfl

@[simp] theorem State.tags_passItems (S : SecId) (tags : List Tag) :
    (s.passItems S tags).tags = s.tags := s.tags_modItems _ _ fun _ => rfl

@[simp] theorem Item.sighted_tag (r : Item) : r.sighted.tag = r.tag := rfl

theorem tags_judgeProvisional (c : Context) (r : Item) :
    (judgeProvisional c r s).state.tags = s.tags := by
  unfold judgeProvisional
  split
  · exact s.tags_modItem _ _ Item.sighted_tag
  · simp

theorem tags_judgeForeign (c : Context) (H : SecId) (r : Item) :
    (judgeForeign c H r s).state.tags = s.tags := by
  unfold judgeForeign
  split
  · exact (s.sightAgain_alike c H r).tags
  · simp

@[simp] theorem tags_stepB (x : CtxId) (c : Context) (t : Tag) (prior : CountState)
    (broken : Bool) :
    (stepB x c t prior broken s).state.tags = s.tags := by
  unfold stepB
  simp only
  split
  · split <;> simp
  · split <;> simp

@[simp] theorem tags_continueRun (x : CtxId) (c : Context) (t : Tag) (prior : CountState) :
    (continueRun x c t prior s).state.tags = s.tags := by
  unfold continueRun resync
  simp only
  split <;> simp

@[simp] theorem State.tags_breakRun (x : CtxId) (c : Context) : (s.breakRun x c).tags = s.tags := by
  unfold State.breakRun
  simp

@[simp] theorem tags_placeFresh (x : CtxId) (c : Context) (t : Tag) (prior : CountState) :
    (placeFresh x c t prior s).state.tags = s.tags := by
  unfold placeFresh
  split
  · exact tags_stepB s x c t prior _
  · simp only
    split <;> simp

theorem tags_judgeFresh (x : CtxId) (c : Context) (r : Item) :
    (judgeFresh x c r s).state.tags = s.tags := by
  simp [judgeFresh]

theorem Item.tallied_tag (r : Item) : r.tallied.tag = r.tag := by
  unfold Item.tallied
  split <;> rfl

theorem Item.closed_tag (r : Item) : r.closed.tag = r.tag := by
  unfold Item.closed
  split <;> rfl

@[simp] theorem State.grantNext_items (S : SecId) : (s.grantNext S).items = s.items := by
  unfold State.grantNext
  split
  · rfl
  · split <;> split <;> rfl

@[simp] theorem State.completeWalk_items (x : CtxId) (c : Context) :
    (s.completeWalk x c).items = s.items.map fun r =>
    if r.isHomeOf c.sec then r.tallied else r := by
  simp [State.completeWalk]

@[simp] theorem State.abandon_items (x : CtxId) (c : Context) :
    (s.abandon x c).items = s.items.map fun r => if r.tag ∈ c.run then r.returned else r := by
  unfold State.abandon
  rw [State.grantNext_items, State.endWalk_items]
  cases c.walker <;> simp only <;> split <;> simp

@[simp] theorem State.closeCampaign_items :
    s.closeCampaign.items = s.items.map fun r => if r.home.isSome then r.closed else r := by
  unfold State.closeCampaign State.attendWhere
  simp only
  split <;> simp

@[simp] theorem State.loadLeaseOf_items (w : Wand) : (s.loadLeaseOf w).items = s.items := by
  unfold State.loadLeaseOf
  split <;> rfl

@[simp] theorem State.shiftCursor_items (S : SecId) (f : Nat → Nat) :
    (s.shiftCursor S f).items = s.items := by
  unfold State.shiftCursor
  split <;> rfl

@[simp] theorem State.insertAt_items (S : SecId) (k : Nat) (t : Tag) :
    (s.insertAt S k t).items = s.items := by
  rw [State.insertAt, State.shiftCursor_items, State.modSec_items]

@[simp] theorem State.removeAt_items (S : SecId) (k : Nat) : (s.removeAt S k).items = s.items := by
  rw [State.removeAt, State.shiftCursor_items, State.modSec_items]

@[simp] theorem State.enqueue_items (w : Wand) (S : SecId) : (s.enqueue w S).items = s.items := by
  unfold State.enqueue
  split <;> rfl

@[simp] theorem State.startCampaign_items :
    s.startCampaign.items = (s.items.filter fun r => !r.home.isNone).map Item.restarted := by
  simp [State.startCampaign]

@[simp] theorem State.unload_items (S : SecId) :
    (s.unload S).items = (s.items.filter fun r => !(r.isHomeOf S || s.isProvisionalOf S r)).map
      fun r => if s.isStrayOf S r then r.unseen else r := by
  simp [State.unload]

@[simp] theorem State.recount_items (S : SecId) :
    (s.recount S).items = (s.items.filter fun r => !s.isProvisionalOf S r).map
      fun r => if r.isHomeOf S || s.isStrayOf S r then r.unseen else r := by
  simp [State.recount]

@[simp] theorem State.retire_items (H : SecId) (r : Item) :
    (s.retire H r).items = s.items.filter fun q => !decide (q.tag = r.tag) := by
  simp [State.retire]

@[simp] theorem State.tags_adopt (S : SecId) (k : Nat) (r : Item) :
    (s.adopt S k r).tags = s.tags := by
  refine .trans (State.tags_of_items ?_) (s.tags_modItem r.tag (fun q =>
    { q with home := some S, circ := some .shelf, count := adoptedCount S r }) fun _ => rfl)
  unfold State.adopt
  simp only
  split <;> simp

@[simp] theorem State.tags_shelve (H : SecId) (r : Item) : (s.shelve H r).tags = s.tags := by
  simp [State.shelve]

end Tags

/-- The record of an unknown tag joins below the capacity. -/
theorem judgeUnknown_canonical {s : State} (c : Context) {t : Tag} (new : s.item? t = none)
    (h : ItemsCanonical s.items) : ItemsCanonical (judgeUnknown c t s).state.items := by
  unfold judgeUnknown State.adoptDue
  split
  next => exact h
  next room =>
    have added : ItemsCanonical (s.addItem (provisional t c.sec c.cursor s.clock)).items :=
      h.addItem new (Nat.lt_of_not_le room)
    simp only
    split <;> simpa using added

/-- Records changed, their tags kept, leave the item table canonical. -/
theorem ItemsCanonical.of_map {s u : State} {p : Item → Prop} [DecidablePred p] {f : Item → Item}
    (h : ItemsCanonical s.items) (items : u.items = s.items.map fun r => if p r then f r else r)
    (hf : ∀ r, (f r).tag = r.tag) : ItemsCanonical u.items := by
  refine h.of_tags ?_
  unfold State.tags
  rw [items, List.map_map]
  refine List.map_congr_left fun r _ => ?_
  rw [Function.comp]
  split
  · exact hf r
  · rfl

/-- Records gone, and the others changed but for their tags, leave the item table canonical. -/
theorem ItemsCanonical.of_thinned {s u : State} {p : Item → Bool} {f : Item → Item}
    (h : ItemsCanonical s.items) (items : u.items = (s.items.filter p).map f)
    (hf : ∀ r, (f r).tag = r.tag) : ItemsCanonical u.items := by
  refine h.of_sublist ?_
  unfold State.tags
  rw [items, List.map_map, show Item.tag ∘ f = Item.tag from funext hf]
  exact (List.filter_sublist (p := p)).map Item.tag

theorem ite_unseen_tag (p : Prop) [Decidable p] (r : Item) :
    (if p then r.unseen else r).tag = r.tag := by
  split <;> rfl

/-- Every effect keeps the item table canonical (R1). -/
theorem Effect.canonical {s u : State} (h : Effect s u) (k : ItemsCanonical s.items) :
    ItemsCanonical u.items := by
  cases h with
  | alike h => exact k.of_tags h.tags
  | tables h => exact k.of_tags h.tags
  | setting => exact k
  | reset h =>
    have : ItemsCanonical State.reset.items := ⟨List.Pairwise.nil, Nat.zero_le _⟩
    exact this.of_tags h.tags
  | lease w => rwa [State.loadLeaseOf_items]
  | toggle => exact k
  | start =>
    exact k.of_thinned s.startCampaign_items fun _ => rfl
  | close => exact k.of_map s.closeCampaign_items Item.closed_tag
  | openRevision => exact k
  | insert c _ new room =>
    rw [State.bump_items, State.insertAt_items]
    exact k.addItem new room
  | @retire H r _ _ _ =>
    exact k.of_thinned (p := fun q => !decide (q.tag = r.tag)) (f := id) (by simp) fun _ => rfl
  | adopt => exact k.of_tags (s.tags_adopt _ _ _)
  | unload => exact k.of_thinned (s.unload_items _) fun r => ite_unseen_tag _ r
  | recount => exact k.of_thinned (s.recount_items _) fun r => ite_unseen_tag _ r
  | @dropRecord r _ _ =>
    exact k.of_thinned (p := fun q => !decide (q.tag = r.tag)) (f := id) (by simp) fun _ => rfl
  | notice circ _ _ _ writes =>
    refine k.of_tags (s.tags_modItem _ _ fun q => ?_)
    have core : (_ : Item).core.tag = _ := congrArg Item.tag (writes q)
    exact core
  | shelve => exact k.of_tags (s.tags_shelve _ _)
  | unclaim => exact k
  | enqueue => rwa [State.enqueue_items]
  | startWalk => exact k
  | resumeWalk => exact k
  | suspend _ _ h => exact k.of_tags ((State.tags_of_items
      (State.grantNext_items _ _)).trans h.tags)
  | complete => exact k.of_map (s.completeWalk_items _ _) Item.tallied_tag
  | abandon => exact k.of_map (s.abandon_items _ _) fun _ => rfl
  | park => exact k
  | unknown _ new => exact judgeUnknown_canonical _ new k
  | provisional => exact k.of_tags (tags_judgeProvisional s _ _)
  | foreign => exact k.of_tags (tags_judgeForeign s _ _ _)
  | fresh => exact k.of_tags (tags_judgeFresh s _ _ _)

end Sys2Proof.Machine

/-! # Proofs: what requests and frames leave as it is, and the receive queue -/

namespace Sys2Proof.Machine

/-! ### The operations that touch only the engine's parts of the state -/

theorem SameOutside.of_eq {s u : State} (h : u = s) : SameOutside s u := h ▸ .refl u

section Engine
variable (s : State)

theorem State.shiftCursor_same (S : SecId) (f : Nat → Nat) : SameOutside s (s.shiftCursor S f) := by
  unfold State.shiftCursor
  split
  · exact s.modCtx_same _ _
  · exact .refl s

theorem State.insertAt_same (S : SecId) (k : Nat) (t : Tag) : SameOutside s (s.insertAt S k t) :=
  (s.modSec_same S _).trans (State.shiftCursor_same _ S _)

theorem State.removeAt_same (S : SecId) (k : Nat) : SameOutside s (s.removeAt S k) :=
  (s.modSec_same S _).trans (State.shiftCursor_same _ S _)

theorem State.leaveChainOf_same (F : Option SecId) (t : Tag) :
    SameOutside s (s.leaveChainOf F t) := by
  cases F with
  | none => exact .refl s
  | some S => exact s.leaveChain_same S t

theorem State.retire_same (H : SecId) (r : Item) : SameOutside s (s.retire H r) :=
  (s.leavePlace_same r).trans <| (State.removeAt_same _ H _).trans <|
    (State.dropItems_same _ _).trans (State.bumpWhere_same _ _)

theorem State.adopt_same (S : SecId) (k : Nat) (r : Item) : SameOutside s (s.adopt S k r) :=
  (s.modItem_same r.tag _).trans <| (SameOutside.ite (State.leaveChain_same _ S r.tag)
    (.refl _)).trans <|
    (State.insertAt_same _ S k r.tag).trans (State.bumpWhere_same _ _)

theorem State.unload_same (S : SecId) : SameOutside s (s.unload S) :=
  (s.mapSecs_same _).trans <| (State.dropItems_same _ _).trans (State.modItems_same _ _ _)

theorem State.recount_same (S : SecId) : SameOutside s (s.recount S) :=
  (s.mapSecs_same _).trans <| (State.dropItems_same _ _).trans (State.modItems_same _ _ _)

theorem State.lend_same (H : SecId) (r : Item) : SameOutside s (s.lend H r) :=
  .ite ((s.modItem_same r.tag _).trans (State.bump_same _ H)) (s.modItem_same r.tag _)

theorem State.takeBack_same (H : SecId) (r : Item) : SameOutside s (s.takeBack H r) :=
  .ite ((s.modItem_same r.tag _).trans (State.bump_same _ H)) (s.modItem_same r.tag _)

theorem State.clearFlags_same (r : Item) : SameOutside s (s.clearFlags r) := by
  unfold State.clearFlags
  simp only
  split
  · exact .ite ((s.modItem_same r.tag _).trans (State.bump_same _ _)) (s.modItem_same r.tag _)
  · exact s.modItem_same r.tag _

theorem State.shelve_same (H : SecId) (r : Item) : SameOutside s (s.shelve H r) :=
  (s.leavePlace_same r).trans <| (State.modItem_same _ r.tag _).trans (State.bumpWhere_same _ _)

theorem State.enqueue_same (w : Wand) (S : SecId) : SameOutside s (s.enqueue w S) := by
  unfold State.enqueue
  refine .ite (.refl s) ?_
  constructor <;> rfl

theorem State.freeTable_same (w : Wand) : SameOutside s (s.freeTable w) := s.setTable_same w _

end Engine

/-! ### The processing of a frame -/

theorem helloBody_same (w : Wand) (s : State) : SameOutside s (helloBody w s).state := by
  unfold helloBody
  simp only
  have freed := s.freeTable_same w
  split
  · split
    · exact freed.trans ((State.suspend_same _ _ _ _).trans (State.grantNext_same _ _))
    · exact freed
  · split
    · exact freed.trans (State.unclaim_same _ _)
    · exact freed

theorem sightBody_same (w : Wand) (reads : List TagRead) (s : State) :
    SameOutside s (sightBody w reads s).state := by
  unfold sightBody
  split
  · exact .refl s
  · exact readAll_same w reads s

theorem claimSec_same (w : Wand) (S : SecId) (s : State) :
    SameOutside s (claimSec w S s).state := by
  have unclaimed := s.unclaim_same w
  unfold claimSec
  split
  · exact .refl s
  · exact s.enqueue_same w S
  · split
    · exact unclaimed.trans (State.resumeWalk_same _ _ S w)
    · exact .refl s
  all_goals
    split
    · exact unclaimed.trans (State.startWalk_same _ _ S w)
    · exact .refl s

theorem claimBody_same (w : Wand) (S : Nat) (s : State) :
    SameOutside s (claimBody w S s).state := by
  unfold claimBody
  split
  · split
    · exact .refl s
    · split
      · exact claimSec_same w _ s
      · exact .refl s
  · exact .refl s

theorem walkendCompleteBody_same (w : Wand) (s : State) :
    SameOutside s (walkendCompleteBody w s).state := by
  unfold walkendCompleteBody
  split
  · exact .refl s
  · split
    · exact .refl s
    · split
      · exact .refl s
      · exact s.completeWalk_same _ _

theorem walkendBreakBody_same (w : Wand) (s : State) :
    SameOutside s (walkendBreakBody w s).state := by
  unfold walkendBreakBody
  split
  · exact .refl s
  · split
    · exact .refl s
    · exact (s.suspend_same _ _ w).trans (State.grantNext_same _ _)

theorem shelvedBody_same (t : Tag) (s : State) : SameOutside s (shelvedBody t s).state := by
  unfold shelvedBody
  split
  · exact .refl s
  · split
    · exact .refl s
    · split
      · exact .refl s
      · split
        · exact .refl s
        · exact s.shelve_same _ _

theorem unlessPaused_same {body : State → Answer} {s : State} (h : SameOutside s (body s).state) :
    SameOutside s (unlessPaused body s).state := by
  unfold unlessPaused
  split
  · exact .refl s
  · exact h

/-- The processing of a frame touches only the engine's parts of the state. -/
theorem frameBody_same (i : Instr) (s : State) : SameOutside s (frameBody i s).state := by
  cases i
  case hello w => exact helloBody_same w s
  case sight w reads => exact unlessPaused_same (sightBody_same w reads s)
  case claim w S => exact unlessPaused_same (claimBody_same w S s)
  case walkendComplete w => exact unlessPaused_same (walkendCompleteBody_same w s)
  case walkendBreak w => exact unlessPaused_same (walkendBreakBody_same w s)
  case walkendOtherMode => exact unlessPaused_same (.refl s)
  case whereIs w t => exact .of_eq (whereBody_state t s)
  case shelved w t => exact unlessPaused_same (shelvedBody_same t s)
  case keep w => exact unlessPaused_same (.of_eq (keepBody_state w s))
  all_goals exact .refl s

/-- A frame that may be taken is taken, and its answer is what its processing gives. -/
theorem taken_frame {i : Instr} {w : Wand} {kind : Byte} {payload : List Byte} {s : State}
    (frame : wandFrame i = some (w, kind, payload)) (takes : s.Takes i) :
    Taken s i
      ((frameBody i (s.begun w)).state.sending (s.sendQueue ++
        .answer w kind (frameBody i (s.begun w)).code (frameBody i (s.begun w)).fields ::
          (frameBody i (s.begun w)).state.sendQueue))
      (frameBody i (s.begun w)).code (frameBody i (s.begun w)).fields
      (frameBody i (s.begun w)).state.sendQueue :=
  taken_of_body (exec_frame frame s) frame takes (frameBody_same i _)

/-! ### The processing of a request -/

/-- `u` has the commands that wait, the receive queue and the pin RESET of `s`. -/
structure QueuesKept (s u : State) : Prop where
  pending : u.pending = s.pending
  rxQueue : u.rxQueue = s.rxQueue
  resetAsserted : u.resetAsserted = s.resetAsserted

theorem QueuesKept.refl (s : State) : QueuesKept s s := ⟨rfl, rfl, rfl⟩

theorem QueuesKept.of_eq {s u : State} (h : u = s) : QueuesKept s u := h ▸ .refl u

theorem SameOutside.queues {s u : State} (h : SameOutside s u) : QueuesKept s u :=
  ⟨h.pending, h.rxQueue, h.resetAsserted⟩

theorem secSetBody_queues (S tol lamp : Nat) (mark : Option Nat) (endMarker : Option Tag)
    (s : State) :
    QueuesKept s (secSetBody S tol lamp mark endMarker s).state := by
  unfold secSetBody
  split
  · exact .refl s
  · simp only
    split
    · exact .refl s
    · rw [State.doneClamped_state]
      split
      · refine SameOutside.queues (.ite (s.setSec_same _ _) ?_)
        exact (s.setSec_same _ _).trans (State.modCtx_same _ _ _)
      · exact (s.setSec_same _ _).queues

theorem walkAbandonBody_queues (S : Nat) (s : State) :
    QueuesKept s (walkAbandonBody S s).state := by
  unfold walkAbandonBody
  split
  · exact .refl s
  · split
    · split
      · exact .refl s
      · split
        · exact .refl s
        · exact (s.abandon_same _ _).queues
    · exact .refl s

theorem revOpenBody_queues (S : Nat) (s : State) : QueuesKept s (revOpenBody S s).state := by
  unfold revOpenBody
  split
  · exact .refl s
  · split
    · exact .refl s
    · exact ((s.modSec_same _ _).trans (State.bump_same _ _)).queues

theorem revInsertBody_queues (S k : Nat) (t : Tag) (circ : Byte) (s : State) :
    QueuesKept s (revInsertBody S k t circ s).state := by
  unfold revInsertBody
  split
  · exact .refl s
  · split
    · exact .refl s
    · simp only
      split
      · exact .refl s
      · split
        · exact .refl s
        · split
          · exact .refl s
          · split
            · exact .refl s
            · exact ((s.addItem_same _).trans <| (State.insertAt_same _ _ _ _).trans
                (State.bump_same _ _)).queues

theorem revRetireBody_queues (t : Tag) (s : State) : QueuesKept s (revRetireBody t s).state := by
  unfold revRetireBody
  split
  · exact .refl s
  · split
    · exact .refl s
    · split
      · exact .refl s
      · exact (s.retire_same _ _).queues

theorem revAdoptBody_queues (t : Tag) (S k : Nat) (s : State) :
    QueuesKept s (revAdoptBody t S k s).state := by
  unfold revAdoptBody
  split
  · exact .refl s
  · split
    · exact .refl s
    · simp only
      split
      · exact .refl s
      · split
        · exact .refl s
        · split
          · exact .refl s
          · exact (s.adopt_same _ _ _).queues

theorem revCloseBody_queues (S : Nat) (s : State) : QueuesKept s (revCloseBody S s).state := by
  unfold revCloseBody
  split
  · exact .refl s
  · split
    · exact .refl s
    · exact (s.closeRevision_same _).queues

theorem secUnloadBody_queues (S : Nat) (s : State) : QueuesKept s (secUnloadBody S s).state := by
  unfold secUnloadBody
  split
  · exact .refl s
  · split
    · exact .refl s
    · split
      · exact .refl s
      · split
        · exact .refl s
        · exact (s.unload_same _).queues

theorem secResetBody_queues (S : Nat) (s : State) : QueuesKept s (secResetBody S s).state := by
  unfold secResetBody
  split
  · exact .refl s
  · split
    · exact .refl s
    · split
      · exact .refl s
      · exact (s.recount_same _).queues

theorem itemDropBody_queues (t : Tag) (s : State) : QueuesKept s (itemDropBody t s).state := by
  unfold itemDropBody
  split
  · exact .refl s
  · split
    · exact .refl s
    · exact ((s.leaveChainOf_same _ t).trans <| (State.dropItems_same _ _).trans
        (State.bumpWhere_same _ _)).queues

theorem circOutBody_queues (t : Tag) (s : State) : QueuesKept s (circOutBody t s).state := by
  unfold circOutBody
  split
  · exact .refl s
  · split
    · exact .refl s
    · exact (s.lend_same _ _).queues

theorem circInBody_queues (t : Tag) (s : State) : QueuesKept s (circInBody t s).state := by
  unfold circInBody
  split
  · exact .refl s
  · split
    · exact .refl s
    · exact (s.takeBack_same _ _).queues

theorem itemClearBody_queues (t : Tag) (s : State) : QueuesKept s (itemClearBody t s).state := by
  unfold itemClearBody
  split
  · exact .refl s
  · exact (s.clearFlags_same _).queues

theorem attAckBody_queues (S : Nat) (s : State) : QueuesKept s (attAckBody S s).state := by
  unfold attAckBody
  split
  · exact .refl s
  · rw [State.done_state]
    exact (s.modSec_same _ _).queues

theorem State.startCampaign_queues (s : State) : QueuesKept s s.startCampaign := by
  constructor <;> simp [State.startCampaign]

theorem State.closeCampaign_queues (s : State) : QueuesKept s s.closeCampaign := by
  unfold State.closeCampaign State.attendWhere
  simp only
  constructor <;> split <;> simp

theorem campStartBody_queues (s : State) : QueuesKept s (campStartBody s).state := by
  unfold campStartBody
  split
  · exact s.startCampaign_queues
  · exact .refl s

theorem campPauseBody_queues (s : State) : QueuesKept s (campPauseBody s).state := by
  unfold campPauseBody
  split <;> exact ⟨rfl, rfl, rfl⟩

theorem campResumeBody_queues (s : State) : QueuesKept s (campResumeBody s).state := by
  unfold campResumeBody
  split <;> exact ⟨rfl, rfl, rfl⟩

theorem campCloseBody_queues (s : State) : QueuesKept s (campCloseBody s).state := by
  unfold campCloseBody
  split
  · split
    · exact .refl s
    · exact s.closeCampaign_queues
  · exact .refl s

theorem onWatch_queues {body : WatchId → WatchEntry → State → Reply}
    (h : ∀ i e s, QueuesKept s (body i e s).state) (x : Nat) (s : State) :
    QueuesKept s (onWatch x body s).state := by
  unfold onWatch
  split
  · exact .refl s
  · exact h _ _ s

theorem onKinds_queues (k : BitVec 16) (former : EventUnit → KindSet)
    (write : KindSet → EventUnit → EventUnit) (s : State) :
    QueuesKept s (onKinds k former write s).state := by
  unfold onKinds
  split <;> exact ⟨rfl, rfl, rfl⟩

theorem lampForceBody_queues (m : Nat) (pattern : Byte) (s : State) :
    QueuesKept s (lampForceBody m pattern s).state := by
  unfold lampForceBody
  split <;> exact ⟨rfl, rfl, rfl⟩

theorem setWriteBody_queues (key v : Nat) (s : State) :
    QueuesKept s (setWriteBody key v s).state := by
  unfold setWriteBody
  split <;> exact ⟨rfl, rfl, rfl⟩

/-! ### The reads among the requests -/

theorem itemReadBody_state (t : Tag) (s : State) : (itemReadBody t s).state = s := by
  unfold itemReadBody
  split <;> rfl

theorem walkReadBody_state (x : Nat) (s : State) : (walkReadBody x s).state = s := by
  unfold walkReadBody
  split
  · rfl
  · split <;> rfl

theorem secReadBody_state (S : Nat) (s : State) : (secReadBody S s).state = s := by
  unfold secReadBody
  split <;> rfl

theorem secListBody_state (S : Nat) (list : Byte) (start : Nat) (s : State) :
    (secListBody S list start s).state = s := by
  unfold secListBody
  split
  · rfl
  · split
    · rfl
    · split <;> rfl

theorem watchReadBody_state (x : Nat) (s : State) : (watchReadBody x s).state = s := by
  unfold watchReadBody onWatch
  split <;> rfl

theorem wandReadBody_state (w : Nat) (s : State) : (wandReadBody w s).state = s := by
  unfold wandReadBody
  split <;> rfl

/-- The processing of a request leaves the commands that wait and the receive queue. -/
theorem requestBody_queues (i : Instr) (s : State) : QueuesKept s (requestBody i s).state := by
  cases i
  case revOpen S => exact revOpenBody_queues S s
  case revInsert S k t circ => exact revInsertBody_queues S k t circ s
  case revRetire t => exact revRetireBody_queues t s
  case revAdopt t S k => exact revAdoptBody_queues t S k s
  case revClose S => exact revCloseBody_queues S s
  case secUnload S => exact secUnloadBody_queues S s
  case itemDrop t => exact itemDropBody_queues t s
  case itemRead t => exact .of_eq (itemReadBody_state t s)
  case secSet S tol lamp mark endMarker => exact secSetBody_queues S tol lamp mark endMarker s
  case walkAbandon S => exact walkAbandonBody_queues S s
  case walkRead x => exact .of_eq (walkReadBody_state x s)
  case attAck S => exact attAckBody_queues S s
  case secRead S => exact .of_eq (secReadBody_state S s)
  case secList S list start => exact .of_eq (secListBody_state S list start s)
  case secReset S => exact secResetBody_queues S s
  case circOut t => exact circOutBody_queues t s
  case circIn t => exact circInBody_queues t s
  case itemClear t => exact itemClearBody_queues t s
  case campStart => exact campStartBody_queues s
  case campPause => exact campPauseBody_queues s
  case campResume => exact campResumeBody_queues s
  case campClose => exact campCloseBody_queues s
  case watchSet => exact onWatch_queues (fun _ _ _ => ⟨rfl, rfl, rfl⟩) _ s
  case watchClear => exact onWatch_queues (fun _ _ _ => ⟨rfl, rfl, rfl⟩) _ s
  case watchRead x => exact .of_eq (watchReadBody_state x s)
  case watchAck => exact onWatch_queues (fun _ _ _ => ⟨rfl, rfl, rfl⟩) _ s
  case lampForce m pattern => exact lampForceBody_queues m pattern s
  case wandRead w => exact .of_eq (wandReadBody_state w s)
  case evtClear k => exact onKinds_queues k _ _ s
  case evtForce k => exact onKinds_queues k _ _ s
  case evtEnable k => exact onKinds_queues k _ _ s
  case evtRoute k => exact onKinds_queues k _ _ s
  case setWrite key v => exact setWriteBody_queues key v s
  all_goals exact .refl s

/-! ### Every command -/

theorem carryOut_queues {i : Instr} {code : Byte} {body : State → Reply} {s : State}
    (h : QueuesKept s (body s).state) : QueuesKept s (carryOut i code body s) := by
  have held (lost : Bool) : QueuesKept s ((body s).hold code lost) :=
    ⟨h.pending, h.rxQueue, h.resetAsserted⟩
  unfold carryOut
  split
  · exact .refl s
  · split
    · split
      · exact held _
      · exact ⟨rfl, rfl, rfl⟩
    · exact held _
    · exact held _

theorem State.loadLeaseOf_queues (s : State) (w : Wand) : QueuesKept s (s.loadLeaseOf w) := by
  unfold State.loadLeaseOf
  split <;> exact ⟨rfl, rfl, rfl⟩

/-- The receive queue with a frame in it stays within its 8 places (R176). -/
theorem State.queuedFrame_length {s : State} (h : ReceiveBounded s) (frame : Instr) :
    (s.queuedFrame frame).length ≤ 8 := by
  unfold State.queuedFrame
  split
  · exact h
  · split
    next room => rw [List.length_append]; exact room
    next => exact h

theorem takeFrame_pending {i : Instr} {w : Wand} {kind : Byte} {body : State → Answer} {s : State}
    (h : ∀ u, SameOutside u (body u).state) : (takeFrame i w kind body s).pending = s.pending := by
  unfold takeFrame
  split
  · rfl
  · split
    · rfl
    · split
      · exact (h _).pending.trans (State.loadLeaseOf_queues _ w).pending
      · rfl

theorem takeFrame_bounded {i : Instr} {w : Wand} {kind : Byte} {body : State → Answer} {s : State}
    (h : ∀ u, SameOutside u (body u).state) (bounded : ReceiveBounded s) :
    ReceiveBounded (takeFrame i w kind body s) := by
  have room := State.queuedFrame_length bounded i
  unfold takeFrame
  split
  · exact bounded
  · split
    · exact bounded
    next head rest queue =>
      rw [queue] at room
      split
      · have rx : (answering w kind body
          (({ s with rxQueue := rest } : State).frameTaken w)).rxQueue
            = rest := (h _).rxQueue.trans (State.loadLeaseOf_queues _ w).rxQueue
        rw [ReceiveBounded, rx]
        exact (Nat.le_succ _).trans room
      · exact room

theorem receiveByte_queues (b : Byte) (s : State) : QueuesKept s (receiveByte b s) := by
  unfold receiveByte huntByte gatherByte
  split
  · exact ⟨rfl, rfl, rfl⟩
  · split
    · exact ⟨rfl, rfl, rfl⟩
    · split <;> exact ⟨rfl, rfl, rfl⟩

theorem writePacket_queues (packet : List Byte) (s : State) :
    QueuesKept s (writePacket packet s) := by
  unfold writePacket
  simp only
  split <;> exact ⟨rfl, rfl, rfl⟩

theorem sendFrame_queues (s : State) : QueuesKept s (sendFrame s) := by
  unfold sendFrame
  split <;> exact ⟨rfl, rfl, rfl⟩

theorem expireLease_same (x : CtxId) (s : State) : SameOutside s (expireLease x s) := by
  unfold expireLease
  split
  · exact .refl s
  · split
    · exact .refl s
    · exact (s.suspend_same _ _ _).trans <| (State.makeReady_same _ _).trans <|
        (State.raise_same _ _).trans (State.grantNext_same _ _)

/-- `u` has the commands that wait of `s`, and at most 8 received frames if `s` has. -/
structure QueuesSound (s u : State) : Prop where
  pending : u.pending = s.pending
  bounded : ReceiveBounded s → ReceiveBounded u

theorem QueuesKept.sound {s u : State} (h : QueuesKept s u) : QueuesSound s u :=
  ⟨h.pending, fun bounded => (congrArg List.length h.rxQueue).trans_le bounded⟩

theorem unlessReset_queues {body : State → State} {s : State} (h : QueuesSound s (body s)) :
    QueuesSound s (unlessReset body s) := by
  unfold unlessReset
  split
  · exact (QueuesKept.refl s).sound
  · exact h

theorem atEnd_queues {ended : Bool} {effect : State → State} {s : State}
    (h : QueuesKept s (effect s)) : QueuesSound s (unlessReset (atEnd ended effect) s) := by
  refine unlessReset_queues ?_
  unfold atEnd
  split
  · exact h.sound
  · exact (QueuesKept.refl s).sound

/-- A frame that passes the checks joins the receive queue below its 8 places (R176). -/
theorem State.checkedIn_queues (s : State) (f : RawFrame) : QueuesSound s (s.checkedIn f) := by
  unfold State.checkedIn
  split
  · exact (QueuesKept.refl s).sound
  · split
    next room =>
      refine ⟨rfl, fun _ => ?_⟩
      rw [ReceiveBounded, List.length_append]
      exact room
    next => exact (QueuesKept.refl s).sound

theorem receiveFrame_queues (f : RawFrame) (s : State) : QueuesSound s (receiveFrame f s) := by
  unfold receiveFrame
  split
  · exact (QueuesKept.refl s).sound
  · split
    next rest _ _ =>
      have checked := State.checkedIn_queues { s with gathered := rest } f
      exact ⟨checked.pending, checked.bounded⟩
    next => exact ⟨rfl, id⟩

/-- A command that is neither a request nor a frame goes on, leaves the commands that wait, and
keeps the receive queue bounded. -/
theorem exec_own {c : Instr} (request : requestPacket c = none) (frame : wandFrame c = none)
    (s : State) : ∃ t, exec c s = .next t ∧ QueuesSound s t := by
  cases c
  case writeTransfer packet => exact ⟨_, rfl,
    unlessReset_queues (writePacket_queues packet s).sound⟩
  case readTransfer n => exact ⟨_, rfl, unlessReset_queues ⟨rfl, id⟩⟩
  case ignoredTransfer why => exact ⟨_, rfl, unlessReset_queues ⟨rfl, id⟩⟩
  case frameReceived f => exact ⟨_, rfl, unlessReset_queues (receiveFrame_queues f s)⟩
  case framingError => exact ⟨_, rfl, unlessReset_queues ⟨rfl, id⟩⟩
  case receiverGap => exact ⟨_, rfl, atEnd_queues ⟨rfl, rfl, rfl⟩⟩
  case frameSent => exact ⟨_, rfl, unlessReset_queues (sendFrame_queues s).sound⟩
  case decayTick => exact ⟨_, rfl, atEnd_queues ⟨rfl, rfl, rfl⟩⟩
  case leaseExpiry x => exact ⟨_, rfl, atEnd_queues (expireLease_same x s).queues⟩
  case revisionExpiry S =>
    exact ⟨_, rfl, atEnd_queues ((s.closeRevision_same S).trans (State.raise_same _ _)).queues⟩
  case campaignClockSecond => exact ⟨_, rfl, atEnd_queues ⟨rfl, rfl, rfl⟩⟩
  case lampPhaseWrap => exact ⟨_, rfl, atEnd_queues ⟨rfl, rfl, rfl⟩⟩
  case deviceReset cause => exact ⟨_, rfl, rfl, fun _ => Nat.zero_le 8⟩
  case byteReceived b => exact ⟨_, rfl, unlessReset_queues (receiveByte_queues b s).sound⟩
  case resetRelease => exact ⟨_, rfl, rfl, id⟩
  all_goals cases request <;> cases frame

/-- Every command goes on, leaves the commands that wait, and keeps the receive queue bounded. -/
theorem exec_goesOn (c : Instr) (s : State) : ∃ t, exec c s = .next t ∧ QueuesSound s t := by
  rcases request : requestPacket c with _ | ⟨code, args⟩
  · rcases frame : wandFrame c with _ | ⟨w, kind, payload⟩
    · exact exec_own request frame s
    · exact ⟨_, exec_frame frame s, takeFrame_pending (frameBody_same c),
        takeFrame_bounded (frameBody_same c)⟩
  · exact ⟨_, exec_request request s, (carryOut_queues (requestBody_queues c s)).sound⟩

/-- Settles O2: every command goes on and keeps the queue (`exec_goesOn`). -/
theorem everyCommandGoesOnAndKeepsTheQueue : Obligations.EveryCommandGoesOnAndKeepsTheQueue := by
  unfold Obligations.EveryCommandGoesOnAndKeepsTheQueue
  intro c s
  obtain ⟨t, next, queues⟩ := exec_goesOn c s
  exact ⟨t, next, queues.pending⟩

theorem exec_bounded {c : Instr} {s t : State} (h : exec c s = .next t)
    (bounded : ReceiveBounded s) :
    ReceiveBounded t := by
  obtain ⟨u, next, queues⟩ := exec_goesOn c s
  cases h.symm.trans next
  exact queues.bounded bounded

/-- Every step keeps the receive queue at 8 frames (R176). -/
theorem step_bounded {s t : State} (h : step s = .next t) (bounded : ReceiveBounded s) :
    ReceiveBounded t := by
  have tick : QueuesKept s s.tick := by
    unfold State.tick State.tickUnpaused State.tickRunning
    constructor <;> simp only <;> split <;> split <;> simp
  obtain ⟨c, rest, next⟩ | rfl | ⟨code, lost, rfl⟩ | rfl := step_cases h
  · exact exec_bounded next bounded
  · exact bounded
  · exact bounded
  · exact tick.sound.bounded bounded

/-- A close of a revision keeps the item table canonical (R1). -/
theorem State.closeRevision_canonical {s : State} (S : SecId) (h : ItemsCanonical s.items) :
    ItemsCanonical (s.closeRevision S).1.items := by
  refine State.closeRevision_keeps (P := fun u => ItemsCanonical u.items)
    (fun _ _ => Effect.canonical) (fun _ _ _ h => h) ?_
  unfold State.shut
  simp only
  split <;> exact h

/-- Settles O56: the item table effect by effect, the receive queue command by command. -/
theorem stepKeepsTheItemTableAndReceiveQueue :
    Obligations.StepKeepsTheItemTableAndReceiveQueue := by
  unfold Obligations.StepKeepsTheItemTableAndReceiveQueue
  refine ⟨fun s t canonical h => ?_, fun s t bounded h => step_bounded h bounded⟩
  exact (step_reaches h).keeps (P := fun u => ItemsCanonical u.items) (fun _ _ => Effect.canonical)
    (fun _ S _ => State.closeRevision_canonical S) canonical

end Sys2Proof.Machine

/-! # Proofs: what every step keeps of the settings and the candidate tables (R25, R26, R207) -/

namespace Sys2Proof.Machine

/-! ### One table -/

/-- A table whose entries hold no tag that a sound table did not hold there, within their ranges, is
sound. -/
theorem CandTable.Sound.of_entries {t u : CandTable} (h : t.Sound)
    (bounded : ∀ i : Fin 24, u.entries[i].Bounded)
    (tags : ∀ (i : Fin 24) (tag : Tag), u.entries[i].tag? = some tag →
      t.entries[i].tag? = some tag) :
    u.Sound :=
  ⟨bounded, fun i j tag hi hj => h.2 i j tag (tags i tag hi) (tags j tag hj)⟩

theorem CandTable.getElem_set (t : CandTable) (i j : Fin 24) (e : Entry) :
    (t.entries.set i e)[j] = if j = i then e else t.entries[j] := by
  rw [Fin.getElem_fin, Vector.getElem_set]
  by_cases h : j = i
  · subst h; simp
  · rw [if_neg fun e => h (Fin.ext e).symm, if_neg h]; rfl

/-- An entry written over one of the same tag. -/
theorem CandTable.Sound.set {t u : CandTable} (h : t.Sound) {i : Fin 24} {e : Entry}
    (entries : u.entries = t.entries.set i e) (bounded : e.Bounded)
    (tag : e.tag? = t.entries[i].tag?) : u.Sound := by
  refine h.of_entries (fun j => ?_) fun j tag' held => ?_
  · rw [entries, CandTable.getElem_set]
    split
    · exact bounded
    · exact h.1 j
  · rw [entries, CandTable.getElem_set] at held
    split at held
    · subst_vars; rw [← tag]; exact held
    · exact held

theorem CandTable.tag_of_position_none {t : CandTable} {tag : Tag} (h : t.position? tag = none)
    (i : Fin 24) : t.entries[i].tag? ≠ some tag := by
  have none := find_finRange_eq_none.mp h i
  simpa using none

/-- A table in which a tag that it did not hold takes an entry. -/
theorem CandTable.Sound.allocate {t : CandTable} (h : t.Sound) {i : Fin 24} {tag : Tag}
    {weight : Nat}
    (absent : t.position? tag = none) (positive : 0 < weight) (byte : weight ≤ 255) :
    (t.allocate i tag weight).Sound := by
  have new := CandTable.tag_of_position_none absent
  have entry (j : Fin 24) : (t.allocate i tag weight).entries[j] =
      if j = i then .gathering tag weight t.nextAlloc else t.entries[j] := t.getElem_set i j _
  refine ⟨fun j => ?_, fun j k tag' hj hk => ?_⟩
  · rw [entry]
    split
    · exact ⟨positive, by omega⟩
    · exact h.1 j
  · rw [entry] at hj hk
    split at hj <;> split at hk
    · subst_vars; rfl
    · cases hj; exact absurd hk (new k)
    · cases hk; exact absurd hj (new j)
    · exact h.2 j k tag' hj hk

theorem Entry.Bounded.wait {e : Entry} (h : e.Bounded) : e.wait.Bounded := by
  cases e <;> trivial

theorem Entry.tag_wait (e : Entry) : e.wait.tag? = e.tag? := by
  cases e <;> rfl

theorem Entry.Bounded.release {e : Entry} {hold : Nat} (h : e.Bounded) (range : hold ≤ 63) :
    (e.release hold).Bounded := by
  cases e <;> assumption

theorem Entry.tag_release (e : Entry) (hold : Nat) : (e.release hold).tag? = e.tag? := by
  cases e <;> rfl

theorem Entry.decay_gathering (tag : Tag) (score a : Nat) : (Entry.gathering tag score a).decay =
    if score / 2 = 0 then .free else .gathering tag (score / 2) a := rfl

theorem Entry.decay_confirmed (tag : Tag) (hold a f : Nat) : (Entry.confirmed tag hold a f).decay =
    if hold - 1 = 0 then .free else .confirmed tag (hold - 1) a f := rfl

theorem Entry.Bounded.decay {e : Entry} (h : e.Bounded) : e.decay.Bounded := by
  cases e with
  | free => trivial
  | gathering tag score a =>
    obtain ⟨low, high⟩ := h
    rw [Entry.decay_gathering]
    split
    · trivial
    · exact ⟨by omega, by omega⟩
  | confirmed tag hold a f =>
    have range : hold ≤ 63 := h
    rw [Entry.decay_confirmed]
    split
    · trivial
    · exact (Nat.sub_le hold 1).trans range
  | waiting => trivial

theorem Entry.tag_decay {e : Entry} {tag : Tag} (h : e.decay.tag? = some tag) :
    e.tag? = some tag := by
  cases e with
  | free => cases h
  | gathering tag' score a =>
    rw [Entry.decay_gathering] at h
    split at h
    · cases h
    · exact h
  | confirmed tag' hold a f =>
    rw [Entry.decay_confirmed] at h
    split at h
    · cases h
    · exact h
  | waiting => exact h

theorem CandTable.entry_tabulate (f : Fin 24 → Entry) (i : Fin 24) : (tabulate 24 f)[i] = f i :=
  getElem_tabulate f i i.isLt

/-- Every change of a candidate table keeps it sound. -/
theorem TableStep.sound {k : Settings} {t u : CandTable} (range : k.holdTicks ≤ 63)
    (h : TableStep k t u) (sound : t.Sound) : u.Sound := by
  cases h with
  | @gather i tag score a weight gathers positive =>
    have bounded := sound.1 i
    rw [gathers] at bounded
    obtain ⟨low, high⟩ := bounded
    refine sound.set rfl ⟨?_, min_le_left _ _⟩ (by rw [gathers]; rfl)
    exact le_min (by decide) (by omega)
  | refresh confirmed => exact sound.set rfl range (by rw [confirmed]; rfl)
  | allocate absent positive byte => exact sound.allocate absent positive byte
  | confirm gathers => exact sound.set rfl range (by rw [gathers]; rfl)
  | defer i => exact sound.set rfl (sound.1 i).wait (Entry.tag_wait _)
  | release waits => exact sound.set rfl range (by rw [waits]; rfl)
  | releaseAll =>
    refine sound.of_entries (fun i => ?_) fun i tag held => ?_
    · rw [CandTable.entry_tabulate]; exact (sound.1 i).release range
    · rwa [CandTable.entry_tabulate, Entry.tag_release] at held
  | free =>
    have free (i : Fin 24) : (Vector.replicate 24 Entry.free)[i] = .free :=
      Vector.getElem_replicate _
    refine sound.of_entries (fun i => ?_) fun i tag held => ?_
    · rw [free]; trivial
    · rw [free] at held; cases held
  | decay =>
    refine sound.of_entries (fun i => ?_) fun i tag held => ?_
    · rw [CandTable.decay, CandTable.entry_tabulate]; exact (sound.1 i).decay
    · rw [CandTable.decay, CandTable.entry_tabulate] at held; exact Entry.tag_decay held

/-! ### Settings -/

theorem clampTo_le {lo hi v : Nat} (h : lo ≤ hi) : clampTo lo hi v ≤ hi :=
  max_le h (min_le_left _ _)

theorem le_clampTo (lo hi v : Nat) : lo ≤ clampTo lo hi v := le_max_left _ _

theorem nearestTick_cases (v : Nat) :
    nearestTick v = 16 ∨ nearestTick v = 32 ∨ nearestTick v = 64 ∨ nearestTick v = 128 := by
  unfold nearestTick
  split
  · exact .inl rfl
  · split
    · exact .inr (.inl rfl)
    · split
      · exact .inr (.inr (.inl rfl))
      · exact .inr (.inr (.inr rfl))

/-- A value written is brought within the range of its key (R207). -/
theorem SettingsInRange.put {k : Settings} (h : SettingsInRange k) {key : Nat} (v : Nat)
    (named : 1 ≤ key ∧ key ≤ 9) : SettingsInRange (k.put key (settingWritten key v)) := by
  obtain ⟨floor, threshold, tick, hold, lease, revision, tolerance, resync, adopt⟩ := h
  obtain ⟨low, high⟩ := named
  interval_cases key
  · exact ⟨clampTo_le (by decide), threshold, tick, hold, lease, revision, tolerance, resync, adopt⟩
  · exact ⟨floor, ⟨le_clampTo _ _ _, clampTo_le (by decide)⟩, tick, hold, lease,
      revision, tolerance,
      resync, adopt⟩
  · exact ⟨floor, threshold, nearestTick_cases v, hold, lease, revision, tolerance, resync, adopt⟩
  · exact ⟨floor, threshold, tick, ⟨le_clampTo _ _ _, clampTo_le (by decide)⟩, lease, revision,
      tolerance, resync, adopt⟩
  · exact ⟨floor, threshold, tick, hold, ⟨le_clampTo _ _ _, clampTo_le (by decide)⟩, revision,
      tolerance, resync, adopt⟩
  · exact ⟨floor, threshold, tick, hold, lease,
      ⟨le_clampTo _ _ _, clampTo_le (by decide)⟩, tolerance,
      resync, adopt⟩
  · exact ⟨floor, threshold, tick, hold, lease, revision, clampTo_le (by decide), resync, adopt⟩
  · exact ⟨floor, threshold, tick, hold, lease, revision, tolerance,
      ⟨le_clampTo _ _ _, clampTo_le (by decide)⟩, adopt⟩
  · exact ⟨floor, threshold, tick, hold, lease, revision, tolerance, resync,
      ⟨le_clampTo _ _ _, clampTo_le (by decide)⟩⟩

/-! ### The tables and settings of a state -/

/-- The candidate tables of `u` are those of `s`, each after at most one change, and so are the
settings. -/
structure TablesStep (s u : State) : Prop where
  settings : u.settings = s.settings
  table : ∀ w, u.table w = s.table w ∨ TableStep s.settings (s.table w) (u.table w)

theorem TablesStep.of_eq {s u : State} (tables : u.tables = s.tables)
    (settings : u.settings = s.settings) : TablesStep s u :=
  ⟨settings, fun w => .inl (by rw [State.table, State.table, tables])⟩

theorem TablesStep.trans_eq {s t u : State} (h : TablesStep s t) (tables : u.tables = t.tables)
    (settings : u.settings = t.settings) : TablesStep s u :=
  ⟨settings.trans h.settings, fun w => by
    rw [show u.table w = t.table w by rw [State.table, State.table, tables]]; exact h.table w⟩

theorem TablesStep.sound {s u : State} (h : TablesStep s u) (k : TablesSound s) :
    TablesSound u := by
  obtain ⟨range, sound⟩ := k
  refine ⟨h.settings ▸ range, fun w => ?_⟩
  obtain same | step := h.table w
  · exact same ▸ sound w
  · obtain ⟨-, -, -, ⟨-, hold⟩, -⟩ := range
    exact step.sound hold (sound w)

theorem WalksKept.tablesStep {s u : State} (h : WalksKept s u) (k : SameOutside s u) :
    TablesStep s u := .of_eq h.tables k.settings

theorem State.releaseWaiting_tables (s : State) (w : Wand) : TablesStep s (s.releaseWaiting w) := by
  refine ⟨rfl, fun v => ?_⟩
  rw [State.table_releaseWaiting]
  split
  · subst_vars; exact .inr .releaseAll
  · exact .inl rfl

theorem State.releaseWalker_tables (s : State) (w : Option Wand) :
    TablesStep s (s.releaseWalker w) := by
  cases w with
  | none => exact .of_eq rfl rfl
  | some w => exact s.releaseWaiting_tables w

theorem State.grantNext_tables (s : State) (S : SecId) : (s.grantNext S).tables = s.tables := by
  unfold State.grantNext
  split
  · rfl
  · split <;> split <;> rfl

theorem State.completeWalk_tables (s : State) (x : CtxId) (c : Context) :
    TablesStep s (s.completeWalk x c) := by
  have tallied : TablesStep s (((s.tallySec c.sec).modSec c.sec fun r =>
      { r with walks := min 255 (r.walks + 1) }).raise .walkDone) := .of_eq (by simp) (by simp)
  have released (t : State) (h : TablesStep s (t.releaseWalker c.walker)) :
      TablesStep s (((t.releaseWalker c.walker).endWalk x c.sec .tallied).grantNext c.sec) :=
    h.trans_eq (State.grantNext_tables _ _) (State.grantNext_same _ _).settings
  refine released _ ?_
  exact ⟨by simp, fun w => by
    have step := (State.releaseWalker_tables (((s.tallySec c.sec).modSec c.sec fun r =>
      { r with walks := min 255 (r.walks + 1) }).raise .walkDone) c.walker).table w
    simpa using step⟩

theorem State.abandon_tables (s : State) (x : CtxId) (c : Context) :
    TablesStep s (s.abandon x c) := by
  have released (t : State) (h : TablesStep s t) :
      TablesStep s ((t.endWalk x c.sec (if 1 ≤ (s.sec c.sec).walks then .tallied else .ready)).grantNext
        c.sec) :=
    h.trans_eq (State.grantNext_tables _ _) (State.grantNext_same _ _).settings
  unfold State.abandon
  refine released _ ?_
  cases c.walker with
  | none => simp only; split <;> exact .of_eq rfl rfl
  | some w =>
    simp only
    split
    all_goals
      have step := (s.releaseWaiting_tables w).table
      exact ⟨rfl, step⟩

section Unchanged
variable (s : State)

@[simp] theorem State.shiftCursor_tables (S : SecId) (f : Nat → Nat) :
    (s.shiftCursor S f).tables = s.tables := by
  unfold State.shiftCursor
  split <;> rfl

@[simp] theorem State.leaveChainOf_tables (F : Option SecId) (t : Tag) :
    (s.leaveChainOf F t).tables = s.tables := by
  cases F <;> rfl

@[simp] theorem State.leavePlace_tables (r : Item) : (s.leavePlace r).tables = s.tables :=
  (s.leavePlace_kept r).tables

theorem State.retire_tables (H : SecId) (r : Item) : (s.retire H r).tables = s.tables := by
  simp [State.retire, State.removeAt]

theorem State.adopt_tables (S : SecId) (k : Nat) (r : Item) :
    (s.adopt S k r).tables = s.tables := by
  unfold State.adopt State.insertAt
  simp only
  split <;> simp

theorem State.shelve_tables (H : SecId) (r : Item) : (s.shelve H r).tables = s.tables := by
  simp [State.shelve]

theorem State.enqueue_tables (w : Wand) (S : SecId) : (s.enqueue w S).tables = s.tables := by
  unfold State.enqueue
  split <;> rfl

theorem judgeFresh_kept (x : CtxId) (c : Context) (r : Item) :
    WalksKept s (judgeFresh x c r s).state :=
  ((((s.leavePlace_kept r).trans (State.modItem_kept _ _ _)).trans
    (placeFresh_kept _ _ _ _ _)).trans (State.markConflict_kept _ _ _)).trans
    (State.bumpWhere_kept _ _)

end Unchanged

/-- The state after a device reset has sound tables. -/
theorem reset_tablesSound : TablesSound State.reset := by
  have free (w : Wand) (i : Fin 24) : (State.reset.table w).entries[i] = .free := by
    show (Vector.replicate 16 CandTable.blank)[(w : Nat)].entries[(i : Nat)] = .free
    rw [Vector.getElem_replicate]
    exact Vector.getElem_replicate _
  refine ⟨by simp [SettingsInRange, State.reset, Settings.atReset], fun w =>
    ⟨fun i => ?_, fun i j tag held => ?_⟩⟩
  · rw [free]; trivial
  · rw [free] at held; cases held

/-- Every effect keeps settings and candidate tables sound (R25, R26, R207). -/
theorem Effect.tablesSound {s u : State} (h : Effect s u) (k : TablesSound s) : TablesSound u := by
  have same {u : State} (tables : u.tables = s.tables) (settings : u.settings = s.settings) :
      TablesSound u := (TablesStep.of_eq tables settings).sound k
  cases h with
  | alike h => exact same h.tables h.settings
  | tables _ settings steps => exact TablesStep.sound ⟨settings, steps⟩ k
  | setting v named => exact ⟨k.1.put v named, k.2⟩
  | reset h => exact (TablesStep.of_eq h.tables h.settings).sound reset_tablesSound
  | lease w =>
    unfold State.loadLeaseOf
    split <;> exact k
  | toggle => exact k
  | start => exact same (by simp [State.startCampaign]) (by simp [State.startCampaign])
  | close =>
    unfold State.closeCampaign State.attendWhere
    simp only
    split <;> exact same (by simp) (by simp)
  | openRevision => exact k
  | insert =>
    exact same (by simp [State.insertAt])
      (((s.addItem_same _).trans (State.insertAt_same _ _ _ _)).trans
        (State.bump_same _ _)).settings
  | retire => exact same (s.retire_tables _ _) (s.retire_same _ _).settings
  | adopt => exact same (s.adopt_tables _ _ _) (s.adopt_same _ _ _).settings
  | unload => exact same (by simp [State.unload]) (by simp [State.unload])
  | recount => exact same (by simp [State.recount]) (by simp [State.recount])
  | dropRecord =>
    exact same (by simp)
      (((s.leaveChainOf_same _ _).trans (State.dropItems_same _ _)).trans
        (State.bumpWhere_same _ _)).settings
  | notice => exact same (by simp) (by simp)
  | shelve => exact same (s.shelve_tables _ _) (s.shelve_same _ _).settings
  | unclaim => exact k
  | enqueue => exact same (s.enqueue_tables _ _) (s.enqueue_same _ _).settings
  | startWalk => exact k
  | resumeWalk => exact k
  | @suspend w x c _ _ _ h =>
    have suspended : TablesStep s (s.suspend x c w) := by
      refine ⟨by simp, fun v => ?_⟩
      rw [State.table_suspend]
      exact (s.releaseWaiting_tables w).table v
    exact ((suspended.trans_eq h.tables h.settings).trans_eq (State.grantNext_tables _ _)
      (State.grantNext_same _ _).settings).sound k
  | complete => exact (s.completeWalk_tables _ _).sound k
  | abandon => exact (s.abandon_tables _ _).sound k
  | park => exact k
  | unknown => exact ((judgeUnknown_kept _ _).tablesStep (judgeUnknown_same _ _ _)).sound k
  | provisional => exact ((judgeProvisional_kept _ _).tablesStep
      (judgeProvisional_same _ _ _)).sound k
  | foreign => exact ((judgeForeign_kept _ _ _).tablesStep (judgeForeign_same _ _ _ _)).sound k
  | fresh => exact ((judgeFresh_kept s _ _ _).tablesStep (judgeFresh_same _ _ _ _)).sound k

/-- Settles O57, effect by effect. -/
theorem stepKeepsTheCandidateTablesSound : Obligations.StepKeepsTheCandidateTablesSound := by
  unfold Obligations.StepKeepsTheCandidateTablesSound
  intro s t sound h
  refine (step_reaches h).keeps (fun _ _ => Effect.tablesSound) (fun u S _ k => ?_) sound
  refine State.closeRevision_keeps (fun _ _ => Effect.tablesSound) (fun _ _ _ h => h) ?_
  unfold State.shut
  simp only
  split <;> exact k

end Sys2Proof.Machine

/-! # Proofs: what a judgement does (chapter 4) -/

namespace Sys2Proof.Machine

/-! ### The parts of a judgement -/

/-- A part of the state in which a judgement that does not complete the walk makes a difference. -/
theorem WalksKept.eq {s u : State} (k : WalksKept s u) (h : SameOutside s u) :
    u = { s with
      items := u.items, sections := u.sections, contexts := u.contexts, events := u.events } := by
  conv_lhs => rw [h.eq, k.tables, k.claims, k.watch, k.sendQueue]

/-- The same with the contexts as they were. -/
theorem WalksKept.eq_of_contexts {s u : State} (k : WalksKept s u) (h : SameOutside s u)
    (contexts : u.contexts = s.contexts) :
    u = { s with items := u.items, sections := u.sections, events := u.events } := by
  conv_lhs => rw [k.eq h, contexts]

theorem State.ordinal_of_sec {s u : State} {S : SecId} (h : (u.sec S).expected = (s.sec S).expected)
    (t : Tag) : u.ordinal S t = s.ordinal S t := by
  rw [State.ordinal, State.ordinal, h]

theorem State.span_of_sec {s u : State} {S : SecId} (h : (u.sec S).expected = (s.sec S).expected)
    (lo hi : Nat) : u.span S lo hi = s.span S lo hi := by
  rw [State.span, State.span, h]

/-- A tag stands in a span of a sequence without repeats exactly when its ordinal does. -/
theorem State.mem_span {s : State} {S : SecId} (nodup : (s.sec S).expected.Nodup) {lo hi : Nat}
    (within : hi ≤ (s.sec S).expected.length) {t : Tag} :
    t ∈ s.span S lo hi ↔ lo ≤ s.ordinal S t ∧ s.ordinal S t < hi := by
  unfold State.span State.ordinal
  constructor
  · intro h
    obtain ⟨i, hi', rfl⟩ := List.mem_iff_getElem.mp h
    simp only [List.length_take, List.length_drop] at hi'
    simp only [List.getElem_take, List.getElem_drop]
    rw [nodup.idxOf_getElem]
    omega
  · rintro ⟨low, high⟩
    have stands := List.idxOf_lt_length_iff.mp (high.trans_le within)
    rw [List.mem_iff_getElem]
    refine ⟨(s.sec S).expected.idxOf t - lo, ?_, ?_⟩
    · simp only [List.length_take, List.length_drop]; omega
    · simp only [List.getElem_take, List.getElem_drop]
      simp [Nat.add_sub_cancel' low]

section Parts
variable (s : State)

theorem State.item_of_items {s u : State} (h : u.items = s.items) (t : Tag) :
    u.item? t = s.item? t := by
  rw [State.item?, State.item?, h]

theorem State.ctx_of_contexts {s u : State} (h : u.contexts = s.contexts) (x : CtxId) :
    u.ctx x = s.ctx x := by
  rw [State.ctx, State.ctx, h]

theorem State.modItem_items (t : Tag) (f : Item → Item) :
    (s.modItem t f).items = s.items.map fun r => if r.tag = t then f r else r := by
  rw [State.modItem, State.modItems_items]
  simp

/-- The attention of one section set, in the form in which a judgement's parts compose. -/
theorem State.sec_attend_or (S X : SecId) : (s.attend S).sec X =
    { s.sec X with attention := (s.sec X).attention || decide (X = S) } := by
  rw [State.sec_attend]
  split
  · subst_vars; simp
  · simp [*]

theorem State.sec_leavePlace (r : Item) (X : SecId) : (s.leavePlace r).sec X =
    { s.sec X with
      chain := if r.chainSec = some X then (s.sec X).chain.filter fun t => t ≠ r.tag
        else (s.sec X).chain } := by
  unfold State.leavePlace Item.chainSec State.leaveChainOf
  split
  · cases r.foundIn with
    | none => rfl
    | some F =>
      rw [State.sec_leaveChain]
      by_cases h : X = F
      · subst h; simp
      · simp [h, Ne.symm h]
  · split
    · split <;> rfl
    · rfl

theorem State.ctx_leavePlace (r : Item) (y : CtxId) : (s.leavePlace r).ctx y =
    (s.ctx y).map fun d =>
      if r.count = .held ∧ (r.home.bind fun H => (s.sec H).context) = some y then
        { d with run := d.run.filter fun u => u ≠ r.tag } else d := by
  unfold State.leavePlace State.leaveChainOf
  by_cases held : r.count = .held
  · simp only [held, reduceCtorEq, or_self, if_false, if_true, true_and]
    cases h : r.home.bind fun H => (s.sec H).context with
    | none => simp
    | some x =>
      rw [State.ctx_modCtx]
      by_cases hy : y = x
      · subst hy; simp
      · simp [hy, Ne.symm hy]
  · simp only [held, if_false, false_and, Option.map_id']
    split
    · cases r.foundIn <;> rfl
    · rfl

theorem State.contexts_leavePlace {r : Item} (h : r.count ≠ .held) :
    (s.leavePlace r).contexts = s.contexts := by
  unfold State.leavePlace State.leaveChainOf
  rw [if_neg h]
  split
  · cases r.foundIn <;> rfl
  · rfl

@[simp] theorem State.leavePlace_events (r : Item) : (s.leavePlace r).events = s.events := by
  unfold State.leavePlace State.leaveChainOf
  split
  · cases r.foundIn <;> rfl
  · split
    · split <;> rfl
    · rfl

@[simp] theorem State.markConflict_contexts (r : Item) (S : SecId) :
    (s.markConflict r S).contexts = s.contexts := by
  unfold State.markConflict
  split <;> simp

theorem State.sec_markConflict (r : Item) (S X : SecId) : (s.markConflict r S).sec X =
    { s.sec X with attention := (s.sec X).attention || (r.newConflict && decide (X = S)) } := by
  unfold State.markConflict
  split
  next h => rw [State.sec_attend_or, h]; rfl
  next h => simp [h]

theorem State.item_markConflict (r : Item) (S : SecId) (t : Tag) : (s.markConflict r S).item? t =
    (s.item? t).map fun q => if t = r.tag then
    { q with conflict := q.conflict || r.newConflict } else q := by
  unfold State.markConflict
  split
  next h =>
    rw [State.attend_item_eq, State.item_modItem]
    case hf => exact fun _ => rfl
    split
    · subst_vars; simp [h]
    · simp
  next h =>
    rw [Bool.not_eq_true] at h
    simp [h]

theorem State.markConflict_events (r : Item) (S : SecId) : (s.markConflict r S).events =
    { s.events with
      raw := s.events.raw |||
        if r.newConflict && !(s.sec S).attention then EventKind.attention.set else 0 } := by
  unfold State.markConflict
  split
  next h =>
    rw [State.attend_events]
    cases hA : (s.sec S).attention <;>
      simp [h, hA, show ((s.modItem r.tag fun q => { q with conflict := true }).sec S) =
        s.sec S from rfl]
  next h => simp [h]

/-- The mark is reached by a raise of the cursor (R90). -/
def State.reaches (s : State) (c : Context) (new : Nat) : Bool :=
  !c.markHit && (s.sec c.sec).mark.any fun m => c.cursor < m && m ≤ new

theorem State.reaches_iff (c : Context) (new : Nat) : s.reaches c new = true ↔
    c.markHit = false ∧ ∃ m, (s.sec c.sec).mark = some m ∧ c.cursor < m ∧ m ≤ new := by
  unfold State.reaches
  cases (s.sec c.sec).mark <;> simp

theorem State.ctx_raiseCursor {s : State} {x : CtxId} {c d : Context} (walk : s.ctx x = some d)
    (new : Nat) (y : CtxId) : (s.raiseCursor x c new).1.ctx y =
    if y = x then some { d with cursor := new, markHit := d.markHit || s.reaches c new }
    else s.ctx y := by
  have moved : (s.raiseCursor x c new).1.ctx y =
      (s.modCtx x fun d =>
        { d with cursor := new, markHit := d.markHit || s.reaches c new }).ctx y := by
    show (if s.reaches c new then _ else _ : State).ctx y = _
    split <;> rfl
  rw [moved, State.ctx_modCtx, walk]
  rfl

theorem State.sec_raiseCursor (x : CtxId) (c : Context) (new : Nat) (X : SecId) :
    (s.raiseCursor x c new).1.sec X = s.sec X := by
  unfold State.raiseCursor
  simp only
  split <;> rfl

theorem State.raiseCursor_events (x : CtxId) (c : Context) (new : Nat) :
    (s.raiseCursor x c new).1.events = { s.events with
      raw := s.events.raw ||| if s.reaches c new then EventKind.markReached.set else 0 } := by
  show (if s.reaches c new then _ else _ : State).events = _
  split <;> simp

end Parts

end Sys2Proof.Machine

/-! # Proofs: tags that no shelf-list names, and strays (4.3, 4.4) -/

namespace Sys2Proof.Machine

section Judgements
variable {s : State} {x : CtxId} {c : Context} {t : Tag} {r : Item}

/-! ### The tests of a judgement, in their order (R71) -/

theorem judge_unknown (walk : s.ctx x = some c) (marker : (s.sec c.sec).endMarker ≠ some t)
    (new : s.item? t = none) : judge x t s = judgeUnknown c t s := by
  simp only [judge, judgeWalk, walk, marker, new, if_false]

theorem judge_provisional (walk : s.ctx x = some c) (marker : (s.sec c.sec).endMarker ≠ some t)
    (found : s.item? t = some r) (home : r.home = none) : judge x t s = judgeProvisional c r s := by
  simp only [judge, judgeWalk, walk, marker, found, home, if_false]

theorem judge_foreign {H : SecId} (walk : s.ctx x = some c)
    (marker : (s.sec c.sec).endMarker ≠ some t) (found : s.item? t = some r)
    (home : r.home = some H)
    (other : H ≠ c.sec) : judge x t s = judgeForeign c H r s := by
  simp only [judge, judgeWalk, walk, marker, found, home, if_false]
  rw [if_pos other]

theorem judge_again (walk : s.ctx x = some c) (marker : (s.sec c.sec).endMarker ≠ some t)
    (found : s.item? t = some r) (home : r.home = some c.sec)
    (again : r.count = .inPlace ∨ r.count = .disordered ∨ r.count = .held) :
    judge x t s = judgeAgain c r s := by
  simp only [judge, judgeWalk, walk, marker, found, home, if_false]
  rw [if_neg (not_not.mpr rfl), if_pos again]

theorem judge_fresh (walk : s.ctx x = some c) (marker : (s.sec c.sec).endMarker ≠ some t)
    (found : s.item? t = some r) (home : r.home = some c.sec)
    (fresh : ¬ (r.count = .inPlace ∨ r.count = .disordered ∨ r.count = .held)) :
    judge x t s = judgeFresh x c r s := by
  simp only [judge, judgeWalk, walk, marker, found, home, if_false]
  rw [if_neg (not_not.mpr rfl), if_neg fresh]

/-! ### An unknown tag (R76, R77) -/

theorem countP_insertItem (p : Item → Bool) (r : Item) (items : List Item) :
    (insertItem r items).countP p = items.countP p + if p r then 1 else 0 := by
  induction items with
  | nil => simp [insertItem, List.countP_cons]
  | cons q rest ih =>
    unfold insertItem
    split
    · rw [List.countP_cons]
    · rw [List.countP_cons, List.countP_cons, ih]; omega

theorem State.unlisted_addItem (s : State) (r : Item) :
    (s.addItem r).unlisted = s.unlisted + if r.count = .unlisted then 1 else 0 := by
  show (insertItem r s.items).countP _ = _
  rw [countP_insertItem]
  simp [State.unlisted]

theorem State.adoptDue_events (s : State) : s.adoptDue.events = { s.events with
    raw := s.events.raw |||
      if s.settings.adoptThreshold ≤ s.unlisted then EventKind.adoptDue.set else 0 } := by
  unfold State.adoptDue
  split <;> simp

@[simp] theorem State.adoptDue_items (s : State) : s.adoptDue.items = s.items := by
  unfold State.adoptDue
  split <;> rfl

@[simp] theorem State.adoptDue_sections (s : State) : s.adoptDue.sections = s.sections := by
  unfold State.adoptDue
  split <;> rfl

@[simp] theorem State.adoptDue_contexts (s : State) : s.adoptDue.contexts = s.contexts := by
  unfold State.adoptDue
  split <;> rfl

@[simp] theorem State.sec_adoptDue (s : State) (X : SecId) : s.adoptDue.sec X = s.sec X := by
  rw [State.sec, State.sec, State.adoptDue_sections]

/-- The judgement of an unknown tag while the item table has room (R76). -/
theorem judgeUnknown_of_room (room : s.items.length < 131072) : judgeUnknown c t s =
    ⟨((((s.addItem (provisional t c.sec c.cursor s.clock)).joinChain c.sec t).attend c.sec).bump
      c.sec).adoptDue, ⟨t, .unlisted, false, false, false, false, none⟩⟩ :=
  if_neg (Nat.not_le.mpr room)

theorem sec_judgeUnknown (room : s.items.length < 131072) (X : SecId) :
    (judgeUnknown c t s).state.sec X =
      if X = c.sec then { s.sec X with
        chain := (s.sec X).chain ++ [t]
        attention := true
        generation := (s.sec X).generation + 1 }
      else s.sec X := by
  rw [judgeUnknown_of_room room, State.sec_adoptDue, State.sec_bump]
  by_cases h : X = c.sec
  · subst h
    rw [if_pos rfl, if_pos rfl, State.sec_attend, if_pos rfl, State.sec_joinChain, if_pos rfl]
    rfl
  · rw [if_neg h, if_neg h, State.sec_attend, if_neg h, State.sec_joinChain, if_neg h]
    rfl

theorem item_judgeUnknown (new : s.item? t = none) (room : s.items.length < 131072) (t' : Tag) :
    (judgeUnknown c t s).state.item? t' =
      if t' = t then some (provisional t c.sec c.cursor s.clock) else s.item? t' := by
  rw [judgeUnknown_of_room room, State.item_of_items (State.adoptDue_items _)]
  rw [State.bump_item_eq, State.attend_item_eq, State.joinChain_item_eq]
  exact s.item_addItem _ new t'

theorem judgeUnknown_contexts : (judgeUnknown c t s).state.contexts = s.contexts := by
  unfold judgeUnknown
  split
  · rfl
  · simp

theorem judgeUnknown_events (room : s.items.length < 131072) :
    (judgeUnknown c t s).state.events = { s.events with
      raw := s.events.raw |||
        (if (s.sec c.sec).attention then 0 else EventKind.attention.set) |||
        if s.settings.adoptThreshold ≤ s.unlisted + 1 then EventKind.adoptDue.set else 0 } := by
  have added : (s.addItem (provisional t c.sec c.cursor s.clock)).unlisted = s.unlisted + 1 :=
    s.unlisted_addItem _
  rw [judgeUnknown_of_room room, State.adoptDue_events]
  have unlisted : (((((s.addItem (provisional t c.sec c.cursor s.clock)).joinChain c.sec t).attend
      c.sec).bump c.sec)).unlisted = s.unlisted + 1 := by
    rw [← added]
    unfold State.unlisted
    simp
  rw [unlisted]
  simp

/-! ### A provisional record (R78) -/

theorem judgeProvisional_of_here (here : r.foundIn = some c.sec) : judgeProvisional c r s =
    ⟨s.modItem r.tag Item.sighted, ⟨r.tag, .repeated, false, false, false, false, none⟩⟩ :=
  if_pos here

/-- A record leaves its former place, is changed, and joins the chain of a section, whose attention
is set (R79). -/
def State.moved (s : State) (S : SecId) (r : Item) (f : Item → Item) : State :=
  (((s.leavePlace r).modItem r.tag f).joinChain S r.tag).attend S

theorem State.sec_moved (S : SecId) (f : Item → Item) (X : SecId) : (s.moved S r f).sec X =
    { s.sec X with
      chain := (if r.chainSec = some X then (s.sec X).chain.filter fun u => u ≠ r.tag
        else (s.sec X).chain) ++ if X = S then [r.tag] else []
      attention := (s.sec X).attention || decide (X = S) } := by
  have left : ((s.leavePlace r).modItem r.tag f).sec X = (s.leavePlace r).sec X := rfl
  rw [State.moved, State.sec_attend_or, State.sec_joinChain]
  by_cases h : X = S
  · subst h
    rw [if_pos rfl, left, State.sec_leavePlace]
    simp
  · rw [if_neg h, left, State.sec_leavePlace]
    simp [h]

theorem State.item_moved (S : SecId) (f : Item → Item) (hf : ∀ q, (f q).tag = q.tag) (t' : Tag) :
    (s.moved S r f).item? t' = if t' = r.tag then (s.item? r.tag).map f else s.item? t' := by
  rw [State.moved, State.attend_item_eq, State.joinChain_item_eq, State.item_modItem _ _ _ hf]
  rw [State.item_of_items (s.leavePlace_items r), State.item_of_items (s.leavePlace_items r)]

theorem State.moved_items (S : SecId) (f : Item → Item) :
    (s.moved S r f).items = s.items.map fun q => if q.tag = r.tag then f q else q := by
  rw [State.moved, State.attend_items, State.joinChain_items, State.modItem_items,
    State.leavePlace_items]

theorem State.ctx_moved (S : SecId) (f : Item → Item) (y : CtxId) :
    (s.moved S r f).ctx y = (s.leavePlace r).ctx y := by
  rw [State.moved, State.attend_ctx_eq]; rfl

theorem State.moved_events (S : SecId) (f : Item → Item) : (s.moved S r f).events = { s.events with
    raw := s.events.raw ||| if (s.sec S).attention then 0 else EventKind.attention.set } := by
  rw [State.moved, State.attend_events, State.sec_joinChain, if_pos rfl]
  rw [State.joinChain_events, State.modItem_events, State.leavePlace_events]
  rw [show ((s.leavePlace r).modItem r.tag f).sec S = (s.leavePlace r).sec S from rfl]
  rw [State.sec_leavePlace]

/-- A provisional record's state after it is found in another section (R78, R79). -/
theorem judgeProvisional_of_elsewhere (elsewhere : r.foundIn ≠ some c.sec) :
    judgeProvisional c r s =
    ⟨(s.moved c.sec r fun q => { q.sighted with
        moved := true, found := some ⟨c.sec, c.cursor, s.clock⟩ }).bumpWhere
        fun X => X = c.sec || some X = r.chainSec,
      ⟨r.tag, .unlisted, false, false, false, false, none⟩⟩ :=
  if_neg elsewhere

theorem State.unlisted_of_counts {u : State} (f : Item → Item)
    (items : u.items = s.items.map f) (counts : ∀ q, (f q).count = q.count) :
    u.unlisted = s.unlisted := by
  unfold State.unlisted
  rw [items, List.countP_map]
  refine congrArg (fun p => s.items.countP p) (funext fun q => ?_)
  rw [Function.comp, counts]

theorem judgeProvisional_unlisted : (judgeProvisional c r s).state.unlisted = s.unlisted := by
  by_cases here : r.foundIn = some c.sec
  · rw [judgeProvisional_of_here here]
    exact State.unlisted_of_counts _ (s.modItem_items _ _) fun q => by split <;> rfl
  · rw [judgeProvisional_of_elsewhere here]
    exact State.unlisted_of_counts _ ((State.bumpWhere_items _ _).trans (State.moved_items _ _))
      fun q => by split <;> rfl

/-- A home item of another section, seen again there (R80). -/
theorem judgeForeign_of_again {H : SecId} (again : r.count = .elsewhere ∧ r.foundIn = some c.sec) :
    judgeForeign c H r s =
      ⟨if r.newConflict then ((s.modItem r.tag Item.sighted).markConflict r c.sec).bump H
        else (s.modItem r.tag Item.sighted).markConflict r c.sec,
        { Sighting.plain r.tag .repeated (some H) with loan := r.circ = some .loan }⟩ :=
  if_pos again

/-- What a re-sighting makes of the state, at home or as a stray (R80, R82). -/
structure SeenAgain (s u : State) (S H : SecId) (r : Item) : Prop where
  item : ∀ t', u.item? t' = if t' = r.tag then
      some { r with
        sight := min 15 (r.sight + 1), conflict := r.conflict || decide (r.circ = some .loan) }
    else s.item? t'
  sec : ∀ X, u.sec X = { s.sec X with
    attention := (s.sec X).attention || (r.newConflict && decide (X = S))
    generation := (s.sec X).generation + if r.newConflict = true ∧ X = H then 1 else 0 }
  contexts : u.contexts = s.contexts
  events : u.events = { s.events with
    raw := s.events.raw |||
      if r.newConflict && !(s.sec S).attention then EventKind.attention.set else 0 }

theorem Item.conflict_or_new (r : Item) :
    (r.conflict || r.newConflict) = (r.conflict || decide (r.circ = some .loan)) := by
  unfold Item.newConflict
  cases r.conflict <;> simp

theorem State.seenAgain (found : s.item? r.tag = some r) (S H : SecId) :
    SeenAgain s (if r.newConflict then ((s.modItem r.tag Item.sighted).markConflict r S).bump H
      else (s.modItem r.tag Item.sighted).markConflict r S) S H r := by
  have item (t' : Tag) : ((s.modItem r.tag Item.sighted).markConflict r S).item? t' =
      if t' = r.tag then some { r with
        sight := min 15 (r.sight + 1), conflict := r.conflict || decide (r.circ = some .loan) }
      else s.item? t' := by
    rw [State.item_markConflict, State.item_modItem _ _ _ Item.sighted_tag]
    by_cases h : t' = r.tag
    · subst h
      rw [if_pos rfl, if_pos rfl, found, ← Item.conflict_or_new]
      simp [Item.sighted, Config.maxSight]
    · simp [h]
  have sec (X : SecId) : ((s.modItem r.tag Item.sighted).markConflict r S).sec X =
      { s.sec X with attention := (s.sec X).attention || (r.newConflict && decide (X = S)) } :=
    State.sec_markConflict _ r S X
  have events := State.markConflict_events (s.modItem r.tag Item.sighted) r S
  split
  next newly =>
    refine ⟨fun t' => item t', fun X => ?_, by simp, events⟩
    rw [State.sec_bump, sec, sec, newly]
    by_cases h : X = H
    · subst h; simp
    · simp [h]
  next known =>
    refine ⟨item, fun X => ?_, by simp, events⟩
    rw [sec]
    simp [known]

/-- A home item found in another section: it moves there (R79, R81). -/
theorem judgeForeign_of_found {H : SecId}
    (new : ¬ (r.count = .elsewhere ∧ r.foundIn = some c.sec)) :
    judgeForeign c H r s =
      ⟨((s.moved c.sec r fun q => { q.sighted with
          moved := q.moved || r.count.isFound
          count := .elsewhere
          found := some ⟨c.sec, c.cursor, s.clock⟩
          prior := none }).markConflict r c.sec).bumpWhere
          fun X => X = c.sec || X = H || some X = r.chainSec,
        { Sighting.plain r.tag .foreign (some H) with loan := r.circ = some .loan }⟩ :=
  if_neg new

/-- What the finding of a home item in another section makes of the state (R79, R81, R89). -/
structure Strayed (s u : State) (c : Context) (H : SecId) (r : Item) : Prop where
  item : ∀ t', u.item? t' = if t' = r.tag then
      some { r with
        count := .elsewhere
        found := some ⟨c.sec, c.cursor, s.clock⟩
        prior := none
        sight := min 15 (r.sight + 1)
        moved := r.moved || r.count.isFound
        conflict := r.conflict || decide (r.circ = some .loan) }
    else s.item? t'
  sec : ∀ X, u.sec X = { s.sec X with
    chain := (if r.chainSec = some X then (s.sec X).chain.filter fun u => u ≠ r.tag
      else (s.sec X).chain) ++ if X = c.sec then [r.tag] else []
    attention := (s.sec X).attention || decide (X = c.sec)
    generation := (s.sec X).generation +
      if X = c.sec ∨ X = H ∨ r.chainSec = some X then 1 else 0 }
  ctx : ∀ y, u.ctx y = (s.leavePlace r).ctx y
  events : u.events = { s.events with
    raw := s.events.raw ||| if (s.sec c.sec).attention then 0 else EventKind.attention.set }

theorem judgeForeign_strayed {H : SecId} (found : s.item? r.tag = some r)
    (new : ¬ (r.count = .elsewhere ∧ r.foundIn = some c.sec)) :
    Strayed s (judgeForeign c H r s).state c H r := by
  rw [judgeForeign_of_found new]
  refine ⟨fun t' => ?_, fun X => ?_, fun y => ?_, ?_⟩
  · rw [State.bumpWhere_item_eq, State.item_markConflict, State.item_moved]
    case hf => exact fun _ => rfl
    by_cases h : t' = r.tag
    · subst h
      rw [if_pos rfl, if_pos rfl, found, ← Item.conflict_or_new]
      simp [Item.sighted, Config.maxSight]
    · simp [h]
  · rw [State.sec_bumpWhere, State.sec_markConflict, State.sec_moved]
    have bumps : (decide (X = c.sec) || decide (X = H) || decide (some X = r.chainSec)) = true ↔
        X = c.sec ∨ X = H ∨ r.chainSec = some X := by
      simp only [Bool.or_eq_true, decide_eq_true_eq, or_assoc, eq_comm (a := some X)]
    have attends : (decide (X = c.sec) || r.newConflict && decide (X = c.sec)) =
        decide (X = c.sec) := by cases r.newConflict <;> simp
    by_cases h : X = c.sec ∨ X = H ∨ r.chainSec = some X
    · rw [if_pos (bumps.mpr h), if_pos h]; simp [Bool.or_assoc, attends]
    · rw [if_neg (mt bumps.mp h), if_neg h]; simp [Bool.or_assoc, attends]
  · rw [State.bumpWhere_ctx_eq, State.ctx_of_contexts (State.markConflict_contexts _ _ _),
      State.ctx_moved]
  · rw [State.bumpWhere_events, State.markConflict_events, State.sec_moved, State.moved_events]
    simp

/-- What the finding of a provisional record in another section makes of the state (R78, R79). -/
structure Wandered (s u : State) (c : Context) (r : Item) : Prop where
  item : ∀ t', u.item? t' = if t' = r.tag then
      some { r with
        found := some ⟨c.sec, c.cursor, s.clock⟩
        sight := min 15 (r.sight + 1)
        moved := true }
    else s.item? t'
  sec : ∀ X, u.sec X = { s.sec X with
    chain := (if r.chainSec = some X then (s.sec X).chain.filter fun u => u ≠ r.tag
      else (s.sec X).chain) ++ if X = c.sec then [r.tag] else []
    attention := (s.sec X).attention || decide (X = c.sec)
    generation := (s.sec X).generation + if X = c.sec ∨ r.chainSec = some X then 1 else 0 }
  ctx : ∀ y, u.ctx y = (s.leavePlace r).ctx y
  contexts : r.count ≠ .held → u.contexts = s.contexts
  events : u.events = { s.events with
    raw := s.events.raw ||| if (s.sec c.sec).attention then 0 else EventKind.attention.set }

theorem judgeProvisional_wandered (found : s.item? r.tag = some r)
    (elsewhere : r.foundIn ≠ some c.sec) : Wandered s (judgeProvisional c r s).state c r := by
  rw [judgeProvisional_of_elsewhere elsewhere]
  refine ⟨fun t' => ?_, fun X => ?_, fun y => ?_, fun free => ?_, ?_⟩
  · rw [State.bumpWhere_item_eq, State.item_moved]
    case hf => exact fun _ => rfl
    split
    · rw [found]; rfl
    · rfl
  · rw [State.sec_bumpWhere, State.sec_moved]
    have bumps : (decide (X = c.sec) || decide (some X = r.chainSec)) = true ↔
        X = c.sec ∨ r.chainSec = some X := by
      simp only [Bool.or_eq_true, decide_eq_true_eq, eq_comm (a := some X)]
    by_cases h : X = c.sec ∨ r.chainSec = some X
    · rw [if_pos (bumps.mpr h), if_pos h]
    · rw [if_neg (mt bumps.mp h), if_neg h]; simp
  · rw [State.bumpWhere_ctx_eq, State.ctx_moved]
  · rw [State.bumpWhere_contexts, State.moved, State.attend_contexts]
    exact s.contexts_leavePlace free
  · rw [State.bumpWhere_events, State.moved_events]

theorem Item.chainSec_of_unlisted (h : r.count = .unlisted) : r.chainSec = r.foundIn :=
  if_pos (.inr h)

theorem Item.chainSec_eq_some (h : r.count ≠ .unlisted) (X : SecId) :
    r.chainSec = some X ↔ r.count = .elsewhere ∧ r.foundIn = some X := by
  unfold Item.chainSec
  by_cases stray : r.count = .elsewhere
  · simp [stray]
  · simp [stray, h]

theorem CountState.isFound_eq (k : CountState) : k.isFound =
    decide (k = .held ∨ k = .inPlace ∨ k = .disordered ∨ k = .elsewhere) := by
  cases k <;> rfl

/-- The chain of a section that a record leaves, or whose tail it joins. -/
theorem chain_of_moved {X S : SecId} {F : Option SecId} (h : F ≠ some S)
    (chain : List Tag) (t : Tag) :
    ((if F = some X then chain.filter fun u => u ≠ t else chain) ++ if X = S then [t] else []) =
      if X = S then chain ++ [t]
      else if F = some X then chain.filter fun u => u ≠ t else chain := by
  by_cases hX : X = S
  · subst hX; rw [if_neg h, if_pos rfl, if_pos rfl]
  · rw [if_neg hX, if_neg hX, List.append_nil]

end Judgements

/-- Settles O27. -/
theorem unknownTagCreatesAProvisionalRecord : Obligations.UnknownTagCreatesAProvisionalRecord := by
  unfold Obligations.UnknownTagCreatesAProvisionalRecord
  refine ⟨fun x c t s walk marker new => ?_, fun x c t r s walk marker found home => ?_⟩
  · rw [judge_unknown walk marker new]
    refine ⟨fun full => if_pos full, fun room => ?_⟩
    refine ⟨(judgeUnknown c t s).state, ?_, ?_, ?_, fun t' other => ?_, ?_, ?_,
      fun S other => ?_, ?_⟩
    · rw [judgeUnknown_of_room room]
    · exact (judgeUnknown_kept c t).eq_of_contexts (judgeUnknown_same s c t) judgeUnknown_contexts
    · rw [item_judgeUnknown new room, if_pos rfl]; rfl
    · rw [item_judgeUnknown new room, if_neg other]
    · rw [judgeUnknown_of_room room]
      have added := s.unlisted_addItem (provisional t c.sec c.cursor s.clock)
      refine .trans ?_ added
      unfold State.unlisted
      simp
    · rw [sec_judgeUnknown room, if_pos rfl]
    · rw [sec_judgeUnknown room, if_neg other]
    · exact judgeUnknown_events room
  · obtain rfl := s.item_tag found
    rw [judge_provisional walk marker found home]
    refine ⟨fun here => ?_, fun unlisted elsewhere => ?_⟩
    · rw [judgeProvisional_of_here here]
      have item := s.item_modItem r.tag Item.sighted Item.sighted_tag
      refine ⟨_, rfl, rfl, ?_, fun t' other => ?_⟩
      · rw [item, if_pos rfl, found]; rfl
      · rw [item, if_neg other]
    · have free : r.count ≠ .held := fun h => by rw [h] at unlisted; cases unlisted
      obtain ⟨item, sec, -, contexts, events⟩ := judgeProvisional_wandered found elsewhere
      refine ⟨(judgeProvisional c r s).state, ?_,
        (judgeProvisional_kept c r).eq_of_contexts (judgeProvisional_same s c r)
          (contexts free), ?_,
        fun t' other => ?_, judgeProvisional_unlisted, fun X => ?_, events⟩
      · rw [judgeProvisional_of_elsewhere elsewhere]
      · rw [item, if_pos rfl]
      · rw [item, if_neg other]
      · rw [sec, r.chainSec_of_unlisted unlisted, chain_of_moved elsewhere]

/-- Settles O28. -/
theorem foreignFindingMakesAStray : Obligations.ForeignFindingMakesAStray := by
  unfold Obligations.ForeignFindingMakesAStray
  intro x c t r H s walk marker found home other listed
  obtain rfl := s.item_tag found
  rw [judge_foreign walk marker found home other]
  have chain := r.chainSec_eq_some listed
  refine ⟨_, rfl, fun t' another => ?_, fun stray here newly newly_iff => ?_, fun new => ?_⟩
  · by_cases again : r.count = .elsewhere ∧ r.foundIn = some c.sec
    · rw [judgeForeign_of_again again, (State.seenAgain found c.sec H).item, if_neg another]
    · rw [(judgeForeign_strayed found again).item, if_neg another]
  · obtain rfl : newly = r.newConflict := by
      rw [Bool.eq_iff_iff, newly_iff]
      simp [Item.newConflict]
    obtain ⟨item, sec, contexts, events⟩ := State.seenAgain found c.sec H
    have eq := (judgeForeign_kept c H r).eq_of_contexts (judgeForeign_same s c H r)
    rw [judgeForeign_of_again ⟨stray, here⟩] at eq ⊢
    refine ⟨rfl, eq contexts, ?_, sec, events⟩
    rw [item, if_pos rfl]
  · obtain ⟨item, sec, ctx, events⟩ := judgeForeign_strayed (H := H) found new
    refine ⟨by rw [judgeForeign_of_found new]; rfl,
      (judgeForeign_kept c H r).eq (judgeForeign_same s c H r), ?_, fun X => ?_, events,
        fun y => ?_⟩
    · rw [item, if_pos rfl, CountState.isFound_eq]
    · have elsewhere : r.chainSec ≠ some c.sec := mt (chain c.sec).mp new
      rw [sec, chain_of_moved elsewhere]
      simp only [chain X]
    · rw [ctx, s.ctx_leavePlace, home, Option.bind_some]

end Sys2Proof.Machine

/-! # Proofs: items at home (4.5) -/

namespace Sys2Proof.Machine

/-! ### What becomes of the other items -/

/-- A record after the run of a walk is broken: an entry of it becomes DISORDERED (R86). -/
def Item.broken (run : List Tag) (q : Item) : Item :=
  if q.tag ∈ run then { q with count := .disordered, prior := none } else q

/-- A record after the cursor passes over some tags: an UNSEEN home item among them becomes PASSED
(R85, R87). -/
def Item.passed (S : SecId) (tags : List Tag) (q : Item) : Item :=
  if q.home = some S ∧ q.count = .unseen ∧ q.tag ∈ tags then { q with count := .passed } else q

/-- A record after a resync: an entry of the run becomes IN_PLACE (R85). -/
def Item.resynced (run : List Tag) (q : Item) : Item :=
  if q.tag ∈ run then { q with count := .inPlace, prior := none } else q

/-- A record found at home: it enters a count state with its found fields written (R83). -/
def Item.foundAt (c : Context) (clock : Nat) (st : CountState) (prior : Option CountState)
    (q : Item) : Item :=
  { q with count := st, found := some ⟨c.sec, c.cursor, clock⟩, prior := prior }

theorem Item.passed_tag (S : SecId) (tags : List Tag) (q : Item) :
    (q.passed S tags).tag = q.tag := by
  unfold Item.passed
  split <;> rfl

@[simp] theorem Item.broken_nil : Item.broken [] = id := by
  funext q
  simp [Item.broken]

section Placement
variable {s : State} {x : CtxId} {c : Context} {t : Tag}

theorem State.item_findAtHome (st : CountState) (prior : Option CountState) (t' : Tag) :
    (s.findAtHome c t st prior).item? t' =
      (s.item? t').map fun q => if t' = t then q.foundAt c s.clock st prior else q := by
  unfold State.findAtHome
  rw [State.item_modItem]
  case hf => exact fun _ => rfl
  split
  · subst_vars; rfl
  · simp

@[simp] theorem State.findAtHome_ctx_eq (st : CountState) (prior : Option CountState) (y : CtxId) :
    (s.findAtHome c t st prior).ctx y = s.ctx y := rfl

@[simp] theorem State.passItems_ctx_eq (S : SecId) (tags : List Tag) (y : CtxId) :
    (s.passItems S tags).ctx y = s.ctx y := rfl

theorem State.item_passItems (S : SecId) (tags : List Tag) (t' : Tag) :
    (s.passItems S tags).item? t' = (s.item? t').map (Item.passed S tags) := by
  unfold State.passItems
  rw [State.item_modItems]
  case hf => exact fun _ => rfl
  refine congrArg (fun f => Option.map f (s.item? t')) (funext fun q => ?_)
  simp [Item.passed, Item.isHomeOf, and_assoc]

theorem State.item_resynced (run : List Tag) (t' : Tag) :
    (s.modItems (fun r => r.tag ∈ run) fun r =>
      { r with count := .inPlace, prior := none }).item? t' =
      (s.item? t').map (Item.resynced run) := by
  rw [State.item_modItems]
  case hf => exact fun _ => rfl
  refine congrArg (fun f => Option.map f (s.item? t')) (funext fun q => ?_)
  simp [Item.resynced]

/-! ### What a placement does -/

/-- A fresh home item placed: the state and the flags that `p` gives, the item entering `st`, the
other records changed by `others`, and the walk left as `d`. -/
structure Placing (s : State) (x : CtxId) (c : Context) (t : Tag) (p : Placed) (st : CountState)
    (prior : Option CountState) (others : Item → Item) (d : Context) (attends reached : Bool) :
    Prop where
  item : ∀ t', p.state.item? t' = (s.item? t').map fun q =>
    if t' = t then q.foundAt c s.clock st prior else others q
  sec : ∀ X, p.state.sec X =
    { s.sec X with attention := (s.sec X).attention || (attends && decide (X = c.sec)) }
  ctx : ∀ y, p.state.ctx y = if y = x then some d else s.ctx y
  events : p.state.events = { s.events with
    raw := s.events.raw |||
      (if attends && !(s.sec c.sec).attention then EventKind.attention.set else 0) |||
      if reached then EventKind.markReached.set else 0 }
  mark : p.mark = reached

/-- Step B at or ahead of the cursor, within the tolerance (R87). -/
theorem stepB_near (walk : s.ctx x = some c) (prior : CountState) (broken : Bool)
    (ahead : c.cursor ≤ s.ordinal c.sec t)
    (near : s.ordinal c.sec t - c.cursor ≤ (s.sec c.sec).tolerance) :
    ∃ p, stepB x c t prior broken s = p ∧ p.verdict = .inPlace ∧ p.broken = broken ∧
      Placing s x c t p .inPlace none
        (Item.passed c.sec (s.span c.sec c.cursor (s.ordinal c.sec t)))
        { c with
          cursor := s.ordinal c.sec t + 1
          markHit := c.markHit || s.reaches c (s.ordinal c.sec t + 1) }
        false (s.reaches c (s.ordinal c.sec t + 1)) := by
  refine ⟨_, rfl, ?_⟩
  unfold stepB
  simp only [ahead, near, if_true]
  refine ⟨trivial, trivial, fun t' => ?_, fun X => ?_, fun y => ?_, ?_, rfl⟩
  · rw [State.item_of_items (State.raiseCursor_items _ _ _ _), State.item_passItems,
      State.item_findAtHome, Option.map_map]
    refine congrArg (fun f => Option.map f (s.item? t')) (funext fun q => ?_)
    rw [Function.comp]
    split
    · exact if_neg fun h => by simp [Item.foundAt] at h
    · rfl
  · rw [State.sec_raiseCursor]
    simp [State.passItems, State.findAtHome]
  · have walk' : ((s.findAtHome c t .inPlace none).passItems c.sec
        (s.span c.sec c.cursor (s.ordinal c.sec t))).ctx x = some c := walk
    rw [State.ctx_raiseCursor walk']
    rfl
  · rw [State.raiseCursor_events]
    simp [State.passItems, State.findAtHome]
    rfl

/-- Step B ahead of the cursor, beyond the tolerance: the item starts a run (R87). -/
theorem stepB_far (walk : s.ctx x = some c) (prior : CountState) (broken : Bool)
    (ahead : c.cursor ≤ s.ordinal c.sec t)
    (far : (s.sec c.sec).tolerance < s.ordinal c.sec t - c.cursor) :
    ∃ p, stepB x c t prior broken s = p ∧ p.verdict = .pending ∧ p.broken = broken ∧
      Placing s x c t p .held (some prior) id { c with run := [t] } false false := by
  refine ⟨_, rfl, ?_⟩
  unfold stepB
  simp only [ahead, Nat.not_le.mpr far, if_true, if_false]
  refine ⟨trivial, trivial, fun t' => ?_, fun X => ?_, fun y => ?_, ?_, rfl⟩
  · rw [State.modCtx_item_eq, State.item_findAtHome]
    rfl
  · simp [State.findAtHome]
  · rw [State.ctx_modCtx, show (s.findAtHome c t .held (some prior)).ctx = s.ctx from rfl, walk]
    rfl
  · simp [State.findAtHome]

/-- Step B behind the cursor, within the tolerance: a late find (R88). -/
theorem stepB_late (walk : s.ctx x = some c) (prior : CountState) (broken : Bool)
    (behind : s.ordinal c.sec t < c.cursor)
    (late : c.cursor - 1 - s.ordinal c.sec t ≤ (s.sec c.sec).tolerance) :
    ∃ p, stepB x c t prior broken s = p ∧ p.verdict = .inPlace ∧ p.broken = broken ∧
      Placing s x c t p .inPlace none id c false false := by
  refine ⟨_, rfl, ?_⟩
  unfold stepB
  simp only [Nat.not_le.mpr behind, late, if_true, if_false]
  refine ⟨trivial, trivial, fun t' => State.item_findAtHome _ _ t', fun X => ?_, fun y =>
    ?_, ?_, rfl⟩
  · simp [State.findAtHome]
  · show s.ctx y = _
    split
    · subst_vars; exact walk
    · rfl
  · simp [State.findAtHome]

/-- Step B further behind the cursor: DISORDERED (R88). -/
theorem stepB_disordered (walk : s.ctx x = some c) (prior : CountState) (broken : Bool)
    (behind : s.ordinal c.sec t < c.cursor)
    (back : (s.sec c.sec).tolerance < c.cursor - 1 - s.ordinal c.sec t) :
    ∃ p, stepB x c t prior broken s = p ∧ p.verdict = .disordered ∧ p.broken = broken ∧
      Placing s x c t p .disordered none id c true false := by
  refine ⟨_, rfl, ?_⟩
  unfold stepB
  simp only [Nat.not_le.mpr behind, Nat.not_le.mpr back, if_false]
  refine ⟨trivial, trivial, fun t' => ?_, fun X => ?_, fun y => ?_, ?_, rfl⟩
  · rw [State.attend_item_eq, State.item_findAtHome]; rfl
  · rw [State.sec_attend_or]; rfl
  · rw [State.attend_ctx_eq]
    show s.ctx y = _
    split
    · subst_vars; exact walk
    · rfl
  · rw [State.attend_events]
    cases h : (s.sec c.sec).attention <;>
      simp [h, State.findAtHome]

/-- Step A while the run stays below the resync length (R84). -/
theorem continueRun_pending (walk : s.ctx x = some c) (prior : CountState)
    (short : c.run.length + 1 < s.settings.resyncLength) :
    ∃ p, continueRun x c t prior s = p ∧ p.verdict = .pending ∧ p.broken = false ∧
      Placing s x c t p .held (some prior) id { c with run := c.run ++ [t] } false false := by
  refine ⟨_, rfl, ?_⟩
  unfold continueRun
  simp only [List.length_append, List.length_singleton, short, if_true]
  refine ⟨trivial, trivial, fun t' => ?_, fun X => ?_, fun y => ?_, ?_, rfl⟩
  · rw [State.modCtx_item_eq, State.item_findAtHome]
    rfl
  · simp [State.findAtHome]
  · rw [State.ctx_modCtx, show (s.findAtHome c t .held (some prior)).ctx = s.ctx from rfl, walk]
    rfl
  · simp [State.findAtHome]

/-- A record that joins the run and is resynced with it at once. -/
theorem Item.resynced_foundAt {run tags : List Tag} {q : Item} {clock : Nat} {prior : CountState}
    (stands : q.tag ∈ run) :
    (((q.foundAt c clock .held (some prior)).passed c.sec tags).resynced run) =
      q.foundAt c clock .inPlace none := by
  have held : (q.foundAt c clock .held (some prior)).passed c.sec tags =
      q.foundAt c clock .held (some prior) := if_neg fun h => by simp [Item.foundAt] at h
  rw [held]
  exact if_pos stands

theorem Item.resynced_append {run : List Tag} {q : Item} (other : q.tag ≠ t) :
    q.resynced (run ++ [t]) = q.resynced run := by
  unfold Item.resynced
  simp [other]

/-- Step A when the run reaches the resync length: it is accepted as the new position (R85). -/
theorem continueRun_resync (walk : s.ctx x = some c) (prior : CountState)
    (long : s.settings.resyncLength ≤ c.run.length + 1) :
    ∃ p, continueRun x c t prior s = p ∧ p.verdict = .resync ∧ p.broken = false ∧
      Placing s x c t p .inPlace none
        (fun q => (q.passed c.sec (s.span c.sec c.cursor (s.ordinal c.sec t + 1))).resynced c.run)
        { c with
          cursor := s.ordinal c.sec t + 1
          run := []
          markHit := c.markHit || s.reaches c (s.ordinal c.sec t + 1) }
        false (s.reaches c (s.ordinal c.sec t + 1)) := by
  refine ⟨_, rfl, ?_⟩
  unfold continueRun
  simp only [List.length_append, List.length_singleton, Nat.not_lt.mpr long, if_false]
  unfold resync
  refine ⟨rfl, rfl, fun t' => ?_, fun X => ?_, fun y => ?_, ?_, rfl⟩
  · rw [State.item_of_items (State.raiseCursor_items _ _ _ _), State.modCtx_item_eq,
      State.item_resynced, State.item_passItems, State.modCtx_item_eq, State.item_findAtHome,
      Option.map_map, Option.map_map]
    cases found : s.item? t' with
    | none => rfl
    | some q =>
      have tag := s.item_tag found
      refine congrArg some ?_
      simp only [Function.comp]
      split
      next same =>
        exact Item.resynced_foundAt (List.mem_append_right _
          (by rw [tag, same]; exact List.mem_singleton_self t))
      next other =>
        exact Item.resynced_append (by rw [Item.passed_tag, tag]; exact other)
  · rw [State.sec_raiseCursor]
    simp [State.passItems, State.findAtHome]
  · rw [State.ctx_raiseCursor (d := { c with run := [] })]
    · by_cases h : y = x
      · rw [if_pos h, if_pos h]; rfl
      · simp [h]
    · simp [walk]
  · rw [State.raiseCursor_events]
    simp [State.passItems, State.findAtHome]
    rfl

end Placement

end Sys2Proof.Machine

/-! # Proofs: an item judged afresh at home (R83 to R90) -/

namespace Sys2Proof.Machine

section Fresh
variable {s u : State} {x : CtxId} {c : Context} {t : Tag} {r : Item}

/-! ### A broken run (R86) -/

/-- `u` is `s` with the run of a walk gone: its entries DISORDERED, and attention set if it broke.
With an empty run nothing is different. -/
structure Broke (s u : State) (x : CtxId) (c : Context) (b : Bool) : Prop where
  item : ∀ t', u.item? t' = (s.item? t').map (Item.broken c.run)
  sec : ∀ X, u.sec X = { s.sec X with attention := (s.sec X).attention ||
    (b && decide (X = c.sec)) }
  ctx : ∀ y, u.ctx y = if y = x then some { c with run := [] } else s.ctx y
  clock : u.clock = s.clock
  events : u.events = { s.events with
    raw := s.events.raw |||
      if b && !(s.sec c.sec).attention then EventKind.attention.set else 0 }

theorem Broke.of_empty (walk : s.ctx x = some c) (empty : c.run = []) : Broke s s x c false where
  item t' := by rw [empty, Item.broken_nil]; simp
  sec X := by simp
  ctx y := by
    split
    · subst_vars; rw [walk, ← empty]
    · rfl
  clock := rfl
  events := by simp

theorem State.item_breakRun (t' : Tag) :
    (s.breakRun x c).item? t' = (s.item? t').map (Item.broken c.run) := by
  unfold State.breakRun
  rw [State.attend_item_eq, State.modCtx_item_eq, State.item_modItems]
  case hf => exact fun _ => rfl
  refine congrArg (fun f => Option.map f (s.item? t')) (funext fun q => ?_)
  simp [Item.broken]

theorem Broke.of_breakRun (walk : s.ctx x = some c) : Broke s (s.breakRun x c) x c true where
  item := State.item_breakRun
  sec X := by
    unfold State.breakRun
    rw [State.sec_attend_or]
    simp
  ctx y := by
    unfold State.breakRun
    rw [State.attend_ctx_eq, State.ctx_modCtx, State.modItems_ctx_eq, State.modItems_ctx_eq, walk]
    rfl
  clock := (s.breakRun_same x c).clock
  events := by
    unfold State.breakRun
    rw [State.attend_events]
    cases h : (s.sec c.sec).attention <;> simp [h]

theorem Broke.ordinal {b : Bool} (h : Broke s u x c b) (S : SecId) (t : Tag) :
    u.ordinal S t = s.ordinal S t :=
  State.ordinal_of_sec (by rw [h.sec]) t

theorem Broke.span {b : Bool} (h : Broke s u x c b) (S : SecId) (lo hi : Nat) :
    u.span S lo hi = s.span S lo hi :=
  State.span_of_sec (by rw [h.sec]) lo hi

theorem Broke.tolerance {b : Bool} (h : Broke s u x c b) (S : SecId) :
    (u.sec S).tolerance = (s.sec S).tolerance := by rw [h.sec]

theorem Broke.reaches {b : Bool} (h : Broke s u x c b) (new : Nat) :
    u.reaches { c with run := [] } new = s.reaches c new := by
  unfold State.reaches
  simp only [h.sec]

theorem Item.foundAt_broken (run : List Tag) (clock : Nat) (st : CountState)
    (prior : Option CountState) (q : Item) :
    (q.broken run).foundAt c clock st prior = q.foundAt c clock st prior := by
  unfold Item.broken
  split <;> rfl

/-- A placement after a run is gone, seen from before. -/
theorem Broke.placing {b : Bool} (h : Broke s u x c b) {p : Placed} {st : CountState}
    {prior : Option CountState} {others : Item → Item} {d : Context} {attends reached : Bool}
    (k : Placing u x { c with run := [] } t p st prior others d attends reached) :
    Placing s x c t p st prior (fun q => others (q.broken c.run)) d (b || attends) reached where
  item t' := by
    rw [k.item, h.item, Option.map_map, h.clock]
    refine congrArg (fun f => Option.map f (s.item? t')) (funext fun q => ?_)
    simp only [Function.comp]
    split
    · exact Item.foundAt_broken _ _ _ _ q
    · rfl
  sec X := by
    rw [k.sec, h.sec]
    simp only [Bool.and_or_distrib_right, Bool.or_assoc]
  ctx y := by
    rw [k.ctx, h.ctx]
    split
    · rfl
    · rfl
  events := by
    rw [k.events, h.events, h.sec]
    cases (s.sec c.sec).attention <;> cases b <;> cases attends <;> simp [BitVec.or_assoc]
  mark := k.mark

/-! ### Step A or Step B (R83, R84, R86) -/

/-- The item continues the run: it stands behind its last entry, within the tolerance (R84). -/
def State.Continues (s : State) (c : Context) (t : Tag) : Prop :=
  ∃ last, c.run.getLast? = some last ∧ s.ordinal c.sec last < s.ordinal c.sec t ∧
    s.ordinal c.sec t ≤ s.ordinal c.sec last + (s.sec c.sec).tolerance + 1

theorem placeFresh_continues (continues : s.Continues c t) (prior : CountState) :
    placeFresh x c t prior s = continueRun x c t prior s := by
  obtain ⟨last, stands, behind, near⟩ := continues
  unfold placeFresh
  rw [stands]
  exact if_pos ⟨behind, near⟩

/-- An item that does not continue the run goes to Step B, the run gone. -/
theorem placeFresh_stepB (walk : s.ctx x = some c) (breaks : ¬ s.Continues c t)
    (prior : CountState) :
    ∃ u, Broke s u x c (decide (c.run ≠ [])) ∧
      placeFresh x c t prior s = stepB x { c with run := [] } t prior (decide (c.run ≠ [])) u := by
  unfold placeFresh
  cases last : c.run.getLast? with
  | none =>
    have empty : c.run = [] := List.getLast?_eq_none_iff.mp last
    refine ⟨s, by simpa [empty] using Broke.of_empty walk empty, ?_⟩
    simp only [empty, ne_eq, not_true_eq_false, decide_false]
    rw [← empty]
  | some l =>
    have standing : c.run ≠ [] := fun h => by rw [h] at last; cases last
    refine ⟨s.breakRun x c, by simpa [standing] using Broke.of_breakRun walk, ?_⟩
    simp only [standing, ne_eq, not_false_eq_true, decide_true]
    exact if_neg fun near => breaks ⟨l, last, near⟩

/-! ### The judgement -/

/-- What the judgement of a fresh home item makes of the state: the item entering `st`, the other
records changed by `others`, and the walk left as `d`. -/
structure FreshlyFound (s u : State) (x : CtxId) (c : Context) (r : Item) (st : CountState)
    (prior : Option CountState) (others : Item → Item) (d : Context) (attends reached : Bool) :
    Prop where
  item : u.item? r.tag = some (r.foundAtHome c s.clock st prior)
  others : ∀ t', t' ≠ r.tag → u.item? t' = (s.item? t').map others
  sec : SectionsAfterFinding s c.sec r attends u
  ctx : ∀ y, u.ctx y = if y = x then some d else s.ctx y
  events : u.events = { s.events with
    raw := s.events.raw |||
      (if attends && !(s.sec c.sec).attention then EventKind.attention.set else 0) |||
      if reached then EventKind.markReached.set else 0 }

/-- The state in which a fresh home item is placed: withdrawn from its chain, and sighted (R83). -/
def State.sightedFresh (s : State) (r : Item) : State :=
  (s.leavePlace r).modItem r.tag fun q =>
    { q.sighted with moved := q.moved || decide (r.count = .elsewhere) }

/-- The prior state of a fresh item that enters HELD: UNSEEN for a stray (R83). -/
def Item.freshPrior (r : Item) : CountState := if r.count = .elsewhere then .unseen else r.count

theorem State.sec_sightedFresh (X : SecId) : (s.sightedFresh r).sec X =
    { s.sec X with
      chain := if r.chainSec = some X then (s.sec X).chain.filter fun t => t ≠ r.tag
        else (s.sec X).chain } := s.sec_leavePlace r X

theorem State.ordinal_sightedFresh (S : SecId) (t : Tag) :
    (s.sightedFresh r).ordinal S t = s.ordinal S t :=
  State.ordinal_of_sec (by rw [State.sec_sightedFresh]) t

theorem State.span_sightedFresh (S : SecId) (lo hi : Nat) :
    (s.sightedFresh r).span S lo hi = s.span S lo hi :=
  State.span_of_sec (by rw [State.sec_sightedFresh]) lo hi

theorem State.tolerance_sightedFresh (S : SecId) :
    ((s.sightedFresh r).sec S).tolerance = (s.sec S).tolerance := by
  rw [State.sec_sightedFresh]

theorem State.reaches_sightedFresh (new : Nat) :
    (s.sightedFresh r).reaches c new = s.reaches c new := by
  unfold State.reaches
  rw [State.sec_sightedFresh]

theorem State.ctx_sightedFresh (free : r.count ≠ .held) (y : CtxId) :
    (s.sightedFresh r).ctx y = s.ctx y := by
  unfold State.sightedFresh
  rw [State.modItem_ctx_eq, State.ctx_of_contexts (s.contexts_leavePlace free)]

theorem State.continues_sightedFresh : (s.sightedFresh r).Continues c t ↔ s.Continues c t := by
  unfold State.Continues
  simp only [State.ordinal_sightedFresh, State.tolerance_sightedFresh]

theorem judgeFresh_eq : judgeFresh x c r s =
    ⟨((placeFresh x c r.tag r.freshPrior (s.sightedFresh r)).state.markConflict r c.sec).bumpWhere
        fun X => X = c.sec || some X = r.chainSec,
      ⟨r.tag, (placeFresh x c r.tag r.freshPrior (s.sightedFresh r)).verdict, false,
        decide (r.circ = some .loan), (placeFresh x c r.tag r.freshPrior (s.sightedFresh r)).mark,
        (placeFresh x c r.tag r.freshPrior (s.sightedFresh r)).broken, some c.sec⟩⟩ := rfl

/-- A judgement afresh at home, from its placement. -/
theorem Placing.freshlyFound (found : s.item? r.tag = some r) (free : r.count ≠ .held)
    (listed : r.count ≠ .unlisted) {st : CountState} {prior : Option CountState}
    {others : Item → Item} {d : Context} {attends reached : Bool} {p : Placed}
    (h : Placing (s.sightedFresh r) x c r.tag p st prior others d attends reached) :
    FreshlyFound s ((p.state.markConflict r c.sec).bumpWhere fun X =>
      X = c.sec || some X = r.chainSec) x c r st prior others d (attends ||
      r.newConflict) reached := by
  have item (t' : Tag) : (s.sightedFresh r).item? t' =
      if t' = r.tag then some { r.sighted with moved := r.moved || decide (r.count = .elsewhere) }
      else s.item? t' := by
    unfold State.sightedFresh
    rw [State.item_modItem]
    case hf => exact fun _ => rfl
    rw [State.item_of_items (s.leavePlace_items r),
      State.item_of_items (s.leavePlace_items r), found]
    rfl
  refine ⟨?_, fun t' other => ?_, fun X => ?_, fun y => ?_, ?_⟩
  · rw [State.bumpWhere_item_eq, State.item_markConflict, h.item, item, if_pos rfl, Option.map_some,
      Option.map_some, if_pos rfl, if_pos rfl,
      show (s.sightedFresh r).clock = s.clock from (s.leavePlace_same r).clock]
    refine congrArg some ?_
    unfold Item.foundAtHome
    rw [← Item.conflict_or_new]
    rfl
  · rw [State.bumpWhere_item_eq, State.item_markConflict, h.item, item]
    simp only [other, if_false, Option.map_map]
    rfl
  · have bumps : (decide (X = c.sec) || decide (some X = r.chainSec)) = true ↔
        X = c.sec ∨ (r.count = .elsewhere ∧ r.foundIn = some X) := by
      rw [← r.chainSec_eq_some listed]
      simp only [Bool.or_eq_true, decide_eq_true_eq, eq_comm (a := some X)]
    rw [State.sec_bumpWhere, State.sec_markConflict, h.sec, State.sec_sightedFresh]
    simp only [r.chainSec_eq_some listed, Bool.and_or_distrib_right, ← Bool.or_assoc]
    by_cases here : X = c.sec ∨ (r.count = .elsewhere ∧ r.foundIn = some X)
    · rw [if_pos (bumps.mpr here), if_pos here]
    · rw [if_neg (mt bumps.mp here), if_neg here]; simp
  · rw [State.bumpWhere_ctx_eq, State.ctx_of_contexts (State.markConflict_contexts _ _ _), h.ctx,
      State.ctx_sightedFresh free]
  · have attention : ((s.sightedFresh r).sec c.sec).attention = (s.sec c.sec).attention := by
      rw [State.sec_sightedFresh]
    have events : (s.sightedFresh r).events = s.events := by
      unfold State.sightedFresh
      rw [State.modItem_events, State.leavePlace_events]
    have masks (raw a m n : KindSet) : raw ||| a ||| m ||| n = raw ||| (a ||| n) ||| m := by ac_rfl
    rw [State.bumpWhere_events, State.markConflict_events, h.events, h.sec, attention, events]
    simp only [masks]
    cases (s.sec c.sec).attention <;> cases attends <;> cases r.newConflict <;> simp

end Fresh

end Sys2Proof.Machine

/-! # Proofs: the cases of an item judged afresh at home (R84 to R88) -/

namespace Sys2Proof.Machine

section Cases
variable {s : State} {x : CtxId} {c : Context} {r : Item}

/-- An item that a judgement at home takes afresh: one of the record's states but for a REPEAT, and
never UNLISTED (R82, R83). -/
structure Item.Fresh (r : Item) : Prop where
  free : r.count ≠ .held
  listed : r.count ≠ .unlisted

/-- A judgement afresh whose item does not continue the run, from Step B after the run is gone. -/
theorem judgeFresh_of_stepB (walk : s.ctx x = some c) (found : s.item? r.tag = some r)
    (fresh : r.Fresh)
    (breaks : ¬ s.Continues c r.tag) {verdict : Verdict} {st : CountState}
    {prior : Option CountState}
    {others : Item → Item} {d : Context} {attends reached : Bool}
    (step : ∀ v, Broke (s.sightedFresh r) v x c (decide (c.run ≠ [])) →
      ∃ p, stepB x { c with run := [] } r.tag r.freshPrior (decide (c.run ≠ [])) v = p ∧
        p.verdict = verdict ∧ p.broken = decide (c.run ≠ []) ∧
        Placing v x { c with run := [] } r.tag p st prior others d attends reached) :
    (judgeFresh x c r s).outcome = ⟨r.tag, verdict, false, decide (r.circ = some .loan), reached,
        decide (c.run ≠ []), some c.sec⟩ ∧
      FreshlyFound s (judgeFresh x c r s).state x c r st prior (fun q => others (q.broken c.run)) d
        (decide (c.run ≠ []) || attends || r.newConflict) reached := by
  have walk' : (s.sightedFresh r).ctx x = some c := by rw [State.ctx_sightedFresh fresh.free, walk]
  obtain ⟨v, broke, place⟩ :=
    placeFresh_stepB walk' (mt State.continues_sightedFresh.mp breaks) r.freshPrior
  obtain ⟨p, rfl, verdict_eq, broken_eq, placing⟩ := step v broke
  rw [judgeFresh_eq, place]
  refine ⟨?_, (broke.placing placing).freshlyFound found fresh.free fresh.listed⟩
  rw [verdict_eq, broken_eq, placing.mark]

section Run
variable {v : State} {b : Bool} (broke : Broke (s.sightedFresh r) v x c b)
include broke

theorem Broke.walk : v.ctx x = some { c with run := [] } := by rw [broke.ctx, if_pos rfl]

theorem Broke.ordinal_fresh (S : SecId) (t : Tag) : v.ordinal S t = s.ordinal S t :=
  (broke.ordinal S t).trans (State.ordinal_sightedFresh S t)

theorem Broke.span_fresh (S : SecId) (lo hi : Nat) : v.span S lo hi = s.span S lo hi :=
  (broke.span S lo hi).trans (State.span_sightedFresh S lo hi)

theorem Broke.tolerance_fresh (S : SecId) : (v.sec S).tolerance = (s.sec S).tolerance :=
  (broke.tolerance S).trans (State.tolerance_sightedFresh S)

theorem Broke.reaches_fresh (new : Nat) : v.reaches { c with run := [] } new = s.reaches c new :=
  (broke.reaches new).trans (State.reaches_sightedFresh new)

end Run

/-- At or ahead of the cursor, within the tolerance: IN_PLACE (R87). -/
theorem judgeFresh_near (walk : s.ctx x = some c) (found : s.item? r.tag = some r) (fresh : r.Fresh)
    (breaks : ¬ s.Continues c r.tag) (ahead : c.cursor ≤ s.ordinal c.sec r.tag)
    (near : s.ordinal c.sec r.tag - c.cursor ≤ (s.sec c.sec).tolerance) :
    (judgeFresh x c r s).outcome = ⟨r.tag, .inPlace, false, decide (r.circ = some .loan),
        s.reaches c (s.ordinal c.sec r.tag + 1), decide (c.run ≠ []), some c.sec⟩ ∧
      FreshlyFound s (judgeFresh x c r s).state x c r .inPlace none
        (fun q => (q.broken c.run).passed c.sec (s.span c.sec c.cursor (s.ordinal c.sec r.tag)))
        { c with
          cursor := s.ordinal c.sec r.tag + 1
          run := []
          markHit := c.markHit || s.reaches c (s.ordinal c.sec r.tag + 1) }
        (decide (c.run ≠ []) || r.newConflict) (s.reaches c (s.ordinal c.sec r.tag + 1)) := by
  have case := judgeFresh_of_stepB (verdict := .inPlace) (st := .inPlace) (prior := none)
    (others := Item.passed c.sec (s.span c.sec c.cursor (s.ordinal c.sec r.tag)))
    (d := { c with
          cursor := s.ordinal c.sec r.tag + 1
          run := []
          markHit := c.markHit || s.reaches c (s.ordinal c.sec r.tag + 1) })
    (attends := false) (reached := s.reaches c (s.ordinal c.sec r.tag + 1)) walk found fresh breaks
    fun v broke => by
      have step := stepB_near (t := r.tag) broke.walk r.freshPrior (decide (c.run ≠ []))
      simp only [broke.ordinal_fresh, broke.span_fresh, broke.tolerance_fresh,
        broke.reaches_fresh] at step
      exact step ahead near
  simpa using case

/-- Ahead of the cursor, beyond the tolerance: HELD, the first of a run (R87). -/
theorem judgeFresh_far (walk : s.ctx x = some c) (found : s.item? r.tag = some r) (fresh : r.Fresh)
    (breaks : ¬ s.Continues c r.tag) (ahead : c.cursor ≤ s.ordinal c.sec r.tag)
    (far : (s.sec c.sec).tolerance < s.ordinal c.sec r.tag - c.cursor) :
    (judgeFresh x c r s).outcome = ⟨r.tag, .pending, false, decide (r.circ = some .loan), false,
        decide (c.run ≠ []), some c.sec⟩ ∧
      FreshlyFound s (judgeFresh x c r s).state x c r .held (some r.freshPrior) (Item.broken c.run)
        { c with run := [r.tag] } (decide (c.run ≠ []) || r.newConflict) false := by
  have case := judgeFresh_of_stepB (verdict := .pending) (st := .held) (prior := some r.freshPrior)
    (others := id) (d := { c with run := [r.tag] }) (attends := false) (reached := false) walk found
    fresh breaks fun v broke => by
      have step := stepB_far (t := r.tag) broke.walk r.freshPrior (decide (c.run ≠ []))
      simp only [broke.ordinal_fresh, broke.tolerance_fresh] at step
      exact step ahead far
  simpa using case

/-- Behind the cursor, within the tolerance: a late find (R88). -/
theorem judgeFresh_late (walk : s.ctx x = some c) (found : s.item? r.tag = some r) (fresh : r.Fresh)
    (breaks : ¬ s.Continues c r.tag) (behind : s.ordinal c.sec r.tag < c.cursor)
    (late : c.cursor - 1 - s.ordinal c.sec r.tag ≤ (s.sec c.sec).tolerance) :
    (judgeFresh x c r s).outcome = ⟨r.tag, .inPlace, false, decide (r.circ = some .loan), false,
        decide (c.run ≠ []), some c.sec⟩ ∧
      FreshlyFound s (judgeFresh x c r s).state x c r .inPlace none (Item.broken c.run)
        { c with run := [] } (decide (c.run ≠ []) || r.newConflict) false := by
  have case := judgeFresh_of_stepB (verdict := .inPlace) (st := .inPlace) (prior := none)
    (others := id) (d := { c with run := [] }) (attends := false) (reached := false) walk found
    fresh breaks fun v broke => by
      have step := stepB_late (t := r.tag) broke.walk r.freshPrior (decide (c.run ≠ []))
      simp only [broke.ordinal_fresh, broke.tolerance_fresh] at step
      exact step behind late
  simpa using case

/-- Further behind the cursor: DISORDERED (R88). -/
theorem judgeFresh_disordered (walk : s.ctx x = some c) (found : s.item? r.tag = some r)
    (fresh : r.Fresh) (breaks : ¬ s.Continues c r.tag) (behind : s.ordinal c.sec r.tag < c.cursor)
    (back : (s.sec c.sec).tolerance < c.cursor - 1 - s.ordinal c.sec r.tag) :
    (judgeFresh x c r s).outcome = ⟨r.tag, .disordered, false, decide (r.circ = some .loan), false,
        decide (c.run ≠ []), some c.sec⟩ ∧
      FreshlyFound s (judgeFresh x c r s).state x c r .disordered none (Item.broken c.run)
        { c with run := [] } true false := by
  have case := judgeFresh_of_stepB (verdict := .disordered) (st := .disordered) (prior := none)
    (others := id) (d := { c with run := [] }) (attends := true) (reached := false) walk found
    fresh breaks fun v broke => by
      have step := stepB_disordered (t := r.tag) broke.walk r.freshPrior (decide (c.run ≠ []))
      simp only [broke.ordinal_fresh, broke.tolerance_fresh] at step
      exact step behind back
  simpa using case

/-- A judgement afresh whose item continues the run, from Step A. -/
theorem judgeFresh_of_continueRun (found : s.item? r.tag = some r) (fresh : r.Fresh)
    (continues : s.Continues c r.tag) {verdict : Verdict} {st : CountState}
    {prior : Option CountState}
    {others : Item → Item} {d : Context} {reached : Bool}
    (step : ∃ p, continueRun x c r.tag r.freshPrior (s.sightedFresh r) = p ∧ p.verdict = verdict ∧
      p.broken = false ∧
      Placing (s.sightedFresh r) x c r.tag p st prior others d false reached) :
    (judgeFresh x c r s).outcome =
        ⟨r.tag, verdict, false, decide (r.circ = some .loan), reached, false, some c.sec⟩ ∧
      FreshlyFound s (judgeFresh x c r s).state x c r st prior others d r.newConflict reached := by
  obtain ⟨p, rfl, verdict_eq, broken_eq, placing⟩ := step
  rw [judgeFresh_eq, placeFresh_continues (State.continues_sightedFresh.mpr continues)]
  refine ⟨?_, by simpa using placing.freshlyFound found fresh.free fresh.listed⟩
  rw [verdict_eq, broken_eq, placing.mark]

/-- A continuation below the resync length: HELD, the last of the run (R84). -/
theorem judgeFresh_pending (walk : s.ctx x = some c) (found : s.item? r.tag = some r)
    (fresh : r.Fresh)
    (continues : s.Continues c r.tag) (short : c.run.length + 1 < s.settings.resyncLength) :
    (judgeFresh x c r s).outcome =
        ⟨r.tag, .pending, false, decide (r.circ = some .loan), false, false, some c.sec⟩ ∧
      FreshlyFound s (judgeFresh x c r s).state x c r .held (some r.freshPrior) id
        { c with run := c.run ++ [r.tag] } r.newConflict false := by
  have settings : (s.sightedFresh r).settings = s.settings := (s.leavePlace_same r).settings
  refine judgeFresh_of_continueRun found fresh continues ?_
  refine continueRun_pending ?_ r.freshPrior (settings ▸ short)
  rw [State.ctx_sightedFresh fresh.free, walk]

/-- A continuation at the resync length: the run is accepted (R85). -/
theorem judgeFresh_resync (walk : s.ctx x = some c) (found : s.item? r.tag = some r)
    (fresh : r.Fresh)
    (continues : s.Continues c r.tag) (long : s.settings.resyncLength ≤ c.run.length + 1) :
    (judgeFresh x c r s).outcome = ⟨r.tag, .resync, false, decide (r.circ = some .loan),
        s.reaches c (s.ordinal c.sec r.tag + 1), false, some c.sec⟩ ∧
      FreshlyFound s (judgeFresh x c r s).state x c r .inPlace none
        (fun q =>
          (q.passed c.sec (s.span c.sec c.cursor (s.ordinal c.sec r.tag + 1))).resynced c.run)
        { c with
          cursor := s.ordinal c.sec r.tag + 1
          run := []
          markHit := c.markHit || s.reaches c (s.ordinal c.sec r.tag + 1) }
        r.newConflict (s.reaches c (s.ordinal c.sec r.tag + 1)) := by
  have settings : (s.sightedFresh r).settings = s.settings := (s.leavePlace_same r).settings
  have walk' : (s.sightedFresh r).ctx x = some c := by rw [State.ctx_sightedFresh fresh.free, walk]
  have step := continueRun_resync (t := r.tag) walk' r.freshPrior (settings ▸ long)
  simp only [State.ordinal_sightedFresh, State.span_sightedFresh,
    State.reaches_sightedFresh] at step
  exact judgeFresh_of_continueRun found fresh continues step

end Cases

/-! ### The statements -/

theorem Item.FreshAt.fresh {r : Item} {S : SecId} (h : r.FreshAt S) : r.Fresh := by
  obtain ⟨-, h⟩ := h
  constructor <;> rcases h with h | h | h | h | h <;> rw [h] <;> decide

theorem judge_of_freshAt {s : State} {x : CtxId} {c : Context} {t : Tag} {r : Item}
    (walk : s.ctx x = some c) (marker : (s.sec c.sec).endMarker ≠ some t)
    (found : s.item? t = some r)
    (fresh : r.FreshAt c.sec) : judge x t s = judgeFresh x c r s := by
  obtain ⟨home, count⟩ := fresh
  refine judge_fresh walk marker found home ?_
  rcases count with h | h | h | h | h <;> rw [h] <;> decide

theorem State.not_continues {s : State} {c : Context} {t : Tag}
    (h : ∀ last, c.run.getLast? = some last → s.ordinal c.sec t ≤ s.ordinal c.sec last ∨
      s.ordinal c.sec last + (s.sec c.sec).tolerance + 1 < s.ordinal c.sec t) :
    ¬ s.Continues c t := by
  rintro ⟨last, stands, behind, near⟩
  have := h last stands
  omega

theorem Item.newConflict_iff (r : Item) :
    r.newConflict = true ↔ r.circ = some .loan ∧ r.conflict = false := by
  simp [Item.newConflict]

theorem judgeFresh_eq_parts (s : State) (x : CtxId) (c : Context) (r : Item) :
    (judgeFresh x c r s).state = { s with
      items := (judgeFresh x c r s).state.items
      sections := (judgeFresh x c r s).state.sections
      contexts := (judgeFresh x c r s).state.contexts
      events := (judgeFresh x c r s).state.events } :=
  (judgeFresh_kept s x c r).eq (judgeFresh_same s x c r)

/-- Two changes of records that agree on the records of a tag agree on what is found for it. -/
theorem State.map_item_congr (s : State) {t : Tag} {f g : Item → Item}
    (h : ∀ q, q.tag = t → f q = g q) : (s.item? t).map f = (s.item? t).map g := by
  cases found : s.item? t with
  | none => rfl
  | some q => exact congrArg some (h q (s.item_tag found))

/-- Entries of a broken run are DISORDERED, and of the others the UNSEEN ones passed over PASSED. -/
theorem Item.passed_broken (S : SecId) (tags run : List Tag) (q : Item) :
    (q.broken run).passed S tags =
      if q.tag ∈ run then { q with count := .disordered, prior := none }
      else if q.home = some S ∧ q.count = .unseen ∧ q.tag ∈ tags then { q with count := .passed }
      else q := by
  unfold Item.broken
  split
  · exact if_neg fun h => by simp at h
  · rfl

/-- Entries of a resynced run are IN_PLACE, and of the others the UNSEEN ones passed over PASSED. -/
theorem Item.resynced_passed (S : SecId) (tags run : List Tag) (q : Item) :
    (q.passed S tags).resynced run =
      if q.tag ∈ run then { q with count := .inPlace, prior := none }
      else if q.home = some S ∧ q.count = .unseen ∧ q.tag ∈ tags then { q with count := .passed }
      else q := by
  unfold Item.resynced
  rw [Item.passed_tag]
  split
  · unfold Item.passed
    split <;> rfl
  · rfl

/-- Settles O29. -/
theorem itemAheadIsPlacedOrHeld : Obligations.ItemAheadIsPlacedOrHeld := by
  unfold Obligations.ItemAheadIsPlacedOrHeld
  rintro x c t r s walk marker found fresh nodup stands k loan broken attends rfl ahead loan_iff
    broken_iff last attends_iff
  obtain rfl := s.item_tag found
  have breaks := State.not_continues last
  obtain rfl : loan = decide (r.circ = some .loan) := by
    rw [Bool.eq_iff_iff, loan_iff, decide_eq_true_eq]
  obtain rfl : broken = decide (c.run ≠ []) := by
    rw [Bool.eq_iff_iff, broken_iff, decide_eq_true_eq]
  obtain rfl : attends = (decide (c.run ≠ []) || r.newConflict) := by
    rw [Bool.eq_iff_iff, attends_iff, Bool.or_eq_true, Item.newConflict_iff, decide_eq_true_eq]
    simp
  rw [judge_of_freshAt walk marker found fresh]
  have fresh := fresh.fresh
  refine ⟨_, rfl, judgeFresh_eq_parts s x c r, ?_⟩
  have within : s.ordinal c.sec r.tag ≤ (s.sec c.sec).expected.length :=
    (List.idxOf_lt_length_iff.mpr stands).le
  by_cases near : s.ordinal c.sec r.tag - c.cursor ≤ (s.sec c.sec).tolerance
  · obtain ⟨outcome, item, others, sec, ctx, events⟩ :=
      judgeFresh_near walk found fresh breaks ahead near
    refine ⟨sec, fun y other => by rw [ctx, if_neg other], fun _ => ?_,
      fun far => absurd far (by omega)⟩
    refine ⟨_, s.reaches_iff c _, outcome, item, fun t' other => ?_,
      by rw [ctx, if_pos rfl], events⟩
    rw [others t' other]
    refine s.map_item_congr fun q tag => ?_
    rw [Item.passed_broken, tag]
    simp only [State.mem_span nodup within]
  · have far := Nat.lt_of_not_le near
    obtain ⟨outcome, item, others, sec, ctx, events⟩ :=
      judgeFresh_far walk found fresh breaks ahead far
    refine ⟨sec, fun y other => by rw [ctx, if_neg other], fun h => absurd h near, fun _ => ?_⟩
    refine ⟨outcome, item, fun t' other => ?_, by rw [ctx, if_pos rfl], by simpa using events⟩
    rw [others t' other]
    exact s.map_item_congr fun q tag => by rw [Item.broken, tag]

/-- Settles O30. -/
theorem itemBehindIsLateOrDisordered : Obligations.ItemBehindIsLateOrDisordered := by
  unfold Obligations.ItemBehindIsLateOrDisordered
  constructor
  · rintro x c t r s walk marker found fresh k loan broken late attends rfl behind
      loan_iff broken_iff
      last late_iff attends_iff
    obtain rfl := s.item_tag found
    have breaks := State.not_continues last
    obtain rfl : loan = decide (r.circ = some .loan) := by
      rw [Bool.eq_iff_iff, loan_iff, decide_eq_true_eq]
    obtain rfl : broken = decide (c.run ≠ []) := by
      rw [Bool.eq_iff_iff, broken_iff, decide_eq_true_eq]
    rw [judge_of_freshAt walk marker found fresh]
    have fresh := fresh.fresh
    have eq := judgeFresh_eq_parts s x c r
    have other_items {t' : Tag} : (s.item? t').map (Item.broken c.run) = (s.item? t').map fun q =>
        if t' ∈ c.run then { q with count := .disordered, prior := none } else q :=
      s.map_item_congr fun q tag => by rw [Item.broken, tag]
    cases late with
    | true =>
      obtain rfl : attends = (decide (c.run ≠ []) || r.newConflict) := by
        rw [Bool.eq_iff_iff, attends_iff, Bool.or_eq_true, Item.newConflict_iff, decide_eq_true_eq]
        simp
      obtain ⟨outcome, item, others, sec, ctx, events⟩ :=
        judgeFresh_late walk found fresh breaks behind (late_iff.mp rfl)
      exact ⟨_, rfl, outcome, eq, item, fun t' other => (others t' other).trans other_items, sec,
        by rw [ctx, if_pos rfl], fun y other => by rw [ctx, if_neg other], by simpa using events⟩
    | false =>
      obtain rfl : attends = true := attends_iff.mpr (.inr (.inl rfl))
      have back : (s.sec c.sec).tolerance < c.cursor - 1 - s.ordinal c.sec r.tag :=
        Nat.lt_of_not_le fun h => Bool.false_ne_true (late_iff.mpr h)
      obtain ⟨outcome, item, others, sec, ctx, events⟩ :=
        judgeFresh_disordered walk found fresh breaks behind back
      exact ⟨_, rfl, outcome, eq, item, fun t' other => (others t' other).trans other_items, sec,
        by rw [ctx, if_pos rfl], fun y other => by rw [ctx, if_neg other], by simpa using events⟩
  · intro x c t r s walk marker found home again loan newly loan_iff newly_iff
    obtain rfl := s.item_tag found
    obtain rfl : loan = decide (r.circ = some .loan) := by
      rw [Bool.eq_iff_iff, loan_iff, decide_eq_true_eq]
    obtain rfl : newly = r.newConflict := by
      rw [Bool.eq_iff_iff, newly_iff, Item.newConflict_iff, decide_eq_true_eq]
    rw [judge_again walk marker found home again]
    obtain ⟨item, sec, contexts, events⟩ := State.seenAgain found c.sec c.sec
    refine ⟨_, rfl, (judgeAgain_kept c r).eq_of_contexts (judgeAgain_same s c r) contexts, ?_,
      fun t' other => ?_, sec, events⟩
    · exact (item r.tag).trans (if_pos rfl)
    · exact (item t').trans (if_neg other)

/-- Settles O31. -/
theorem continuationExtendsOrResyncsTheRun : Obligations.ContinuationExtendsOrResyncsTheRun := by
  unfold Obligations.ContinuationExtendsOrResyncsTheRun
  rintro x c t last r s walk tail marker found fresh nodup stands held k loan attends rfl
    behind near
    loan_iff attends_iff
  obtain rfl := s.item_tag found
  have continues : s.Continues c r.tag := ⟨last, tail, behind, near⟩
  obtain rfl : loan = decide (r.circ = some .loan) := by
    rw [Bool.eq_iff_iff, loan_iff, decide_eq_true_eq]
  obtain rfl : attends = r.newConflict := by
    rw [Bool.eq_iff_iff, attends_iff, Item.newConflict_iff, decide_eq_true_eq]
  rw [judge_of_freshAt walk marker found fresh]
  have fresh := fresh.fresh
  have within : s.ordinal c.sec r.tag + 1 ≤ (s.sec c.sec).expected.length :=
    List.idxOf_lt_length_iff.mpr stands
  refine ⟨_, rfl, judgeFresh_eq_parts s x c r, ?_⟩
  by_cases short : c.run.length + 1 < s.settings.resyncLength
  · obtain ⟨outcome, item, others, sec, ctx, events⟩ :=
      judgeFresh_pending walk found fresh continues short
    refine ⟨sec, fun y other => by rw [ctx, if_neg other], fun _ => ?_,
      fun long => absurd short (by omega)⟩
    refine ⟨outcome, item, fun t' other => ?_, by rw [ctx, if_pos rfl], by simpa using events⟩
    rw [others t' other, Option.map_id]
    rfl
  · have long := Nat.le_of_not_lt short
    obtain ⟨outcome, item, others, sec, ctx, events⟩ :=
      judgeFresh_resync walk found fresh continues long
    refine ⟨sec, fun y other => by rw [ctx, if_neg other], fun h => absurd h short, fun _ => ?_⟩
    refine ⟨_, s.reaches_iff c _, outcome, item, fun t' other => ?_,
      by rw [ctx, if_pos rfl], events⟩
    rw [others t' other]
    refine s.map_item_congr fun q tag => ?_
    have behind_item : s.ordinal c.sec t' < s.ordinal c.sec r.tag + 1 ↔
        s.ordinal c.sec t' < s.ordinal c.sec r.tag := by
      refine ⟨fun h => lt_of_le_of_ne (Nat.le_of_lt_succ h) fun same => other ?_, Nat.lt_succ_of_lt⟩
      exact (List.idxOf_inj (List.idxOf_lt_length_iff.mp (h.trans_le within))).mp same
    rw [Item.resynced_passed, tag]
    simp only [State.mem_span nodup within, behind_item]

end Sys2Proof.Machine

/-! # Proofs: shelf-lists, the operations read back (chapter 1, 5.7) -/

namespace Sys2Proof.Machine

section ReadBack
variable (s : State)

/-! ### Records by tag -/

/-- Records changed without changing their tags, read back. -/
theorem State.item_of_map {s u : State} {f : Item → Item} (items : u.items = s.items.map f)
    (tags : ∀ r, (f r).tag = r.tag) (t : Tag) : u.item? t = (s.item? t).map f := by
  unfold State.item?
  rw [items, List.find?_map]
  refine congrArg (fun p => (s.items.find? p).map f) (funext fun r => ?_)
  rw [Function.comp, tags]

/-- In a list that rises by tag, a record left out by a filter is found no more, and no other takes
its place. -/
theorem find_filter {items : List Item} (p : Item → Bool) (t : Tag)
    (rises : items.Pairwise fun a b => a.tag.toNat < b.tag.toNat) :
    (items.filter p).find? (fun r => r.tag = t) = (items.find? fun r => r.tag = t).filter p := by
  induction items with
  | nil => rfl
  | cons q rest ih =>
    obtain ⟨first, rises⟩ := List.pairwise_cons.mp rises
    have ih := ih rises
    by_cases tag : q.tag = t
    · by_cases kept : p q = true
      · simp [Option.filter, kept, tag]
      · have gone : rest.find? (fun r => r.tag = t) = none := by
          rw [List.find?_eq_none]
          intro r mem same
          have := first r mem
          rw [tag, ← of_decide_eq_true same] at this
          exact Nat.lt_irrefl _ this
        rw [List.filter_cons_of_neg kept, ih, gone]
        simp [Option.filter, kept, tag]
    · by_cases kept : p q = true
      · rw [List.filter_cons_of_pos kept, List.find?_cons_of_neg (by simpa using tag), ih,
          List.find?_cons_of_neg (by simpa using tag)]
      · rw [List.filter_cons_of_neg kept, ih, List.find?_cons_of_neg (by simpa using tag)]

/-- In a canonical item table, the records that a test does not hold of leave it, and no others. -/
theorem ItemsCanonical.item_filter {s u : State} (h : ItemsCanonical s.items) {p : Item → Bool}
    (items : u.items = s.items.filter p) (t : Tag) : u.item? t = (s.item? t).filter p := by
  rw [State.item?, items, find_filter p t h.1, State.item?]

/-! ### Cursors and sequences (R5, R11, R13) -/

theorem State.sec_shiftCursor (S : SecId) (f : Nat → Nat) (X : SecId) :
    (s.shiftCursor S f).sec X = s.sec X := by
  unfold State.shiftCursor
  split <;> rfl

theorem State.ctx_shiftCursor (S : SecId) (f : Nat → Nat) (y : CtxId) :
    (s.shiftCursor S f).ctx y = (s.ctx y).map fun c =>
      if (s.sec S).context = some y then { c with cursor := f c.cursor } else c := by
  unfold State.shiftCursor
  cases h : (s.sec S).context with
  | none => simp
  | some x =>
    simp only [State.ctx_modCtx]
    by_cases hy : y = x
    · subst hy; simp
    · simp [hy, Ne.symm hy]

theorem State.sec_insertAt (S : SecId) (k : Nat) (t : Tag) (X : SecId) :
    (s.insertAt S k t).sec X =
      if X = S then { s.sec S with
        expected := (s.sec S).expected.insertIdx k t, revision := some s.fullRevision }
      else s.sec X := by
  rw [State.insertAt, State.sec_shiftCursor, State.sec_modSec]

theorem State.ctx_insertAt (S : SecId) (k : Nat) (t : Tag) (y : CtxId) :
    (s.insertAt S k t).ctx y = (s.ctx y).map fun c =>
      if (s.sec S).context = some y ∧ k < c.cursor then
      { c with cursor := c.cursor + 1 } else c := by
  rw [State.insertAt, State.ctx_shiftCursor, State.sec_modSec, if_pos rfl, State.modSec_ctx_eq]
  refine congrArg (fun f => (s.ctx y).map f) (funext fun c => ?_)
  by_cases h : (s.sec S).context = some y <;> by_cases hk : k < c.cursor <;> simp [h, hk]

theorem State.sec_removeAt (S : SecId) (k : Nat) (X : SecId) :
    (s.removeAt S k).sec X =
      if X = S then { s.sec S with
        expected := (s.sec S).expected.eraseIdx k
        mark := (s.sec S).mark.map fun m => min m ((s.sec S).expected.eraseIdx k).length
        revision := some s.fullRevision }
      else s.sec X := by
  rw [State.removeAt, State.sec_shiftCursor, State.sec_modSec]

theorem State.ctx_removeAt (S : SecId) (k : Nat) (y : CtxId) :
    (s.removeAt S k).ctx y = (s.ctx y).map fun c =>
      if (s.sec S).context = some y then
        { c with cursor := if k < c.cursor then c.cursor - 1 else c.cursor } else c := by
  rw [State.removeAt, State.ctx_shiftCursor, State.sec_modSec, if_pos rfl, State.modSec_ctx_eq]

theorem State.sec_leaveChainOf (F : Option SecId) (t : Tag) (X : SecId) :
    (s.leaveChainOf F t).sec X =
      { s.sec X with
        chain := if F = some X then (s.sec X).chain.filter fun u => u ≠ t else
        (s.sec X).chain } := by
  cases F with
  | none => rfl
  | some S =>
    show (s.leaveChain S t).sec X = _
    rw [State.sec_leaveChain]
    by_cases h : X = S
    · subst h; simp
    · simp [h, Ne.symm h]

theorem State.leaveChainOf_contexts (F : Option SecId) (t : Tag) :
    (s.leaveChainOf F t).contexts = s.contexts := by
  cases F <;> rfl

/-! ### REV_INSERT, REV_RETIRE, REV_ADOPT (R11, R13, R15) -/

theorem State.sec_retire (H : SecId) (r : Item) (X : SecId) : (s.retire H r).sec X =
    { s.sec X with
      chain := if r.chainSec = some X then (s.sec X).chain.filter fun u => u ≠ r.tag
        else (s.sec X).chain
      expected := if X = H then (s.sec H).expected.eraseIdx (s.ordinal H r.tag)
        else (s.sec X).expected
      mark := if X = H then (s.sec H).mark.map fun m =>
          min m ((s.sec H).expected.eraseIdx (s.ordinal H r.tag)).length
        else (s.sec X).mark
      revision := if X = H then some s.fullRevision else (s.sec X).revision
      generation := (s.sec X).generation + if X = H ∨ r.chainSec = some X then 1 else 0 } := by
  have full : (s.leavePlace r).fullRevision = s.fullRevision :=
    congrArg (fun k : Settings => k.revisionLimit * 1000) (s.leavePlace_same r).settings
  have dropped (u : State) : (u.dropItems fun q => q.tag = r.tag).sec X = u.sec X := rfl
  rw [State.retire, State.sec_bumpWhere, dropped, State.sec_removeAt, full]
  have bumps : (decide (X = H) || decide (some X = r.chainSec)) = true ↔
      X = H ∨ r.chainSec = some X := by
    simp only [Bool.or_eq_true, decide_eq_true_eq, eq_comm (a := some X)]
  by_cases h : X = H
  · subst h
    rw [if_pos rfl, State.sec_leavePlace, if_pos (bumps.mpr (.inl rfl))]
    simp
  · rw [if_neg h, State.sec_leavePlace]
    by_cases hb : X = H ∨ r.chainSec = some X
    · rw [if_pos (bumps.mpr hb)]; simp [h, hb.resolve_left h]
    · rw [if_neg (mt bumps.mp hb)]; simp [h, (not_or.mp hb).2]

theorem State.ctx_retire (H : SecId) (r : Item) (y : CtxId) : (s.retire H r).ctx y =
    ((s.leavePlace r).ctx y).map fun c =>
      if (s.sec H).context = some y then
        { c with cursor := if s.ordinal H r.tag < c.cursor then c.cursor - 1 else c.cursor }
      else c := by
  rw [State.retire, State.bumpWhere_ctx_eq]
  rw [show (((s.leavePlace r).removeAt H (s.ordinal H r.tag)).dropItems fun q =>
    q.tag = r.tag).ctx y =
    ((s.leavePlace r).removeAt H (s.ordinal H r.tag)).ctx y from rfl]
  rw [State.ctx_removeAt, State.sec_leavePlace]

theorem State.item_retire (H : SecId) (r : Item) (t : Tag) : (s.retire H r).item? t =
    if t = r.tag then none else s.item? t := by
  rw [State.retire, State.bumpWhere_item_eq, State.item_dropTag]
  have same : ((s.leavePlace r).removeAt H (s.ordinal H r.tag)).items = s.items := by
    rw [State.removeAt_items, State.leavePlace_items]
  rw [State.item_of_items same]

theorem State.sec_adopt (S : SecId) (k : Nat) (r : Item) (X : SecId) : (s.adopt S k r).sec X =
    { s.sec X with
      expected := if X = S then (s.sec S).expected.insertIdx k r.tag else (s.sec X).expected
      revision := if X = S then some s.fullRevision else (s.sec X).revision
      chain := if X = S ∧ r.foundIn = some S then (s.sec X).chain.filter fun u => u ≠ r.tag
        else (s.sec X).chain
      generation := (s.sec X).generation + if X = S ∨ r.foundIn = some X then 1 else 0 } := by
  have left (u : State) (Y : SecId) :
      (if r.foundIn = some S then u.leaveChain S r.tag else u).sec Y =
      { u.sec Y with
        chain := if Y = S ∧ r.foundIn = some S then (u.sec Y).chain.filter fun v => v ≠ r.tag
          else (u.sec Y).chain } := by
    by_cases here : r.foundIn = some S
    · rw [if_pos here, State.sec_leaveChain]
      by_cases h : Y = S
      · subst h; simp [here]
      · simp [h]
    · simp [here]
  have full (u : State) : (if r.foundIn = some S then u.leaveChain S r.tag else u).fullRevision =
      u.fullRevision := by split <;> rfl
  have bumps : (decide (X = S) || decide (some X = r.foundIn)) = true ↔
      X = S ∨ r.foundIn = some X := by
    simp only [Bool.or_eq_true, decide_eq_true_eq, eq_comm (a := some X)]
  unfold State.adopt
  simp only [State.sec_bumpWhere, State.sec_insertAt, left, full]
  by_cases h : X = S
  · subst h
    rw [if_pos rfl, if_pos (bumps.mpr (.inl rfl))]
    simp
    rfl
  · rw [if_neg h]
    by_cases hb : X = S ∨ r.foundIn = some X
    · rw [if_pos (bumps.mpr hb)]; simp [h, hb.resolve_left h]
    · rw [if_neg (mt bumps.mp hb)]; simp [h, (not_or.mp hb).2]

theorem State.ctx_adopt (S : SecId) (k : Nat) (r : Item) (y : CtxId) : (s.adopt S k r).ctx y =
    (s.ctx y).map fun c =>
      if (s.sec S).context = some y ∧ k < c.cursor then
      { c with cursor := c.cursor + 1 } else c := by
  have left (u : State) : (if r.foundIn = some S then u.leaveChain S r.tag else u).ctx = u.ctx := by
    split <;> rfl
  have context (u : State) :
      ((if r.foundIn = some S then u.leaveChain S r.tag else u).sec S).context =
        (u.sec S).context := by
    split
    · rw [State.sec_leaveChain, if_pos rfl]
    · rfl
  unfold State.adopt
  simp only [State.bumpWhere_ctx_eq, State.ctx_insertAt, left, context]
  rfl

theorem State.item_adopt (S : SecId) (k : Nat) (r : Item) (t : Tag) : (s.adopt S k r).item? t =
    if t = r.tag then (s.item? r.tag).map fun q =>
      { q with home := some S, circ := some .shelf, count := adoptedCount S r }
    else s.item? t := by
  have items : (s.adopt S k r).items = (s.modItem r.tag fun q =>
      { q with home := some S, circ := some .shelf, count := adoptedCount S r }).items := by
    unfold State.adopt
    simp only
    split <;> simp
  rw [State.item_of_items items, State.item_modItem]
  exact fun _ => rfl

end ReadBack

end Sys2Proof.Machine

/-! # Proofs: every step keeps home items and expected sequences in agreement (R1, R2, R5) -/

namespace Sys2Proof.Machine

/-! ### The invariants by tags -/

/-- The section whose home item carries a tag (R5). -/
def State.homeOf (s : State) (t : Tag) : Option SecId := (s.item? t).bind Item.home

/-- A home item is not UNLISTED, and no item would return to UNLISTED. -/
structure Item.HomeSound (r : Item) : Prop where
  listed : r.home.isSome = true → r.count ≠ .unlisted
  prior : r.prior ≠ some .unlisted

/-- `ListsSound`, each record found by its tag. -/
structure Lists (s : State) : Prop where
  canonical : ItemsCanonical s.items
  sound : ∀ t r, s.item? t = some r → r.HomeSound
  nodup : ∀ S, (s.sec S).expected.Nodup
  home : ∀ S t, t ∈ (s.sec S).expected ↔ s.homeOf t = some S

/-- In a canonical table, a statement of some record that carries a tag is one of the record found.
-/
theorem ItemsCanonical.exists_iff {s : State} (h : ItemsCanonical s.items)
    {p : Item → Prop} {t : Tag} :
    (∃ r ∈ s.items, r.tag = t ∧ p r) ↔ ∃ r, s.item? t = some r ∧ p r := by
  constructor
  · rintro ⟨r, mem, rfl, holds⟩
    exact ⟨r, h.item_eq mem, holds⟩
  · rintro ⟨r, found, holds⟩
    exact ⟨r, s.item_mem found, s.item_tag found, holds⟩

theorem ItemsCanonical.forall_iff {s : State} (h : ItemsCanonical s.items) {p : Item → Prop} :
    (∀ r ∈ s.items, p r) ↔ ∀ t r, s.item? t = some r → p r :=
  ⟨fun all _ r found => all r (s.item_mem found), fun all r mem => all r.tag r (h.item_eq mem)⟩

theorem State.bind_item_eq_some (s : State) (f : Item → Option SecId) (t : Tag) (S : SecId) :
    (s.item? t).bind f = some S ↔ ∃ r, s.item? t = some r ∧ f r = some S := by
  simp [Option.bind_eq_some_iff]

theorem lists_iff {s : State} : ListsSound s ↔ Lists s := by
  constructor
  · rintro ⟨canonical, sound, lists⟩
    refine ⟨canonical, fun t r found => ?_, fun S => (lists S).1, fun S t => ?_⟩
    · obtain ⟨listed, prior⟩ := sound r (s.item_mem found)
      exact ⟨listed, prior⟩
    · rw [(lists S).2 t, canonical.exists_iff]
      exact (s.bind_item_eq_some Item.home t S).symm
  · rintro ⟨canonical, sound, nodup, home⟩
    refine ⟨canonical, fun r mem => ?_, fun S => ⟨nodup S, fun t => ?_⟩⟩
    · obtain ⟨listed, prior⟩ := sound r.tag r (canonical.item_eq mem)
      exact ⟨listed, prior⟩
    · rw [home S t, canonical.exists_iff]
      exact s.bind_item_eq_some Item.home t S

/-! ### Rules -/

section Rules
variable {s u : State}

/-- Records changed one by one, their homes kept, and the sequences as they were. -/
theorem Lists.of_changed (h : Lists s) (canonical : ItemsCanonical u.items) (f : Tag → Item → Item)
    (item : ∀ t, u.item? t = (s.item? t).map (f t))
    (homes : ∀ t r, s.item? t = some r → (f t r).home = r.home)
    (sound : ∀ t r, s.item? t = some r → (f t r).HomeSound)
    (expected : ∀ S, (u.sec S).expected = (s.sec S).expected) : Lists u := by
  refine ⟨canonical, fun t r found => ?_, fun S => expected S ▸ h.nodup S, fun S t => ?_⟩
  · rw [item, Option.map_eq_some_iff] at found
    obtain ⟨q, found, rfl⟩ := found
    exact sound t q found
  · rw [expected, h.home, State.homeOf, State.homeOf, item]
    cases found : s.item? t with
    | none => rfl
    | some r => simp [homes t r found]

/-- The same with records changed by one function of the record. -/
theorem Lists.of_map (h : Lists s) (canonical : ItemsCanonical u.items) {f : Item → Item}
    (items : u.items = s.items.map f) (tags : ∀ r, (f r).tag = r.tag)
    (homes : ∀ r, (f r).home = r.home) (sound : ∀ r, r.HomeSound → (f r).HomeSound)
    (expected : ∀ S, (u.sec S).expected = (s.sec S).expected) : Lists u :=
  h.of_changed canonical (fun _ => f) (State.item_of_map items tags) (fun _ r _ => homes r)
    (fun t r found => sound r (h.sound t r found)) expected

/-- One record changed, its home kept. -/
theorem Lists.of_one (h : Lists s) (canonical : ItemsCanonical u.items) {r q : Item}
    (found : s.item? r.tag = some r) (item : ∀ t, u.item? t = if t =
      r.tag then some q else s.item? t)
    (home : q.home = r.home) (sound : q.HomeSound)
    (expected : ∀ S, (u.sec S).expected = (s.sec S).expected) : Lists u := by
  refine h.of_changed canonical (fun t p => if t = r.tag then q else p) (fun t => ?_)
    (fun t p at_t => ?_) (fun t p at_t => ?_) expected
  · rw [item]
    split
    · subst_vars; rw [found]; rfl
    · simp
  · split
    · subst_vars; cases found.symm.trans at_t; exact home
    · rfl
  · split
    · exact sound
    · exact h.sound t p at_t

/-- The records and the sequences as they were. -/
theorem Lists.of_same (h : Lists s) (items : u.items = s.items)
    (expected : ∀ S, (u.sec S).expected = (s.sec S).expected) : Lists u :=
  h.of_map (items ▸ h.canonical) (f := id) (by simpa using items) (fun _ => rfl) (fun _ => rfl)
    (fun _ sound => sound) expected

/-- Records without a home gone, and the others changed one by one, their homes kept. -/
theorem Lists.of_thinned (h : Lists s) (canonical : ItemsCanonical u.items) {p : Item → Bool}
    {f : Item → Item} (items : u.items = (s.items.filter p).map f) (tags : ∀ r, (f r).tag = r.tag)
    (stay : ∀ r, r.home.isSome = true → p r = true) (homes : ∀ r, (f r).home = r.home)
    (sound : ∀ r, r.HomeSound → (f r).HomeSound)
    (expected : ∀ S, (u.sec S).expected = (s.sec S).expected) : Lists u := by
  have item (t : Tag) : u.item? t = ((s.item? t).filter p).map f := by
    have filtered := h.canonical.item_filter (u := { s with items := s.items.filter p }) rfl t
    rw [State.item_of_map (s := { s with items := s.items.filter p }) items tags, filtered]
  refine ⟨canonical, fun t r found => ?_, fun S => expected S ▸ h.nodup S, fun S t => ?_⟩
  · rw [item, Option.map_eq_some_iff] at found
    obtain ⟨q, kept, rfl⟩ := found
    exact sound q (h.sound t q (Option.filter_eq_some_iff.mp kept).1)
  · rw [expected, h.home, State.homeOf, State.homeOf, item]
    cases found : s.item? t with
    | none => rfl
    | some r =>
      by_cases kept : p r = true
      · simp [Option.filter, kept, homes]
      · have away : r.home = none := by
          rw [← Option.not_isSome_iff_eq_none]
          exact mt (stay r) kept
        simp [Option.filter, kept, away]

end Rules

end Sys2Proof.Machine

/-! # Proofs: releases, grants and the campaign read back -/

namespace Sys2Proof.Machine

theorem State.sec_of_sections {s u : State} (h : u.sections = s.sections) (X : SecId) :
    u.sec X = s.sec X := by
  rw [State.sec, State.sec, h]

section ReadBack
variable (s : State)

/-! ### Grants (R54) -/

/-- What a release can grant: nothing, a resume of the suspended walk, or a new walk in a free
context. -/
theorem State.grantNext_cases (S : SecId) : s.grantNext S = s ∨
    (∃ q x, (s.claims.find? fun q => q.sec = S) = some q ∧ (s.sec S).state = .suspended ∧
      (s.sec S).context = some x ∧
      s.grantNext S =
        ((s.unclaim q.wand).resumeWalk x S q.wand).makeReady (.grant q.wand S true x)) ∨
    ∃ q x, (s.claims.find? fun q => q.sec = S) = some q ∧ (s.sec S).state ≠ .suspended ∧
      s.freeCtx = some x ∧
      s.grantNext S =
        ((s.unclaim q.wand).startWalk x S q.wand).makeReady (.grant q.wand S false x) := by
  cases waiter : s.claims.find? fun q => q.sec = S with
  | none => exact .inl (by rw [State.grantNext, waiter])
  | some q =>
    by_cases suspended : (s.sec S).state = .suspended
    · cases context : (s.sec S).context with
      | none => exact .inl (by simp only [State.grantNext, waiter, suspended, context, if_true])
      | some x =>
        exact .inr (.inl ⟨q, x, rfl, suspended, rfl, s.grantNext_resume waiter suspended context⟩)
    · cases free : s.freeCtx with
      | none => exact .inl (by simp only [State.grantNext, waiter, suspended, free, if_false])
      | some x =>
        exact .inr (.inr ⟨q, x, rfl, suspended, rfl, s.grantNext_fresh waiter suspended free⟩)

/-- A grant writes the state of its section, its context and its generation. -/
theorem State.sec_grantNext (S X : SecId) : ∃ st context generation,
    (s.grantNext S).sec X = { s.sec X with
      state := st, context := context, generation := generation } := by
  obtain none | ⟨q, x, -, -, -, granted⟩ | ⟨q, x, -, -, -, granted⟩ := s.grantNext_cases S
  · rw [none]; exact ⟨_, _, _, rfl⟩
  · rw [granted, State.makeReady_sec_eq, State.sec_resumeWalk]
    split
    · subst_vars; exact ⟨_, _, _, rfl⟩
    · exact ⟨_, _, _, rfl⟩
  · rw [granted, State.makeReady_sec_eq, State.sec_startWalk]
    split
    · subst_vars; exact ⟨_, _, _, rfl⟩
    · exact ⟨_, _, _, rfl⟩

theorem State.grantNext_expected (S X : SecId) :
    ((s.grantNext S).sec X).expected = (s.sec X).expected := by
  obtain ⟨st, context, generation, granted⟩ := s.sec_grantNext S X
  rw [granted]

/-! ### The end of a walk, before the grant (R64, R103) -/

/-- The completion of a walk but for the grant. -/
def State.completed (x : CtxId) (c : Context) : State :=
  ((((s.tallySec c.sec).modSec c.sec fun r => { r with walks := min 255 (r.walks + 1) }).raise
    .walkDone).releaseWalker c.walker).endWalk x c.sec .tallied

theorem State.completeWalk_eq (x : CtxId) (c : Context) :
    s.completeWalk x c = (s.completed x c).grantNext c.sec := rfl

/-- WALK_ABANDON but for the grant. -/
def State.abandoned (x : CtxId) (c : Context) : State :=
  let t := s.modItems (fun r => r.tag ∈ c.run) Item.returned
  let t := if c.run = [] then t else t.bump c.sec
  let t := match c.walker with
    | some w => (t.releaseWaiting w).makeReady (.drop w c.sec false)
    | none => t
  t.endWalk x c.sec (if 1 ≤ (s.sec c.sec).walks then .tallied else .ready)

theorem State.abandon_eq (x : CtxId) (c : Context) :
    s.abandon x c = (s.abandoned x c).grantNext c.sec := rfl

theorem State.sec_completed (x : CtxId) (c : Context) (X : SecId) :
    (s.completed x c).sec X = if X = c.sec then { s.sec c.sec with
        state := .tallied
        context := none
        walks := min 255 ((s.sec c.sec).walks + 1)
        attention := (s.sec c.sec).attention ||
          s.items.any fun r => r.isHomeOf c.sec && r.tallyAttends
        generation := (s.sec c.sec).generation +
          (if s.items.any fun r => r.isHomeOf c.sec && r.openAtTally then 1 else 0) + 1 }
      else s.sec X := by
  have released (u : State) (X : SecId) : (u.releaseWalker c.walker).sec X = u.sec X :=
    congrArg (fun v : Vector SectionRec 512 => v[X]) (u.releaseWalker_sections c.walker)
  simp only [State.completed, State.sec_endWalk, released, State.raise_sec_eq, State.sec_modSec,
    State.sec_tallySec, if_true]
  split <;> simp_all

theorem State.ctx_completed (x : CtxId) (c : Context) (y : CtxId) :
    (s.completed x c).ctx y = if y = x then none else s.ctx y := by
  have released (u : State) (y : CtxId) : (u.releaseWalker c.walker).ctx y = u.ctx y :=
    congrArg (fun v : Vector (Option Context) 16 => v[y]) (u.releaseWalker_contexts c.walker)
  simp only [State.completed, State.ctx_endWalk, released, State.raise_ctx_eq, State.modSec_ctx_eq,
    State.tallySec_ctx_eq]

theorem State.completed_claims (x : CtxId) (c : Context) : (s.completed x c).claims = s.claims := by
  simp [State.completed]

theorem State.completed_campaign (x : CtxId) (c : Context) :
    (s.completed x c).campaign = s.campaign := by
  simp [State.completed]

theorem State.sec_abandoned (x : CtxId) (c : Context) (X : SecId) :
    (s.abandoned x c).sec X = if X = c.sec then { s.sec c.sec with
        state := if 1 ≤ (s.sec c.sec).walks then .tallied else .ready
        context := none
        generation := (s.sec c.sec).generation + (if c.run = [] then 0 else 1) + 1 }
      else s.sec X := by
  unfold State.abandoned
  cases c.walker <;> by_cases broken : c.run = [] <;> by_cases here : X = c.sec <;>
    simp [broken, here]

theorem State.ctx_abandoned (x : CtxId) (c : Context) (y : CtxId) :
    (s.abandoned x c).ctx y = if y = x then none else s.ctx y := by
  unfold State.abandoned
  cases c.walker <;> by_cases broken : c.run = [] <;> simp [broken]

theorem State.abandoned_claims (x : CtxId) (c : Context) : (s.abandoned x c).claims = s.claims := by
  unfold State.abandoned
  cases c.walker <;> by_cases broken : c.run = [] <;> simp [broken]

theorem State.abandoned_campaign (x : CtxId) (c : Context) :
    (s.abandoned x c).campaign = s.campaign := by
  unfold State.abandoned
  cases c.walker <;> by_cases broken : c.run = [] <;> simp [broken]

/-! ### The campaign (R142, R144, R145) -/

theorem State.sec_attendWhere (p : SecId → Bool) (X : SecId) :
    (s.attendWhere p).sec X = { s.sec X with attention := (s.sec X).attention || p X } := by
  have written : (s.mapSecs fun S x => if p S then { x with attention := true } else x).sec X =
      { s.sec X with attention := (s.sec X).attention || p X } := by
    rw [State.sec_mapSecs]
    cases h : p X <;> simp
  unfold State.attendWhere
  simp only [apply_ite (fun u : State => u.sec X), State.raise_sec_eq, ite_self]
  exact written

theorem State.sec_closeCampaign (X : SecId) : s.closeCampaign.sec X = { s.sec X with
    state := if s.walkedNow X then .tallied else (s.sec X).state
    context := if s.walkedNow X then none else (s.sec X).context
    attention := (s.sec X).attention ||
      s.items.any fun r => r.isHomeOf X && (r.count = .held || r.goesMissing)
    generation := (s.sec X).generation +
      (if s.items.any fun r => r.isHomeOf X && r.closeChanges then 1 else 0) +
      (if s.walkedNow X then 1 else 0) } := by
  have closed : s.closeCampaign.sections = (((s.mapSecs fun S _ => s.closedSec S).modItems
      (fun r => r.home.isSome) Item.closed).attendWhere fun S =>
        s.items.any fun r => r.isHomeOf S && (r.count = .held || r.goesMissing)).sections := by
    simp only [State.closeCampaign]
  rw [State.sec_of_sections closed, State.sec_attendWhere, State.modItems_sec_eq, State.sec_mapSecs]
  unfold State.closedSec
  cases h : s.walkedNow X <;> simp

theorem State.ctx_closeCampaign (y : CtxId) : s.closeCampaign.ctx y = none := by
  have freed : s.closeCampaign.contexts = Vector.replicate 16 none := rfl
  rw [State.ctx, freed]
  exact Vector.getElem_replicate y.isLt

theorem State.sec_startCampaign (X : SecId) : s.startCampaign.sec X = s.startedSec X := by
  have started : s.startCampaign.sections = (s.mapSecs fun S _ => s.startedSec S).sections := by
    simp only [State.startCampaign, State.modItems_sections, State.dropItems_sections]
  rw [State.sec_of_sections started, State.sec_mapSecs]

theorem State.startCampaign_contexts : s.startCampaign.contexts = s.contexts := by
  simp [State.startCampaign]

/-! ### SEC_UNLOAD and SEC_RESET (R19, R117) -/

theorem State.sec_unload (S X : SecId) : (s.unload S).sec X =
    if X = S then s.unloadedSec S
    else { s.sec X with
      chain := (s.sec X).chain.filter fun u => !s.homeTag S u
      generation := if s.feelsRelease S X then (s.sec X).generation + 1
        else (s.sec X).generation } := by
  rw [State.unload]
  simp

theorem State.unload_contexts (S : SecId) : (s.unload S).contexts = s.contexts := by
  simp [State.unload]

theorem State.sec_recount (S X : SecId) : (s.recount S).sec X =
    if X = S then s.resetSec S
    else { s.sec X with
      chain := (s.sec X).chain.filter fun u => !s.homeTag S u
      generation := if s.feelsRelease S X then (s.sec X).generation + 1
        else (s.sec X).generation } := by
  rw [State.recount]
  simp

theorem State.recount_contexts (S : SecId) : (s.recount S).contexts = s.contexts := by
  simp [State.recount]

end ReadBack

end Sys2Proof.Machine

/-! # Proofs: home items and expected sequences under every effect (R1, R2, R5) -/

namespace Sys2Proof.Machine

/-! ### More effects read back -/

section ReadBack
variable {s u : State}

/-- Alike states hold the same records, as far as the invariants see. -/
theorem Alike.item (h : Alike s u) (t : Tag) :
    (u.item? t).map Item.core = (s.item? t).map Item.core := by
  have found (v : State) : (v.item? t).map Item.core = (v.items.map Item.core).find? fun r =>
    r.tag = t := by
    rw [State.item?, List.find?_map]
    rfl
  rw [found, found, h.items]

theorem State.sec_shelve (H : SecId) (r : Item) (X : SecId) : (s.shelve H r).sec X =
    { s.sec X with
      chain := if r.chainSec = some X then (s.sec X).chain.filter fun t => t ≠ r.tag
        else (s.sec X).chain
      generation := (s.sec X).generation +
        if (X = H ∧ r.count ≠ .inPlace) ∨ r.chainSec = some X then 1 else 0 } := by
  have bumps : (decide (X = H) && decide (r.count ≠ .inPlace) ||
    decide (some X = r.chainSec)) = true ↔
      (X = H ∧ r.count ≠ .inPlace) ∨ r.chainSec = some X := by
    simp only [Bool.or_eq_true, Bool.and_eq_true, decide_eq_true_eq, eq_comm (a := some X)]
  rw [State.shelve]
  simp only [State.sec_bumpWhere, State.modItem_sec_eq, State.sec_leavePlace]
  by_cases h : (X = H ∧ r.count ≠ .inPlace) ∨ r.chainSec = some X
  · rw [if_pos (bumps.mpr h), if_pos h]
  · rw [if_neg (mt bumps.mp h), if_neg h]; simp

theorem State.item_shelve (H : SecId) (r : Item) (t : Tag) : (s.shelve H r).item? t =
    if t = r.tag then (s.item? r.tag).map fun q =>
      { q with count := .inPlace, found := some ⟨H, s.ordinal H r.tag, s.clock⟩, prior := none }
    else s.item? t := by
  rw [State.shelve, State.bumpWhere_item_eq, State.item_modItem]
  case hf => exact fun _ => rfl
  rw [State.item_of_items (s.leavePlace_items r), State.item_of_items (s.leavePlace_items r)]

theorem State.shelve_contexts (H : SecId) {r : Item} (free : r.count ≠ .held) :
    (s.shelve H r).contexts = s.contexts := by
  rw [State.shelve, State.bumpWhere_contexts, State.modItem_contexts,
    State.contexts_leavePlace s free]

/-- A provisional record dropped from its chain and the item table (R20). -/
theorem State.sec_dropRecord (r : Item) (X : SecId) :
    ((((s.leaveChainOf r.foundIn r.tag).dropItems fun q => q.tag = r.tag).bumpWhere fun X =>
      some X = r.foundIn).sec X) =
      if r.foundIn = some X then
        { s.sec X with
          chain := (s.sec X).chain.filter fun t => t ≠ r.tag
          generation := (s.sec X).generation + 1 }
      else s.sec X := by
  rw [State.sec_bumpWhere, State.dropItems_sec_eq, State.sec_leaveChainOf]
  by_cases h : r.foundIn = some X
  · simp [h]
  · simp [h, Ne.symm h]

theorem State.item_dropRecord (r : Item) (t : Tag) :
    ((((s.leaveChainOf r.foundIn r.tag).dropItems fun q => q.tag = r.tag).bumpWhere fun X =>
      some X = r.foundIn).item? t) = if t = r.tag then none else s.item? t := by
  rw [State.bumpWhere_item_eq, State.item_dropTag,
    State.item_of_items (State.leaveChainOf_items _ _ _)]

theorem State.dropRecord_contexts (r : Item) :
    (((s.leaveChainOf r.foundIn r.tag).dropItems fun q => q.tag = r.tag).bumpWhere fun X =>
      some X = r.foundIn).contexts = s.contexts := by
  rw [State.bumpWhere_contexts, State.dropItems_contexts, State.leaveChainOf_contexts]

end ReadBack

/-! ### What keeps a record's home sound -/

namespace Item.HomeSound
variable {r : Item}

theorem of_core {q : Item} (h : q.HomeSound) (same : r.core = q.core) : r.HomeSound := by
  have home : r.home = q.home := (congrArg Item.home same : r.core.home = q.core.home)
  have count : r.count = q.count := (congrArg Item.count same : r.core.count = q.core.count)
  have prior : r.prior = q.prior := (congrArg Item.prior same : r.core.prior = q.core.prior)
  exact ⟨by rw [home, count]; exact h.listed, by rw [prior]; exact h.prior⟩

/-- A record that enters another count state than UNLISTED, with no prior state. -/
theorem enters {q : Item} (listed : q.count ≠ .unlisted) (prior : q.prior = none) : q.HomeSound :=
  ⟨fun _ => listed, by rw [prior]; exact nofun⟩

theorem ite {p : Prop} [Decidable p] {q : Item} (h : r.HomeSound) (k : q.HomeSound) :
    (if p then q else r).HomeSound := by split <;> assumption

theorem unseen : r.unseen.HomeSound := enters (by simp [Item.unseen]) rfl

theorem restarted : r.restarted.HomeSound := enters (by simp [Item.restarted]) rfl

theorem tallied (h : r.HomeSound) : r.tallied.HomeSound := by
  unfold Item.tallied
  split
  · exact enters nofun rfl
  · exact ⟨fun _ => by split <;> nofun, h.prior⟩
  · exact ⟨fun _ => by split <;> nofun, h.prior⟩
  · exact h

theorem closed (h : r.HomeSound) : r.closed.HomeSound := by
  unfold Item.closed
  split
  · exact enters nofun rfl
  · exact ⟨fun _ => by split <;> nofun, h.prior⟩
  · exact ⟨fun _ => by split <;> nofun, h.prior⟩
  · exact ⟨fun _ => by split <;> nofun, h.prior⟩
  · exact h

theorem returned (h : r.HomeSound) : r.returned.HomeSound := by
  refine enters ?_ rfl
  show r.prior.getD .unseen ≠ .unlisted
  cases prior : r.prior with
  | none => nofun
  | some p => exact fun same => h.prior (prior.trans (congrArg some same))

theorem broken (h : r.HomeSound) (run : List Tag) : (r.broken run).HomeSound := by
  unfold Item.broken
  split
  · exact enters nofun rfl
  · exact h

theorem resynced (h : r.HomeSound) (run : List Tag) : (r.resynced run).HomeSound := by
  unfold Item.resynced
  split
  · exact enters nofun rfl
  · exact h

theorem passed (h : r.HomeSound) (S : SecId) (tags : List Tag) : (r.passed S tags).HomeSound := by
  unfold Item.passed
  split
  · exact ⟨fun _ => nofun, h.prior⟩
  · exact h

end Item.HomeSound

end Sys2Proof.Machine

/-! # Proofs: what a judgement afresh does to the walk and to the other items (R83 to R88) -/

namespace Sys2Proof.Machine

section Ends
variable {s : State} {x : CtxId} {c : Context} {r : Item}

/-- What becomes of another record when the run of a walk ends: an entry of the run leaves HELD, and
an UNSEEN item of the section may be passed over (R85 to R87). -/
inductive Item.Ends (c : Context) (q : Item) : Item → Prop where
  | entry {st : CountState} (mem : q.tag ∈ c.run) (settled : st = .inPlace ∨ st = .disordered) :
      Ends c q { q with count := st, prior := none }
  | passed (out : q.tag ∉ c.run) (home : q.home = some c.sec) (unseen : q.count = .unseen) :
      Ends c q { q with count := .passed }
  | other (out : q.tag ∉ c.run) : Ends c q q

theorem Item.ends_broken (c : Context) (q : Item) : q.Ends c (q.broken c.run) := by
  unfold Item.broken
  split
  next mem => exact .entry mem (.inr rfl)
  next out => exact .other out

theorem Item.ends_broken_passed (c : Context) (tags : List Tag) (q : Item) :
    q.Ends c ((q.broken c.run).passed c.sec tags) := by
  unfold Item.broken
  split
  next mem =>
    rw [Item.passed, if_neg (by simp)]
    exact .entry mem (.inr rfl)
  next out =>
    unfold Item.passed
    split
    next passes => exact .passed out passes.1 passes.2.1
    next => exact .other out

theorem Item.ends_passed_resynced (c : Context) (tags : List Tag) (q : Item) :
    q.Ends c ((q.passed c.sec tags).resynced c.run) := by
  unfold Item.passed
  split
  next passes =>
    unfold Item.resynced
    split
    next mem => exact .entry mem (.inl rfl)
    next out => exact .passed out passes.1 passes.2.1
  next =>
    unfold Item.resynced
    split
    next mem => exact .entry mem (.inl rfl)
    next out => exact .other out

/-- How a judgement afresh leaves the item, the other records and the run of the walk. -/
inductive FreshEnd (s : State) (c : Context) (r : Item) :
    CountState → Option CountState → (Item → Item) → List Tag → Prop where
  | settles {st : CountState} {others : Item → Item} (settled : st = .inPlace ∨ st = .disordered)
      (ends : ∀ q : Item, q.Ends c (others q)) : FreshEnd s c r st none others []
  | begins {others : Item → Item} (ends : ∀ q : Item, q.Ends c (others q)) :
      FreshEnd s c r .held (some r.freshPrior) others [r.tag]
  | joins (continues : s.Continues c r.tag) (short : c.run.length + 1 < s.settings.resyncLength) :
      FreshEnd s c r .held (some r.freshPrior) id (c.run ++ [r.tag])

/-- The judgement afresh, seen by the invariants: where the walk stands, its run and the records. -/
theorem judgeFresh_ends (walk : s.ctx x = some c) (found : s.item? r.tag = some r)
    (fresh : r.Fresh) :
    ∃ st prior others d attends reached,
      FreshlyFound s (judgeFresh x c r s).state x c r st prior others d attends reached ∧
      FreshEnd s c r st prior others d.run ∧
      (d.cursor = c.cursor ∨ d.cursor = s.ordinal c.sec r.tag + 1) ∧
      d = { c with cursor := d.cursor, run := d.run, markHit := d.markHit } := by
  by_cases continues : s.Continues c r.tag
  · by_cases short : c.run.length + 1 < s.settings.resyncLength
    · exact ⟨_, _, _, _, _, _, (judgeFresh_pending walk found fresh continues short).2,
        .joins continues short, .inl rfl, rfl⟩
    · exact ⟨_, _, _, _, _, _, (judgeFresh_resync walk found fresh continues (not_lt.mp short)).2,
        .settles (.inl rfl) (Item.ends_passed_resynced c _), .inr rfl, rfl⟩
  · by_cases ahead : c.cursor ≤ s.ordinal c.sec r.tag
    · by_cases near : s.ordinal c.sec r.tag - c.cursor ≤ (s.sec c.sec).tolerance
      · exact ⟨_, _, _, _, _, _, (judgeFresh_near walk found fresh continues ahead near).2,
          .settles (.inl rfl) (Item.ends_broken_passed c _), .inr rfl, rfl⟩
      · exact ⟨_, _, _, _, _, _,
          (judgeFresh_far walk found fresh continues ahead (not_le.mp near)).2,
          .begins (Item.ends_broken c), .inl rfl, rfl⟩
    · rw [not_le] at ahead
      by_cases late : c.cursor - 1 - s.ordinal c.sec r.tag ≤ (s.sec c.sec).tolerance
      · exact ⟨_, _, _, _, _, _, (judgeFresh_late walk found fresh continues ahead late).2,
          .settles (.inl rfl) (Item.ends_broken c), .inl rfl, rfl⟩
      · exact ⟨_, _, _, _, _, _,
          (judgeFresh_disordered walk found fresh continues ahead (not_le.mp late)).2,
          .settles (.inr rfl) (Item.ends_broken c), .inl rfl, rfl⟩

end Ends

end Sys2Proof.Machine

/-! # Proofs: every step keeps home items and expected sequences in agreement (R1, R2, R5) -/

namespace Sys2Proof.Machine

/-! ### Homes under the functions of a record -/

section Homes
variable (r : Item)

theorem Item.tallied_home : r.tallied.home = r.home := by unfold Item.tallied; split <;> rfl

theorem Item.closed_home : r.closed.home = r.home := by unfold Item.closed; split <;> rfl

end Homes

theorem Item.Ends.home {c : Context} {q q' : Item} (h : q.Ends c q') : q'.home = q.home := by
  cases h <;> rfl

theorem Item.Ends.homeSound {c : Context} {q q' : Item} (h : q.Ends c q') (k : q.HomeSound) :
    q'.HomeSound := by
  cases h with
  | entry _ settled => exact .enters (by rcases settled with rfl | rfl <;> nofun) rfl
  | passed => exact ⟨fun _ => nofun, k.prior⟩
  | other => exact k

/-- A home item to be judged afresh, its count state not one of a REPEAT. -/
theorem Lists.fresh {s : State} (h : Lists s) {r : Item} {S : SecId}
    (found : s.item? r.tag = some r)
    (home : r.home = some S) (new : ¬ (r.count = .inPlace ∨ r.count = .disordered ∨
      r.count = .held)) :
    r.Fresh :=
  ⟨fun held => new (.inr (.inr held)), (h.sound r.tag r found).listed (by rw [home]; rfl)⟩

theorem Item.freshPrior_homeSound {r : Item} (h : r.Fresh) : r.freshPrior ≠ .unlisted := by
  unfold Item.freshPrior
  split
  · nofun
  · exact h.listed

section Effects
variable {s u : State}

/-! ### Some of the records changed -/

theorem Item.ite_tag {p : Prop} [Decidable p] {f : Item → Item} (tags : ∀ r, (f r).tag = r.tag)
    (r : Item) : (if p then f r else r).tag = r.tag := by
  split
  · exact tags r
  · rfl

theorem Item.ite_home {p : Prop} [Decidable p] {f : Item → Item} (homes : ∀ r, (f r).home = r.home)
    (r : Item) : (if p then f r else r).home = r.home := by
  split
  · exact homes r
  · rfl

theorem Lists.of_map_if (h : Lists s) {p : Item → Prop} [DecidablePred p] {f : Item → Item}
    (items : u.items = s.items.map fun r => if p r then f r else r)
    (tags : ∀ r, (f r).tag = r.tag) (homes : ∀ r, (f r).home = r.home)
    (sound : ∀ r, r.HomeSound → (f r).HomeSound)
    (expected : ∀ S, (u.sec S).expected = (s.sec S).expected) : Lists u :=
  h.of_map (h.canonical.of_map items tags) items (fun r => Item.ite_tag tags r)
    (fun r => Item.ite_home homes r) (fun r k => k.ite (sound r k)) expected

/-! ### Effects that change no home -/

theorem Lists.of_alike (h : Lists s) (same : Alike s u) : Lists u := by
  have core (t : Tag) (r : Item) (found : u.item? t = some r) :
      ∃ q, s.item? t = some q ∧ r.core = q.core := by
    have agree := same.item t
    rw [found, Option.map_some, eq_comm, Option.map_eq_some_iff] at agree
    obtain ⟨q, found', core⟩ := agree
    exact ⟨q, found', core.symm⟩
  have home (t : Tag) : u.homeOf t = s.homeOf t := by
    have agree := congrArg (fun o : Option Item => o.bind Item.home) (same.item t)
    simpa [Option.bind_map, Function.comp_def, Item.core, State.homeOf] using agree
  have expected (S : SecId) : (u.sec S).expected = (s.sec S).expected :=
    (congrArg SectionRec.expected (same.sec S) :
      (u.sec S).core.expected = (s.sec S).core.expected)
  refine ⟨h.canonical.of_tags same.tags, fun t r found => ?_, fun S => expected S ▸ h.nodup S,
    fun S t => by rw [expected, h.home, home]⟩
  obtain ⟨q, found', same⟩ := core t r found
  exact (h.sound t q found').of_core same

theorem State.sec_reset (X : SecId) : State.reset.sec X = SectionRec.blank := by
  show (Vector.replicate 512 SectionRec.blank)[(X : Nat)] = _
  simp

theorem State.ctx_reset (y : CtxId) : State.reset.ctx y = none := by
  show (Vector.replicate 16 (none : Option Context))[(y : Nat)] = _
  simp

theorem State.item_reset (t : Tag) : State.reset.item? t = none := rfl

theorem lists_reset : Lists State.reset := by
  refine ⟨⟨List.Pairwise.nil, Nat.zero_le _⟩, fun t r found => ?_, fun S => ?_, fun S t => ?_⟩
  · rw [State.item_reset] at found; cases found
  · rw [State.sec_reset]; exact List.nodup_nil
  · rw [State.sec_reset, State.homeOf, State.item_reset]; simp [SectionRec.blank]

theorem Lists.suspend_grant (h : Lists s) {x : CtxId} {c : Context} {w : Wand} {v : State}
    (same : AlikeAll (s.suspend x c w) v) : Lists (v.grantNext c.sec) := by
  have suspended : Lists (s.suspend x c w) := h.of_same rfl fun S => by
    rw [State.sec_suspend]
    split
    · subst_vars; rfl
    · rfl
  exact (suspended.of_alike same.toAlike).of_same (State.grantNext_items _ _)
    fun S => State.grantNext_expected _ _ S

theorem Lists.complete (h : Lists s) (x : CtxId) (c : Context) : Lists (s.completeWalk x c) :=
  h.of_map_if (s.completeWalk_items x c) Item.tallied_tag Item.tallied_home
    (fun _ k => k.tallied) fun S => by
      rw [State.completeWalk_eq, State.grantNext_expected, State.sec_completed]
      split
      · subst_vars; rfl
      · rfl

theorem Lists.abandon (h : Lists s) (x : CtxId) (c : Context) : Lists (s.abandon x c) :=
  h.of_map_if (s.abandon_items x c) (fun _ => rfl) (fun _ => rfl) (fun _ k =>
    k.returned) fun S => by
    rw [State.abandon_eq, State.grantNext_expected, State.sec_abandoned]
    split
    · subst_vars; rfl
    · rfl

theorem Lists.closeCampaign (h : Lists s) : Lists s.closeCampaign :=
  h.of_map_if s.closeCampaign_items Item.closed_tag Item.closed_home (fun _ k =>
    k.closed) fun S => by
    rw [State.sec_closeCampaign]

theorem Lists.startCampaign (h : Lists s) : Lists s.startCampaign :=
  h.of_thinned (h.canonical.of_thinned s.startCampaign_items fun _ => rfl) s.startCampaign_items
    (fun _ => rfl) (fun r home => by simpa using home) (fun _ => rfl) (fun _ _ => .restarted)
    fun S => by rw [State.sec_startCampaign]; rfl

theorem Lists.recount (h : Lists s) (S : SecId) : Lists (s.recount S) :=
  h.of_thinned (h.canonical.of_thinned (s.recount_items S) fun r => ite_unseen_tag _ r)
    (s.recount_items S) (fun r => ite_unseen_tag _ r)
    (fun r home => by simp [State.isProvisionalOf, home])
    (fun r => Item.ite_home (f := Item.unseen) (fun _ => rfl) r) (fun r k =>
      k.ite .unseen) fun X => by
      rw [State.sec_recount]
      split
      · subst_vars; rfl
      · rfl

theorem Lists.dropRecord (h : Lists s) {r : Item} (found : s.item? r.tag = some r)
    (home : r.home = none) :
    Lists (((s.leaveChainOf r.foundIn r.tag).dropItems fun q => q.tag = r.tag).bumpWhere fun X =>
      some X = r.foundIn) := by
  refine ⟨?_, fun t q at_t => ?_, fun S => ?_, fun S t => ?_⟩
  · exact h.canonical.of_thinned (p := fun q => !decide (q.tag = r.tag)) (f := id) (by simp)
      fun _ => rfl
  · rw [State.item_dropRecord] at at_t
    split at at_t
    · cases at_t
    · exact h.sound t q at_t
  · rw [State.sec_dropRecord]
    split <;> exact h.nodup S
  · have expected : ((((s.leaveChainOf r.foundIn r.tag).dropItems fun q => q.tag = r.tag).bumpWhere
        fun X => some X = r.foundIn).sec S).expected = (s.sec S).expected := by
      rw [State.sec_dropRecord]
      split <;> rfl
    rw [expected, h.home, State.homeOf, State.homeOf, State.item_dropRecord]
    by_cases same : t = r.tag
    · rw [if_pos same, same, found, Option.bind_some, home]; rfl
    · rw [if_neg same]

theorem Lists.notice (h : Lists s) {r : Item} {f : Item → Item} {count : CountState}
    {circ : Circulation} (found : s.item? r.tag = some r)
    (moves : count = r.count ∨ r.openToNotice = true ∧ count = .desk)
    (writes : ∀ q, (f q).core = ({ q with circ := some circ, count := count } : Item).core) :
    Lists (s.modItem r.tag f) := by
  have tags (q : Item) : (f q).tag = q.tag :=
    (congrArg Item.tag (writes q) : (f q).core.tag = _)
  have homes (q : Item) : (f q).home = q.home :=
    (congrArg Item.home (writes q) : (f q).core.home = _)
  have sound := h.sound r.tag r found
  refine h.of_one (h.canonical.of_tags (s.tags_modItem _ _ tags)) found (q := f r) (fun t => ?_)
    (homes r) ?_ fun S => rfl
  · rw [State.item_modItem _ _ _ tags, found]; rfl
  · refine Item.HomeSound.of_core (q := { r with circ := some circ, count := count })
      ⟨fun isHome => ?_, sound.prior⟩ (writes r)
    rcases moves with rfl | ⟨-, rfl⟩
    · exact sound.listed isHome
    · nofun

theorem Lists.shelve (h : Lists s) {H : SecId} {r : Item} (found : s.item? r.tag = some r) :
    Lists (s.shelve H r) :=
  h.of_one (h.canonical.of_tags (s.tags_shelve _ _)) found
    (q := { r with
      count := .inPlace, found := some ⟨H, s.ordinal H r.tag, s.clock⟩, prior := none })
    (fun t => by rw [State.item_shelve, found]; rfl) rfl (.enters nofun rfl) fun S => by
      rw [State.sec_shelve]

/-! ### Judgements -/

theorem judgeUnknown_of_full {c : Context} {t : Tag} (full : 131072 ≤ s.items.length) :
    judgeUnknown c t s = ⟨s.raise .tableFull, Sighting.plain t .tableFull none⟩ := if_pos full

theorem Lists.unknown (h : Lists s) {c : Context} {t : Tag} (new : s.item? t = none) :
    Lists (judgeUnknown c t s).state := by
  by_cases room : s.items.length < 131072
  · refine ⟨judgeUnknown_canonical c new h.canonical, fun t' r found => ?_, fun S => ?_,
      fun S t' => ?_⟩
    · rw [item_judgeUnknown new room] at found
      split at found
      · cases found; exact ⟨nofun, nofun⟩
      · exact h.sound t' r found
    · rw [sec_judgeUnknown room]
      split <;> exact h.nodup S
    · have expected : ((judgeUnknown c t s).state.sec S).expected = (s.sec S).expected := by
        rw [sec_judgeUnknown room]
        split
        · subst_vars; rfl
        · rfl
      rw [expected, h.home, State.homeOf, State.homeOf, item_judgeUnknown new room]
      split
      · subst_vars; simp [new, Sys2Proof.Machine.provisional]
      · rfl
  · rw [judgeUnknown_of_full (not_lt.mp room)]
    exact h.of_alike (s.raise_alike _).toAlike

theorem Lists.provisional (h : Lists s) {c : Context} {r : Item} (found : s.item? r.tag = some r) :
    Lists (judgeProvisional c r s).state := by
  have canonical := h.canonical.of_tags (tags_judgeProvisional s c r)
  have sound := h.sound r.tag r found
  by_cases here : r.foundIn = some c.sec
  · rw [judgeProvisional_of_here here]
    exact h.of_alike (s.modItem_alike r.tag Item.sighted fun _ => rfl).toAlike
  · have wandered := judgeProvisional_wandered found here
    exact h.of_one canonical found wandered.item rfl ⟨sound.listed, sound.prior⟩
      fun S => by rw [wandered.sec]

theorem Lists.foreign (h : Lists s) {c : Context} {H : SecId} {r : Item}
    (found : s.item? r.tag = some r) : Lists (judgeForeign c H r s).state := by
  by_cases again : r.count = .elsewhere ∧ r.foundIn = some c.sec
  · rw [judgeForeign_of_again again]
    exact h.of_alike (s.sightAgain_alike c H r).toAlike
  · have strayed := judgeForeign_strayed (H := H) found again
    exact h.of_one (h.canonical.of_tags (tags_judgeForeign s c H r)) found strayed.item rfl
      (.enters nofun rfl) fun S => by rw [strayed.sec]

theorem Lists.judgeFresh (h : Lists s) {x : CtxId} {c : Context} {r : Item}
    (walk : s.ctx x = some c)
    (found : s.item? r.tag = some r) (fresh : r.Fresh) : Lists (judgeFresh x c r s).state := by
  obtain ⟨st, prior, others, d, attends, reached, u, ends, -⟩ := judgeFresh_ends walk found fresh
  generalize d.run = run at ends
  have homes (q : Item) : (others q).home = q.home ∧ (q.HomeSound → (others q).HomeSound) := by
    cases ends with
    | settles _ ends => exact ⟨(ends q).home, (ends q).homeSound⟩
    | begins ends => exact ⟨(ends q).home, (ends q).homeSound⟩
    | joins => exact ⟨rfl, id⟩
  have entered : (r.foundAtHome c s.clock st prior).HomeSound := by
    cases ends with
    | settles settled => exact .enters (by rcases settled with rfl | rfl <;> nofun) rfl
    | begins => exact ⟨fun _ => nofun, fun same =>
        Item.freshPrior_homeSound fresh (Option.some.inj same)⟩
    | joins => exact ⟨fun _ => nofun, fun same =>
        Item.freshPrior_homeSound fresh (Option.some.inj same)⟩
  refine h.of_changed (h.canonical.of_tags (tags_judgeFresh s x c r))
    (fun t q => if t = r.tag then r.foundAtHome c s.clock st prior else others q) (fun t => ?_)
    (fun t q at_t => ?_) (fun t q at_t => ?_) fun S => by rw [u.sec]
  · by_cases same : t = r.tag
    · subst same; rw [u.item, found]; simp
    · rw [u.others t same]; simp [same]
  · split
    · subst_vars; cases found.symm.trans at_t; rfl
    · exact (homes q).1
  · split
    · exact entered
    · exact (homes q).2 (h.sound t q at_t)

end Effects
end Sys2Proof.Machine

/-! # Proofs: home items and expected sequences in revisions, and in every step (R5, R11, R13, R15)
-/

namespace Sys2Proof.Machine

/-! ### A tag stood in a sequence, and one withdrawn -/

section Lists
variable {l : List Tag} {k : Nat} {t u : Tag}

theorem nodup_insertIdx (h : l.Nodup) (new : t ∉ l) (within : k ≤ l.length) :
    (l.insertIdx k t).Nodup :=
  (List.perm_insertIdx t l within).nodup_iff.mpr (List.nodup_cons.mpr ⟨new, h⟩)

theorem eraseIdx_idxOf (l : List Tag) (t : Tag) : l.eraseIdx (l.idxOf t) = l.erase t :=
  List.eraseIdx_idxOf_eq_erase t l

end Lists

section Insert
variable {s : State}

theorem State.sec_insert (S : SecId) (k : Nat) (r : Item) (X : SecId) :
    (((s.addItem r).insertAt S k r.tag).bump S).sec X =
      if X = S then { s.sec S with
        expected := (s.sec S).expected.insertIdx k r.tag
        revision := some s.fullRevision
        generation := (s.sec S).generation + 1 }
      else s.sec X := by
  rw [State.sec_bump, State.sec_insertAt]
  by_cases h : X = S
  · subst h; simp; rfl
  · rw [if_neg h, if_neg h, State.sec_insertAt, if_neg h]; rfl

theorem State.item_insert (S : SecId) (k : Nat) {r : Item} (new : s.item? r.tag = none) (t : Tag) :
    (((s.addItem r).insertAt S k r.tag).bump S).item? t =
      if t = r.tag then some r else s.item? t := by
  have items : (((s.addItem r).insertAt S k r.tag).bump S).items = (s.addItem r).items := by simp
  rw [State.item_of_items items]
  exact s.item_addItem r new t

theorem State.ctx_insert (S : SecId) (k : Nat) (r : Item) (y : CtxId) :
    (((s.addItem r).insertAt S k r.tag).bump S).ctx y = (s.ctx y).map fun c =>
      if (s.sec S).context = some y ∧ k < c.cursor then
      { c with cursor := c.cursor + 1 } else c := by
  rw [State.bump_ctx_eq, State.ctx_insertAt]
  rfl

/-- A new home record stood in its section's sequence (R11). -/
theorem Lists.insert (h : Lists s) {S : SecId} {k : Nat} {r : Item} (home : r.home = some S)
    (sound : r.HomeSound) (new : s.item? r.tag = none) (room : s.items.length < Config.maxItems)
    (within : k ≤ s.length S) : Lists (((s.addItem r).insertAt S k r.tag).bump S) := by
  have absent (X : SecId) : r.tag ∉ (s.sec X).expected := by
    rw [h.home X r.tag, State.homeOf, new]; nofun
  refine ⟨?_, fun t q at_t => ?_, fun X => ?_, fun X t => ?_⟩
  · rw [State.bump_items, State.insertAt_items]
    exact h.canonical.addItem new room
  · rw [State.item_insert S k new] at at_t
    split at at_t
    · cases at_t; exact sound
    · exact h.sound t q at_t
  · rw [State.sec_insert]
    split
    · exact nodup_insertIdx (h.nodup S) (absent S) within
    · exact h.nodup X
  · rw [State.homeOf, State.item_insert S k new, State.sec_insert]
    by_cases same : t = r.tag
    · subst same
      rw [if_pos rfl, Option.bind_some, home]
      split
      · subst_vars; simp [List.mem_insertIdx within]
      next other => simpa [absent X] using Ne.symm other
    · rw [if_neg same, ← State.homeOf, ← h.home]
      split
      · subst_vars; simp [List.mem_insertIdx within, same]
      · rfl

/-- A home record withdrawn (R13). -/
theorem Lists.retire (h : Lists s) {H : SecId} {r : Item} (found : s.item? r.tag = some r)
    (home : r.home = some H) : Lists (s.retire H r) := by
  have homeOf : s.homeOf r.tag = some H := by rw [State.homeOf, found]; exact home
  refine ⟨?_, fun t q at_t => ?_, fun X => ?_, fun X t => ?_⟩
  · exact h.canonical.of_thinned (p := fun q => !decide (q.tag = r.tag)) (f := id) (by simp)
      fun _ => rfl
  · rw [State.item_retire] at at_t
    split at at_t
    · cases at_t
    · exact h.sound t q at_t
  · rw [State.sec_retire, State.ordinal, eraseIdx_idxOf]
    dsimp only
    split
    · exact (h.nodup H).erase _
    · exact h.nodup X
  · rw [State.homeOf, State.item_retire, State.sec_retire, State.ordinal, eraseIdx_idxOf]
    dsimp only
    by_cases same : t = r.tag
    · subst same
      rw [if_pos rfl, Option.bind_none]
      split
      next => simp [(h.nodup H).mem_erase_iff]
      next other => simpa [h.home X, homeOf] using Ne.symm other
    · rw [if_neg same, ← State.homeOf, ← h.home]
      split
      next here => subst here; simp [(h.nodup X).mem_erase_iff, same]
      next => rfl

/-- A provisional record given a home (R15). -/
theorem Lists.adopt (h : Lists s) {S : SecId} {k : Nat} {r : Item} (found : s.item? r.tag = some r)
    (home : r.home = none) (within : k ≤ s.length S) : Lists (s.adopt S k r) := by
  have absent (X : SecId) : r.tag ∉ (s.sec X).expected := by
    rw [h.home X r.tag, State.homeOf, found, Option.bind_some, home]; nofun
  have item (t : Tag) : (s.adopt S k r).item? t = if t = r.tag then
      some { r with home := some S, circ := some .shelf, count := adoptedCount S r }
      else s.item? t := by
    rw [State.item_adopt, found]; rfl
  refine ⟨h.canonical.of_tags (s.tags_adopt _ _ _), fun t q at_t => ?_, fun X => ?_, fun X t => ?_⟩
  · rw [item] at at_t
    split at at_t
    · cases at_t
      refine ⟨fun _ => ?_, (h.sound _ r found).prior⟩
      show adoptedCount S r ≠ _
      unfold adoptedCount
      split <;> nofun
    · exact h.sound t q at_t
  · rw [State.sec_adopt]
    dsimp only
    split
    · exact nodup_insertIdx (h.nodup S) (absent S) within
    · exact h.nodup X
  · rw [State.homeOf, item, State.sec_adopt]
    dsimp only
    by_cases same : t = r.tag
    · subst same
      rw [if_pos rfl, Option.bind_some]
      split
      · subst_vars; simp [List.mem_insertIdx within]
      next other => simpa [absent X] using Ne.symm other
    · rw [if_neg same, ← State.homeOf, ← h.home]
      split
      · subst_vars; simp [List.mem_insertIdx within, same]
      · rfl

/-- The records found after SEC_UNLOAD (R19). -/
theorem ItemsCanonical.item_unload (h : ItemsCanonical s.items) (S : SecId) (t : Tag) :
    (s.unload S).item? t = ((s.item? t).filter fun r =>
      !(r.isHomeOf S || s.isProvisionalOf S r)).map
      fun r => if s.isStrayOf S r then r.unseen else r := by
  have filtered := h.item_filter (u := { s with
    items := s.items.filter fun r => !(r.isHomeOf S || s.isProvisionalOf S r) }) rfl t
  rw [State.item_of_map (s := { s with
    items := s.items.filter fun r => !(r.isHomeOf S || s.isProvisionalOf S r) })
    (f := fun r => if s.isStrayOf S r then r.unseen else r) (s.unload_items S)
    (fun r => ite_unseen_tag _ r), filtered]

/-- The home records of a section gone with its sequence (R19). -/
theorem Lists.unload (h : Lists s) (S : SecId) : Lists (s.unload S) := by
  have canonical := h.canonical.of_thinned (s.unload_items S) fun r => ite_unseen_tag _ r
  have homeOf (t : Tag) : (s.unload S).homeOf t = (s.homeOf t).filter fun X => X ≠ S := by
    rw [State.homeOf, h.canonical.item_unload, State.homeOf]
    cases s.item? t with
    | none => rfl
    | some r =>
      have same (q : Item) : (if s.isStrayOf S q then q.unseen else q).home = q.home :=
        Item.ite_home (f := Item.unseen) (fun _ => rfl) q
      by_cases ofS : r.home = some S
      · simp [Option.filter, Item.isHomeOf, ofS]
      · cases home : r.home with
        | none => by_cases chained : s.isProvisionalOf S r <;> simp [Option.filter,
            chained, home, same]
        | some X =>
          have other : X ≠ S := fun h => ofS (home.trans (congrArg some h))
          have kept : (r.isHomeOf S || s.isProvisionalOf S r) = false := by
            simp [Item.isHomeOf, State.isProvisionalOf, home, other]
          simp [Option.filter, kept, home, other, same]
  refine ⟨canonical, fun t q at_t => ?_, fun X => ?_, fun X t => ?_⟩
  · rw [h.canonical.item_unload, Option.map_eq_some_iff] at at_t
    obtain ⟨p, kept, rfl⟩ := at_t
    exact (h.sound t p (Option.filter_eq_some_iff.mp kept).1).ite .unseen
  · rw [State.sec_unload]
    split
    · exact List.nodup_nil
    · exact h.nodup X
  · rw [homeOf, State.sec_unload]
    split
    · subst_vars; simp [State.unloadedSec, SectionRec.blank]
    next other => rw [h.home]; simp [other]

end Insert

/-! ### Every step -/

/-- Every effect keeps home items and expected sequences in agreement. -/
theorem Effect.lists {s u : State} (h : Effect s u) (k : Lists s) : Lists u := by
  cases h with
  | alike h => exact k.of_alike h.toAlike
  | tables h => exact k.of_alike h
  | setting => exact k.of_same rfl fun _ => rfl
  | reset h => exact lists_reset.of_alike h.toAlike
  | lease w =>
    unfold State.loadLeaseOf
    split
    · exact k.of_same rfl fun _ => rfl
    · exact k
  | toggle => exact k.of_same rfl fun _ => rfl
  | start => exact k.startCampaign
  | close => exact k.closeCampaign
  | openRevision S =>
    refine k.of_same rfl fun X => ?_
    rw [State.sec_bump, State.sec_modSec, State.sec_modSec]
    split
    · subst_vars; simp
    · rfl
  | insert c isOpen new room within => exact k.insert rfl ⟨fun _ => nofun, nofun⟩ new room within
  | retire found home => exact k.retire found home
  | adopt found home _ within => exact k.adopt found home within
  | unload => exact k.unload _
  | recount => exact k.recount _
  | dropRecord found home => exact k.dropRecord found home
  | notice circ found _ moves writes => exact k.notice found moves writes
  | shelve found => exact k.shelve found
  | unclaim => exact k.of_same rfl fun _ => rfl
  | enqueue =>
    unfold State.enqueue
    split
    · exact k
    · exact k.of_same rfl fun _ => rfl
  | startWalk =>
    refine k.of_same rfl fun X => ?_
    rw [State.sec_startWalk]
    split
    · subst_vars; rfl
    · rfl
  | resumeWalk =>
    refine k.of_same rfl fun X => ?_
    rw [State.sec_resumeWalk]
    split
    · subst_vars; rfl
    · rfl
  | suspend _ _ h => exact k.suspend_grant h
  | complete => exact k.complete _ _
  | abandon => exact k.abandon _ _
  | park => exact k.of_same rfl fun _ => rfl
  | unknown _ new => exact k.unknown new
  | provisional _ found => exact k.provisional found
  | foreign _ found => exact k.foreign found
  | fresh walk found home new => exact k.judgeFresh walk found (k.fresh found home new)

theorem State.shut_items (s : State) (S : SecId) : (s.shut S).items = s.items := by
  unfold State.shut
  dsimp only
  split <;> rfl

theorem State.sec_shut (s : State) (S X : SecId) : (s.shut S).sec X =
    if X = S then { s.sec S with
      revision := none
      state := if (s.sec S).state = .empty then .ready else (s.sec S).state
      generation := (s.sec S).generation + if (s.sec S).state = .empty then 2 else 1 }
    else s.sec X := by
  unfold State.shut
  dsimp only
  by_cases empty : (s.sec S).state = .empty <;> by_cases here :
    X = S <;> simp [empty, here, BitVec.add_assoc]

theorem Lists.shut {s : State} (h : Lists s) (S : SecId) : Lists (s.shut S) :=
  h.of_same (s.shut_items S) fun X => by
    rw [State.sec_shut]
    split
    · subst_vars; rfl
    · rfl

theorem Reaches.lists {s u : State} (h : Reaches s u) (k : Lists s) : Lists u :=
  h.keeps (P := Lists) (fun _ _ effect => effect.lists)
    (fun _ S _ k => State.closeRevision_keeps (P := Lists) (fun _ _ effect => effect.lists)
      (fun _ _ _ k => k.of_same rfl fun _ => rfl) (k.shut S)) k

end Sys2Proof.Machine

/-! # Proofs: sections, walks and claims in agreement (R47, R49, R57, R136) -/

namespace Sys2Proof.Machine

/-! ### The invariant, with the claims on a released section excepted -/

/-- The wand walks in no context. -/
def State.Idle (s : State) (w : Wand) : Prop :=
  ∀ (x : CtxId) (c : Context), s.ctx x = some c → c.walker ≠ some w

/-- No walk can exist in the campaign state (R136). -/
def CampState.Still (st : CampState) : Prop := st = .stopped ∨ st = .closed

/-- `WalksSound`, but the entries that wait for the section `R`, which is just being released, may
wait for a section that is not WALKING. -/
structure WalksBut (R : Option SecId) (s : State) : Prop where
  names : ∀ S x, (s.sec S).context = some x ↔ ∃ c, s.ctx x = some c ∧ c.sec = S
  walked : ∀ S, (s.sec S).context.isSome = true ↔ (s.sec S).state.walked
  walker : ∀ x c, s.ctx x = some c → (c.walker.isSome = true ↔ (s.sec c.sec).state = .walking)
  lease : ∀ x c, s.ctx x = some c → c.lease.isSome = c.walker.isSome
  once : ∀ x y c d w, s.ctx x = some c → s.ctx y = some d → c.walker = some w → d.walker = some w →
    x = y
  nodup : (s.claims.map fun q => q.wand).Nodup
  idle : ∀ q ∈ s.claims, s.Idle q.wand
  waits : ∀ q ∈ s.claims, R ≠ some q.sec → (s.sec q.sec).state = .walking
  unclaimed : s.campaign.Still → s.claims = []
  unwalked : s.campaign.Still → ∀ x, s.ctx x = none

section Idle
variable {s : State}

theorem State.idle_iff {w : Wand} : s.walkOf w = none ↔ s.Idle w := by
  constructor
  · exact fun h x c walk => s.walkOf_eq_none h walk
  · intro h
    cases found : s.walkOf w with
    | none => rfl
    | some x =>
      obtain ⟨c, walk, walker⟩ := s.walkOf_eq_some found
      exact absurd walker (h x c walk)

end Idle

theorem walksSound_iff {s : State} : WalksSound s ↔ WalksBut none s := by
  constructor
  · rintro ⟨names, walked, walker, once, nodup, claims, still⟩
    exact ⟨names, walked, fun x c walk => (walker x c walk).1, fun x c walk =>
      (walker x c walk).2, once,
      nodup, fun q mem => State.idle_iff.mp (claims q mem).1, fun q mem _ => (claims q mem).2,
      fun st => (still st).1, fun st => (still st).2⟩
  · rintro ⟨names, walked, walker, lease, once, nodup, idle, waits, unclaimed, unwalked⟩
    exact ⟨names, walked, fun x c walk => ⟨walker x c walk, lease x c walk⟩, once, nodup,
      fun q mem => ⟨State.idle_iff.mpr (idle q mem), waits q mem nofun⟩,
      fun st => ⟨unclaimed st, unwalked st⟩⟩

/-! ### States with the same walks -/

/-- What the invariant sees of a context: its section, its walker, and whether a lease is loaded. -/
def Context.holder (c : Context) : SecId × Option Wand × Bool := (c.sec, c.walker, c.lease.isSome)

/-- The invariant sees no walk begin, end or change hands, and at most claims gone. -/
structure SameWalks (s u : State) : Prop where
  context : ∀ X, (u.sec X).context = (s.sec X).context
  walking : ∀ X, (u.sec X).state = .walking ↔ (s.sec X).state = .walking
  suspended : ∀ X, (u.sec X).state = .suspended ↔ (s.sec X).state = .suspended
  ctx : ∀ x, (u.ctx x).map Context.holder = (s.ctx x).map Context.holder
  claims : u.claims.Sublist s.claims
  still : u.campaign.Still → s.campaign.Still

namespace SameWalks
variable {s u : State}

/-- A context of `u`, seen in `s`. -/
theorem before (h : SameWalks s u) {x : CtxId} {c : Context} (walk : u.ctx x = some c) :
    ∃ d, s.ctx x = some d ∧ d.sec = c.sec ∧ d.walker = c.walker ∧ d.lease.isSome =
    c.lease.isSome := by
  have agree := h.ctx x
  rw [walk, Option.map_some, eq_comm, Option.map_eq_some_iff] at agree
  obtain ⟨d, walk', same⟩ := agree
  obtain ⟨sec, walker, lease⟩ : d.sec = c.sec ∧ d.walker = c.walker ∧
      d.lease.isSome = c.lease.isSome := by simpa [Context.holder] using same
  exact ⟨d, walk', sec, walker, lease⟩

/-- A context of `s`, seen in `u`. -/
theorem after (h : SameWalks s u) {x : CtxId} {c : Context} (walk : s.ctx x = some c) :
    ∃ d, u.ctx x = some d ∧ d.sec = c.sec := by
  have agree := h.ctx x
  rw [walk, Option.map_some, Option.map_eq_some_iff] at agree
  obtain ⟨d, walk', same⟩ := agree
  exact ⟨d, walk', congrArg Prod.fst same⟩

theorem idle (h : SameWalks s u) {w : Wand} (idle : s.Idle w) : u.Idle w := by
  intro x c walk
  obtain ⟨d, walk', -, walker, -⟩ := h.before walk
  exact walker ▸ idle x d walk'

/-- States with the same walks are sound alike. -/
theorem walksBut (h : SameWalks s u) {R : Option SecId} (k : WalksBut R s) : WalksBut R u where
  names S x := by
    rw [h.context, k.names]
    constructor
    · rintro ⟨c, walk, rfl⟩
      exact h.after walk
    · rintro ⟨c, walk, rfl⟩
      obtain ⟨d, walk', sec, -⟩ := h.before walk
      exact ⟨d, walk', sec⟩
  walked S := by
    rw [h.context, k.walked, SecState.walked, SecState.walked, h.walking, h.suspended]
  walker x c walk := by
    obtain ⟨d, walk', sec, walker, -⟩ := h.before walk
    rw [← walker, h.walking, ← sec]
    exact k.walker x d walk'
  lease x c walk := by
    obtain ⟨d, walk', -, walker, lease⟩ := h.before walk
    rw [← lease, ← walker]
    exact k.lease x d walk'
  once x y c d w hx hy hc hd := by
    obtain ⟨c', hx', -, hc', -⟩ := h.before hx
    obtain ⟨d', hy', -, hd', -⟩ := h.before hy
    exact k.once x y c' d' w hx' hy' (hc'.trans hc) (hd'.trans hd)
  nodup := k.nodup.sublist (h.claims.map _)
  idle q mem := h.idle (k.idle q (h.claims.subset mem))
  waits q mem other := (h.walking q.sec).mpr (k.waits q (h.claims.subset mem) other)
  unclaimed st := by
    have none := k.unclaimed (h.still st)
    exact List.sublist_nil.mp (none ▸ h.claims)
  unwalked st x := by
    have agree := h.ctx x
    rw [k.unwalked (h.still st) x, Option.map_none, Option.map_eq_none_iff] at agree
    exact agree

theorem refl (s : State) : SameWalks s s :=
  ⟨fun _ => rfl, fun _ => .rfl, fun _ => .rfl, fun _ => rfl, .refl _, id⟩

theorem trans {t : State} (h : SameWalks s t) (k : SameWalks t u) : SameWalks s u where
  context X := (k.context X).trans (h.context X)
  walking X := (k.walking X).trans (h.walking X)
  suspended X := (k.suspended X).trans (h.suspended X)
  ctx x := (k.ctx x).trans (h.ctx x)
  claims := k.claims.trans h.claims
  still st := h.still (k.still st)

/-- The sections' states and contexts, the walks, the claims and the campaign as they were. -/
theorem of_eq (sec : ∀ X, (u.sec X).context = (s.sec X).context ∧ (u.sec X).state = (s.sec X).state)
    (ctx : ∀ x, (u.ctx x).map Context.holder = (s.ctx x).map Context.holder)
    (claims : u.claims = s.claims := by rfl) (campaign : u.campaign = s.campaign := by rfl) :
    SameWalks s u :=
  ⟨fun X => (sec X).1, fun X => by rw [(sec X).2], fun X => by rw [(sec X).2], ctx,
    claims ▸ .refl _,
    by rw [campaign]; exact id⟩

theorem of_alike (h : Alike s u) : SameWalks s u := by
  refine .of_eq (fun X => ⟨?_, ?_⟩) (fun x => ?_) h.claims h.campaign
  · exact (congrArg SectionRec.context (h.sec X) : (u.sec X).core.context = _)
  · exact (congrArg SectionRec.state (h.sec X) : (u.sec X).core.state = _)
  · have holder (c : Context) : c.core.holder = c.holder := by
      simp [Context.core, Context.holder]
    have agree := congrArg (Option.map Context.holder) (h.ctx x)
    simpa [Option.map_map, Function.comp_def, holder] using agree

theorem of_kept (h : WalksKept s u) (same : SameOutside s u) : SameWalks s u := by
  refine .of_eq (fun X => ⟨?_, ?_⟩) (fun x => ?_) h.claims same.campaign
  · exact (congrArg SectionRec.context (h.sec X) : (u.sec X).settled.context = _)
  · exact (congrArg SectionRec.state (h.sec X) : (u.sec X).settled.state = _)
  · have agree := congrArg (Option.map fun l : SecId × Option Wand × List Tag × Option Nat =>
      (l.1, l.2.1, l.2.2.2.isSome)) (h.ctx x)
    simp only [Option.map_map] at agree
    exact agree

end SameWalks

end Sys2Proof.Machine

/-! # Proofs: walks begin, resume and end (R47 to R54) -/

namespace Sys2Proof.Machine

section Walks
variable {s u : State}

theorem WalksBut.mono {R : Option SecId} (h : WalksBut none s) : WalksBut R s :=
  { h with waits := fun q mem _ => h.waits q mem nofun }

/-- With no claim left on the released section, or that section WALKING, the walks are sound. -/
theorem WalksBut.settled {S : SecId} (h : WalksBut (some S) s)
    (granted : (s.sec S).state = .walking ∨ ∀ q ∈ s.claims, q.sec ≠ S) : WalksBut none s := by
  refine { h with waits := fun q mem _ => ?_ }
  by_cases here : q.sec = S
  · rcases granted with walking | none
    · rw [here, walking]
    · exact absurd here (none q mem)
  · exact h.waits q mem fun same => here (Option.some.inj same).symm

theorem WalksBut.context_eq {R : Option SecId} (h : WalksBut R s) {x : CtxId} {c : Context}
    (walk : s.ctx x = some c) : (s.sec c.sec).context = some x :=
  (h.names c.sec x).mpr ⟨c, walk, rfl⟩

theorem WalksBut.running {R : Option SecId} (h : WalksBut R s) {x : CtxId} {c : Context}
    (walk : s.ctx x = some c) : ¬ s.campaign.Still := fun still => by
  rw [h.unwalked still x] at walk
  cases walk

/-! ### One walk changed -/

/-- The walk of one section in one context begins, changes hands or ends; the others are as they
were. -/
structure OneWalk (s u : State) (S : SecId) (x : CtxId) : Prop where
  sec : ∀ X, X ≠ S → u.sec X = s.sec X
  ctx : ∀ y, y ≠ x → u.ctx y = s.ctx y
  before : (s.sec S).context = some x ∨ (s.sec S).context = none ∧ s.ctx x = none
  after : (u.ctx x = none ∧ (u.sec S).context = none ∧ ¬ (u.sec S).state.walked) ∨
    ∃ c, u.ctx x = some c ∧ c.sec = S ∧ (u.sec S).context = some x ∧ (u.sec S).state.walked ∧
      (c.walker.isSome = true ↔ (u.sec S).state = .walking) ∧ c.lease.isSome = c.walker.isSome ∧
      ∀ w, c.walker = some w → s.Idle w ∧ ∀ q ∈ u.claims, q.wand ≠ w
  claims : u.claims.Sublist s.claims
  campaign : u.campaign = s.campaign

namespace OneWalk
variable {S : SecId} {x : CtxId}

/-- No other context is one of the section, before or after. -/
theorem elsewhere (k : OneWalk s u S x) {R : Option SecId} (h : WalksBut R s) {y : CtxId}
    {c : Context}
    (other : y ≠ x) (walk : s.ctx y = some c) : c.sec ≠ S := by
  rintro rfl
  have named := h.context_eq walk
  rcases k.before with before | ⟨before, -⟩ <;> rw [before] at named
  · exact other (Option.some.inj named).symm
  · cases named

/-- No other section names the context, before or after. -/
theorem unnamed (k : OneWalk s u S x) {R : Option SecId} (h : WalksBut R s) {X : SecId}
    (other : X ≠ S) : (s.sec X).context ≠ some x := by
  intro named
  obtain ⟨c, walk, rfl⟩ := (h.names X x).mp named
  rcases k.before with before | ⟨-, free⟩
  · obtain ⟨d, walk', same⟩ := (h.names S x).mp before
    cases walk.symm.trans walk'
    exact other same
  · rw [free] at walk
    cases walk

/-- The new walker walked nowhere, and the other walkers walk where they did. -/
theorem once (k : OneWalk s u S x) {c d : Context} {y : CtxId} {w : Wand} (other : y ≠ x)
    (at_x : u.ctx x = some c) (at_y : u.ctx y = some d) (walker : c.walker = some w) :
    d.walker ≠ some w := by
  rw [k.ctx y other] at at_y
  rcases k.after with ⟨gone, -⟩ | ⟨e, walk, -, -, -, -, -, idle⟩
  · rw [gone] at at_x; cases at_x
  · cases walk.symm.trans at_x
    exact (idle w walker).1 y d at_y

/-- One walk changed leaves the walks sound, but for the claims on its section. -/
theorem walksBut (k : OneWalk s u S x) (h : WalksBut (some S) s) (running : ¬ s.campaign.Still) :
    WalksBut (some S) u where
  names X y := by
    by_cases hX : X = S <;> by_cases hy : y = x
    · subst hX hy
      rcases k.after with ⟨gone, unnamed, -⟩ | ⟨c, walk, sec, named, -⟩
      · simp [gone, unnamed]
      · simp [walk, named, sec]
    · subst hX
      have unnamed : (u.sec X).context ≠ some y := by
        rcases k.after with ⟨-, unnamed, -⟩ | ⟨c, -, -, named, -⟩
        · rw [unnamed]; nofun
        · rw [named]; exact fun same => hy (Option.some.inj same).symm
      refine iff_of_false unnamed ?_
      rintro ⟨c, walk, sec⟩
      exact k.elsewhere h hy (k.ctx y hy ▸ walk) sec
    · subst hy
      refine iff_of_false (k.sec X hX ▸ k.unnamed h hX) ?_
      rintro ⟨c, walk, sec⟩
      rcases k.after with ⟨gone, -⟩ | ⟨d, walk', sec', -⟩
      · rw [gone] at walk; cases walk
      · cases walk.symm.trans walk'
        exact hX (sec.symm.trans sec')
    · rw [k.sec X hX, k.ctx y hy]
      exact h.names X y
  walked X := by
    by_cases hX : X = S
    · subst hX
      rcases k.after with ⟨-, unnamed, unwalked⟩ | ⟨c, -, -, named, walked, -⟩
      · simp [unnamed, unwalked]
      · simp [named, walked]
    · rw [k.sec X hX]
      exact h.walked X
  walker y c walk := by
    by_cases hy : y = x
    · subst hy
      rcases k.after with ⟨gone, -⟩ | ⟨d, walk', rfl, -, -, walker, -⟩
      · rw [gone] at walk; cases walk
      · cases walk.symm.trans walk'
        exact walker
    · rw [k.ctx y hy] at walk
      rw [k.sec c.sec (k.elsewhere h hy walk)]
      exact h.walker y c walk
  lease y c walk := by
    by_cases hy : y = x
    · subst hy
      rcases k.after with ⟨gone, -⟩ | ⟨d, walk', -, -, -, -, lease, -⟩
      · rw [gone] at walk; cases walk
      · cases walk.symm.trans walk'
        exact lease
    · exact h.lease y c (k.ctx y hy ▸ walk)
  once y z c d w at_y at_z hc hd := by
    by_cases hy : y = x <;> by_cases hz : z = x
    · rw [hy, hz]
    · subst hy; exact absurd hd (k.once hz at_y at_z hc)
    · subst hz; exact absurd hc (k.once hy at_z at_y hd)
    · exact h.once y z c d w (k.ctx y hy ▸ at_y) (k.ctx z hz ▸ at_z) hc hd
  nodup := h.nodup.sublist (k.claims.map _)
  idle q mem y c walk walker := by
    by_cases hy : y = x
    · subst hy
      rcases k.after with ⟨gone, -⟩ | ⟨d, walk', -, -, -, -, -, idle⟩
      · rw [gone] at walk; cases walk
      · cases walk.symm.trans walk'
        exact (idle q.wand walker).2 q mem rfl
    · exact h.idle q (k.claims.subset mem) y c (k.ctx y hy ▸ walk) walker
  waits q mem other := by
    rw [k.sec q.sec fun same => other (congrArg some same.symm)]
    exact h.waits q (k.claims.subset mem) other
  unclaimed still := absurd (k.campaign ▸ still) running
  unwalked still := absurd (k.campaign ▸ still) running

end OneWalk

/-! ### Walks begin and resume (R50, R51) -/

section Grant
variable {S : SecId} {x : CtxId} {w : Wand}

theorem State.unclaim_sublist (w : Wand) : (s.unclaim w).claims.Sublist s.claims :=
    List.filter_sublist

theorem State.not_claimed_unclaim (w : Wand) : ∀ q ∈ (s.unclaim w).claims, q.wand ≠ w :=
    fun q mem => by
  simpa using (List.mem_filter.mp mem).2

/-- A new walk of a section without one, in a free context, by a wand that walks nowhere. -/
theorem WalksBut.startWalk (h : WalksBut (some S) s) (running : ¬ s.campaign.Still)
    (unwalked : ¬ (s.sec S).state.walked) (free : s.ctx x = none) (idle : s.Idle w) :
    WalksBut none ((s.unclaim w).startWalk x S w) := by
  have one : OneWalk s ((s.unclaim w).startWalk x S w) S x := {
    sec := fun X other => by rw [State.sec_startWalk, if_neg other]; rfl
    ctx := fun y other => by rw [State.ctx_startWalk, if_neg other]; rfl
    before := .inr ⟨by rw [← Option.not_isSome_iff_eq_none, h.walked]; exact unwalked, free⟩
    after := .inr ⟨s.newContext S w, by rw [State.ctx_startWalk, if_pos rfl]; rfl, rfl,
      by rw [State.sec_startWalk, if_pos rfl],
      by rw [State.sec_startWalk, if_pos rfl]; exact .inl rfl,
      by rw [State.sec_startWalk, if_pos rfl]; exact iff_of_true rfl rfl, rfl,
      fun v same => by cases same; exact ⟨idle, s.not_claimed_unclaim w⟩⟩
    claims := s.unclaim_sublist w
    campaign := rfl }
  exact (one.walksBut h running).settled (.inl (by rw [State.sec_startWalk, if_pos rfl]))

/-- A suspended walk resumed by a wand that walks nowhere. -/
theorem WalksBut.resumeWalk (h : WalksBut (some S) s) (context : (s.sec S).context = some x)
    (idle : s.Idle w) : WalksBut none ((s.unclaim w).resumeWalk x S w) := by
  obtain ⟨c, walk, rfl⟩ := (h.names S x).mp context
  have one : OneWalk s ((s.unclaim w).resumeWalk x c.sec w) c.sec x := {
    sec := fun X other => by rw [State.sec_resumeWalk, if_neg other]; rfl
    ctx := fun y other => by rw [State.ctx_resumeWalk, if_neg other]; rfl
    before := .inl context
    after := .inr ⟨{ c with walker := some w, lease := some s.fullLease },
      by rw [State.ctx_resumeWalk, if_pos rfl, State.unclaim_ctx_eq, walk]; rfl, rfl,
      by rw [State.sec_resumeWalk, if_pos rfl]; exact context,
      by rw [State.sec_resumeWalk, if_pos rfl]; exact .inl rfl,
      by rw [State.sec_resumeWalk, if_pos rfl]; exact iff_of_true rfl rfl, rfl,
      fun v same => by cases same; exact ⟨idle, s.not_claimed_unclaim w⟩⟩
    claims := s.unclaim_sublist w
    campaign := rfl }
  exact (one.walksBut h (h.running walk)).settled (.inl (by rw [State.sec_resumeWalk, if_pos rfl]))

/-- A release grants the oldest waiter, so that no claim on the section is left but on a WALKING
one. -/
theorem WalksBut.grantNext (h : WalksBut (some S) s)
    (released : (s.sec S).state = .suspended ∨ ¬ (s.sec S).state.walked ∧ ∃ x, s.ctx x = none) :
    WalksBut none (s.grantNext S) := by
  cases waiter : s.claims.find? fun q => q.sec = S with
  | none =>
    have none : ∀ q ∈ s.claims, q.sec ≠ S := by simpa using waiter
    rw [s.grantNext_none none]
    exact h.settled (.inr none)
  | some q =>
    have idle := h.idle q (List.mem_of_find?_eq_some waiter)
    rcases released with suspended | ⟨unwalked, x, free⟩
    · have walked := (h.walked S).mpr (.inr suspended)
      obtain ⟨x, context⟩ := Option.isSome_iff_exists.mp walked
      rw [s.grantNext_resume waiter suspended context]
      exact (SameWalks.of_alike (AlikeAll.of_eq).toAlike).walksBut (h.resumeWalk context idle)
    · obtain ⟨y, lowest, free', -⟩ := s.freeCtx_exists free
      rw [s.grantNext_fresh waiter (fun same => unwalked (.inr same)) lowest]
      refine (SameWalks.of_alike (AlikeAll.of_eq).toAlike).walksBut
        (h.startWalk (fun still => ?_) unwalked free' idle)
      have := List.mem_of_find?_eq_some waiter
      rw [h.unclaimed still] at this
      cases this

end Grant

end Walks

end Sys2Proof.Machine

/-! # Proofs: sections, walks and claims under every effect (R47 to R64, R136 to R145) -/

namespace Sys2Proof.Machine

section Effects
variable {s u : State}

/-! ### Suspension and the ends of walks -/

/-- A walk suspended, its section about to be released (R58). -/
theorem WalksBut.suspended (h : WalksBut none s) {x : CtxId} {c : Context} {w : Wand} {v : State}
    (walk : s.ctx x = some c) (same : AlikeAll (s.suspend x c w) v) :
    WalksBut (some c.sec) v ∧ (v.sec c.sec).state = .suspended := by
  have one : OneWalk s (s.suspend x c w) c.sec x := {
    sec := fun X other => by rw [State.sec_suspend, if_neg other]
    ctx := fun y other => by rw [State.ctx_suspend, if_neg other]
    before := .inl (h.context_eq walk)
    after := .inr ⟨{ c with walker := none, lease := none },
      by rw [State.ctx_suspend, if_pos rfl, walk]; rfl, rfl,
      by rw [State.sec_suspend, if_pos rfl]; exact h.context_eq walk,
      by rw [State.sec_suspend, if_pos rfl]; exact .inr rfl,
      by rw [State.sec_suspend, if_pos rfl]; exact iff_of_false nofun nofun, rfl, nofun⟩
    claims := .refl _
    campaign := rfl }
  refine ⟨(SameWalks.of_alike same.toAlike).walksBut (one.walksBut h.mono (h.running walk)), ?_⟩
  have agree : (v.sec c.sec).core.state = _ := congrArg SectionRec.state (same.sec c.sec)
  refine agree.trans ?_
  rw [State.sec_suspend, if_pos rfl]
  rfl

/-- A walk ended, its section about to be released: the section has entered a state without a walk,
and the context is free. -/
structure WalkEnded (s u : State) (x : CtxId) (c : Context) : Prop where
  others : ∀ X, X ≠ c.sec → u.sec X = s.sec X
  context : (u.sec c.sec).context = none
  unwalked : ¬ (u.sec c.sec).state.walked
  ctx : ∀ y, u.ctx y = if y = x then none else s.ctx y
  claims : u.claims = s.claims
  campaign : u.campaign = s.campaign

theorem WalkEnded.walksBut {x : CtxId} {c : Context} (k : WalkEnded s u x c) (h : WalksBut none s)
    (walk : s.ctx x = some c) : WalksBut (some c.sec) u := by
  have one : OneWalk s u c.sec x := {
    sec := k.others
    ctx := fun y other => by rw [k.ctx, if_neg other]
    before := .inl (h.context_eq walk)
    after := .inl ⟨by rw [k.ctx, if_pos rfl], k.context, k.unwalked⟩
    claims := k.claims ▸ .refl _
    campaign := k.campaign }
  exact one.walksBut h.mono (h.running walk)

theorem WalkEnded.grant {x : CtxId} {c : Context} (k : WalkEnded s u x c) (h : WalksBut none s)
    (walk : s.ctx x = some c) : WalksBut none (u.grantNext c.sec) :=
  (k.walksBut h walk).grantNext (.inr ⟨k.unwalked, x, by rw [k.ctx, if_pos rfl]⟩)

theorem State.completed_ends (s : State) (x : CtxId) (c : Context) :
    WalkEnded s (s.completed x c) x c where
  others X other := by rw [State.sec_completed, if_neg other]
  context := by rw [State.sec_completed, if_pos rfl]
  unwalked := by rw [State.sec_completed, if_pos rfl]; rintro (same | same) <;> cases same
  ctx := s.ctx_completed x c
  claims := s.completed_claims x c
  campaign := s.completed_campaign x c

theorem State.abandoned_ends (s : State) (x : CtxId) (c : Context) :
    WalkEnded s (s.abandoned x c) x c where
  others X other := by rw [State.sec_abandoned, if_neg other]
  context := by rw [State.sec_abandoned, if_pos rfl]
  unwalked := by
    rw [State.sec_abandoned, if_pos rfl]
    dsimp only
    split <;> rintro (same | same) <;> cases same
  ctx := s.ctx_abandoned x c
  claims := s.abandoned_claims x c
  campaign := s.abandoned_campaign x c

theorem State.walkedNow_iff (S : SecId) : s.walkedNow S = true ↔ ∃ x c, s.ctx x = some c ∧
    c.sec = S := by
  simp [State.walkedNow, List.any_eq_true, Option.any_eq_true]

/-- CAMP_CLOSE ends every walk and empties the claim queue (R144). -/
theorem WalksBut.closeCampaign (h : WalksBut none s) : WalksBut none s.closeCampaign := by
  have sec (X : SecId) : (s.closeCampaign.sec X).context = none ∧
      ¬ (s.closeCampaign.sec X).state.walked := by
    rw [State.sec_closeCampaign]
    dsimp only
    by_cases walked : s.walkedNow X
    · rw [if_pos walked, if_pos walked]
      exact ⟨rfl, by rintro (same | same) <;> cases same⟩
    · rw [if_neg walked, if_neg walked, ← h.walked, ← Option.not_isSome_iff_eq_none, and_self]
      intro context
      obtain ⟨x, context⟩ := Option.isSome_iff_exists.mp context
      obtain ⟨c, walk, sec⟩ := (h.names X x).mp context
      exact walked (s.walkedNow_iff X |>.mpr ⟨x, c, walk, sec⟩)
  have ctx := s.ctx_closeCampaign
  refine ⟨fun X x => ?_, fun X => ?_, ?_, ?_, ?_, List.nodup_nil, nofun, nofun, fun _ => rfl,
    fun _ => ctx⟩
  · rw [(sec X).1, ctx]; simp
  · simp [(sec X).1, (sec X).2]
  · intro x c walk; rw [ctx] at walk; cases walk
  · intro x c walk; rw [ctx] at walk; cases walk
  · intro x y c d w walk; rw [ctx] at walk; cases walk

/-! ### Claims (R52) -/

theorem State.find_claim_none {w : Wand} {S : SecId} (new : s.waitsFor w ≠ some S) :
    s.enqueue w S = { s with claims := (s.unclaim w).claims ++ [⟨w, S⟩] } := if_neg new

theorem WalksBut.enqueue (h : WalksBut none s) {w : Wand} {S : SecId}
    (running : s.campaign = .running)
    (idle : s.Idle w) (walking : (s.sec S).state = .walking) : WalksBut none (s.enqueue w S) := by
  by_cases waits : s.waitsFor w = some S
  · rw [State.enqueue, if_pos waits]; exact h
  rw [State.find_claim_none waits]
  have kept (q : Waiter) (mem : q ∈ (s.unclaim w).claims ++ [⟨w, S⟩]) :
    q ∈ s.claims ∨ q = ⟨w, S⟩ := by
    rcases List.mem_append.mp mem with mem | mem
    · exact .inl ((s.unclaim_sublist w).subset mem)
    · exact .inr (List.mem_singleton.mp mem)
  refine { h with
    nodup := ?_
    idle := fun q mem => ?_
    waits := fun q mem _ => ?_
    unclaimed := fun still => ?_ }
  · rw [List.map_append, List.nodup_append]
    refine ⟨h.nodup.sublist ((s.unclaim_sublist w).map _), by simp, ?_⟩
    intro a old b new
    obtain ⟨q, mem, rfl⟩ := List.mem_map.mp old
    simp only [List.map_cons, List.map_nil, List.mem_singleton] at new
    exact new ▸ s.not_claimed_unclaim w q mem
  · rcases kept q mem with mem | rfl
    · exact h.idle q mem
    · exact idle
  · rcases kept q mem with mem | rfl
    · exact h.waits q mem nofun
    · exact walking
  · rcases running ▸ still with same | same <;> cases same

/-! ### Leases (R57) -/

/-- A lease loaded is that of a walker, which has one. -/
theorem WalksBut.loadLeaseOf (h : WalksBut none s) (w : Wand) :
    WalksBut none (s.loadLeaseOf w) := by
  unfold State.loadLeaseOf
  split
  next x walks =>
    obtain ⟨c, walk, walker⟩ := s.walkOf_eq_some walks
    have lease : c.lease.isSome = true := by rw [h.lease x c walk, walker]; rfl
    have same : SameWalks s (s.modCtx x fun c => { c with lease := some s.fullLease }) := by
      refine .of_eq (fun _ => ⟨rfl, rfl⟩) fun y => ?_
      rw [State.ctx_modCtx]
      split
      · subst_vars
        rw [walk]
        simp [Context.holder, lease]
      · rfl
    exact same.walksBut h
  · exact h

/-! ### Sections, records and judgements -/

/-- Contexts changed but for what the invariant sees of them. -/
theorem map_holder {f : Context → Context} (hf : ∀ c, (f c).holder = c.holder)
    (o : Option Context) :
    (o.map f).map Context.holder = o.map Context.holder := by
  rw [Option.map_map]
  exact congrArg (fun g => o.map g) (funext hf)

theorem SameWalks.insert (S : SecId) (k : Nat) (r : Item) :
    SameWalks s (((s.addItem r).insertAt S k r.tag).bump S) := by
  refine .of_eq (fun X => ?_) (fun y => ?_) ?_ ?_
  · rw [State.sec_insert]
    split
    · subst_vars; exact ⟨rfl, rfl⟩
    · exact ⟨rfl, rfl⟩
  · rw [State.ctx_insert]
    exact map_holder (fun c => by split <;> rfl) _
  · unfold State.insertAt State.shiftCursor
    split <;> rfl
  · unfold State.insertAt State.shiftCursor
    split <;> rfl

theorem ctx_holder_leavePlace (r : Item) (y : CtxId) :
    ((s.leavePlace r).ctx y).map Context.holder = (s.ctx y).map Context.holder := by
  rw [State.ctx_leavePlace]
  exact map_holder (fun c => by split <;> rfl) _

/-- The records, the sections and the contexts alone may differ. -/
def ListsOnly (s u : State) : Prop :=
  u = { s with items := u.items, sections := u.sections, contexts := u.contexts }

theorem ListsOnly.refl (s : State) : ListsOnly s s := rfl

theorem ListsOnly.trans {t : State} (h : ListsOnly s t) (k : ListsOnly t u) : ListsOnly s u := by
  unfold ListsOnly at *
  conv_lhs => rw [k, h]

theorem ListsOnly.ite {t : State} {p : Prop} [Decidable p] (h : ListsOnly s t) (k : ListsOnly s u) :
    ListsOnly s (if p then t else u) := by split <;> assumption

theorem State.shiftCursor_only (S : SecId) (f : Nat → Nat) : ListsOnly s (s.shiftCursor S f) := by
  unfold State.shiftCursor ListsOnly
  split <;> rfl

theorem State.modSec_only (S : SecId) (f : SectionRec → SectionRec) :
    ListsOnly s (s.modSec S f) := rfl

theorem State.insertAt_only (S : SecId) (k : Nat) (t : Tag) : ListsOnly s (s.insertAt S k t) :=
  ListsOnly.trans (State.modSec_only S _) (State.shiftCursor_only S _)

theorem State.removeAt_only (S : SecId) (k : Nat) : ListsOnly s (s.removeAt S k) :=
  ListsOnly.trans (State.modSec_only S _) (State.shiftCursor_only S _)

theorem State.leaveChainOf_only (F : Option SecId) (t : Tag) :
    ListsOnly s (s.leaveChainOf F t) := by
  unfold State.leaveChainOf ListsOnly
  split <;> rfl

theorem State.leavePlace_only (r : Item) : ListsOnly s (s.leavePlace r) := by
  unfold State.leavePlace
  refine .ite (State.leaveChainOf_only _ _) (.ite ?_ rfl)
  unfold ListsOnly
  split <;> rfl

theorem State.mapSecs_only (f : SecId → SectionRec → SectionRec) : ListsOnly s (s.mapSecs f) := by
  simp only [ListsOnly, State.mapSecs]

theorem State.bumpWhere_only (p : SecId → Bool) : ListsOnly s (s.bumpWhere p) :=
  State.mapSecs_only _

theorem State.modItems_only (p : Item → Bool) (f : Item → Item) :
    ListsOnly s (s.modItems p f) := rfl

theorem State.modItem_only (t : Tag) (f : Item → Item) : ListsOnly s (s.modItem t f) := rfl

theorem State.dropItems_only (p : Item → Bool) : ListsOnly s (s.dropItems p) := rfl

theorem State.addItem_only (r : Item) : ListsOnly s (s.addItem r) := rfl

theorem State.retire_only (H : SecId) (r : Item) : ListsOnly s (s.retire H r) :=
  (((State.leavePlace_only r).trans (State.removeAt_only _ _)).trans
    (State.dropItems_only _)).trans (State.bumpWhere_only _)

theorem State.adopt_only (S : SecId) (k : Nat) (r : Item) : ListsOnly s (s.adopt S k r) :=
  (((State.modItem_only r.tag _).trans (.ite (State.modSec_only S _) (.refl _))).trans
    (State.insertAt_only S k r.tag)).trans (State.bumpWhere_only _)

theorem State.insert_only (S : SecId) (k : Nat) (r : Item) :
    ListsOnly s (((s.addItem r).insertAt S k r.tag).bump S) :=
  ((State.addItem_only r).trans (State.insertAt_only S k r.tag)).trans
    (State.modSec_only S _)

theorem ListsOnly.claims (h : ListsOnly s u) : u.claims = s.claims := by
  unfold ListsOnly at h
  rw [h]

theorem ListsOnly.campaign (h : ListsOnly s u) : u.campaign = s.campaign := by
  unfold ListsOnly at h
  rw [h]

theorem SameWalks.retire (H : SecId) (r : Item) : SameWalks s (s.retire H r) := by
  refine .of_eq (fun X => ?_) (fun y => ?_) (State.retire_only H r).claims
    (State.retire_only H r).campaign
  · rw [State.sec_retire]; exact ⟨rfl, rfl⟩
  · rw [State.ctx_retire, map_holder (fun c => by split <;> rfl), ctx_holder_leavePlace]

theorem SameWalks.adopt (S : SecId) (k : Nat) (r : Item) : SameWalks s (s.adopt S k r) := by
  refine .of_eq (fun X => ?_) (fun y => ?_) (State.adopt_only S k r).claims
    (State.adopt_only S k r).campaign
  · rw [State.sec_adopt]; exact ⟨rfl, rfl⟩
  · rw [State.ctx_adopt, map_holder (fun c => by split <;> rfl)]

theorem SameWalks.shelve (H : SecId) (r : Item) : SameWalks s (s.shelve H r) := by
  refine .of_kept ?_ (s.shelve_same H r)
  exact ((s.leavePlace_kept r).trans (State.modItem_kept _ r.tag _)).trans
    (State.bumpWhere_kept _ _)

/-- The state a section is left with does not make or end a walk, from one of a section without one.
-/
theorem SameWalks.of_unwalked {S : SecId}
    (still : (s.sec S).state = .ready ∨ (s.sec S).state = .tallied)
    (others : ∀ X, X ≠ S → (u.sec X).context = (s.sec X).context ∧ (u.sec X).state =
      (s.sec X).state)
    (context : (u.sec S).context = (s.sec S).context) (unwalked : ¬ (u.sec S).state.walked)
    (contexts : u.contexts = s.contexts) (claims : u.claims = s.claims)
    (campaign : u.campaign = s.campaign) : SameWalks s u := by
  have before : ¬ (s.sec S).state.walked := by
    rcases still with same | same <;> rw [same] <;> rintro (same | same) <;> cases same
  refine ⟨fun X => ?_, fun X => ?_, fun X => ?_, fun y => by rw [State.ctx_of_contexts contexts],
    claims ▸ .refl _, by rw [campaign]; exact id⟩
  · by_cases here : X = S
    · rw [here]; exact context
    · exact (others X here).1
  · by_cases here : X = S
    · rw [here]; exact iff_of_false (unwalked ∘ .inl) (before ∘ .inl)
    · rw [(others X here).2]
  · by_cases here : X = S
    · rw [here]; exact iff_of_false (unwalked ∘ .inr) (before ∘ .inr)
    · rw [(others X here).2]

theorem WalksBut.context_none {R : Option SecId} (h : WalksBut R s) {S : SecId}
    (still : (s.sec S).state = .ready ∨ (s.sec S).state = .tallied) : (s.sec S).context = none := by
  rw [← Option.not_isSome_iff_eq_none, h.walked]
  rcases still with same | same <;> rw [same] <;> rintro (same | same) <;> cases same

theorem WalksBut.unload (h : WalksBut none s) {S : SecId}
    (still : (s.sec S).state = .ready ∨ (s.sec S).state = .tallied) :
    WalksBut none (s.unload S) := by
  refine (SameWalks.of_unwalked still (fun X other => ?_) ?_ ?_ (s.unload_contexts S)
    (by simp [State.unload])
    (by simp [State.unload])).walksBut h
  · rw [State.sec_unload, if_neg other]; exact ⟨rfl, rfl⟩
  · rw [State.sec_unload, if_pos rfl, h.context_none still]; rfl
  · rw [State.sec_unload, if_pos rfl]; rintro (same | same) <;> cases same

theorem SameWalks.recount {S : SecId} (still : (s.sec S).state = .ready ∨
    (s.sec S).state = .tallied) :
    SameWalks s (s.recount S) := by
  refine .of_unwalked still (fun X other => ?_) ?_ ?_ (s.recount_contexts S)
    (by simp [State.recount])
    (by simp [State.recount])
  · rw [State.sec_recount, if_neg other]; exact ⟨rfl, rfl⟩
  · rw [State.sec_recount, if_pos rfl]; rfl
  · rw [State.sec_recount, if_pos rfl]; rintro (same | same) <;> cases same

theorem SecState.started_eq {st k : SecState} (walked : k = .walking ∨ k = .suspended) :
    st.started = k ↔ st = k := by
  rcases walked with rfl | rfl <;> cases st <;> simp [SecState.started]

theorem SameWalks.startCampaign (before : s.campaign.Still) : SameWalks s s.startCampaign := by
  have sec (X : SecId) : (s.startCampaign.sec X).context = (s.sec X).context ∧
      (s.startCampaign.sec X).state = (s.sec X).state.started := by
    rw [State.sec_startCampaign]; exact ⟨rfl, rfl⟩
  have claims : s.startCampaign.claims = s.claims := by simp [State.startCampaign]
  constructor
  case context => exact fun X => (sec X).1
  case walking => intro X; rw [(sec X).2, SecState.started_eq (.inl rfl)]
  case suspended => intro X; rw [(sec X).2, SecState.started_eq (.inr rfl)]
  case ctx => intro y; rw [State.ctx_of_contexts s.startCampaign_contexts]
  case claims => rw [claims]
  case still => exact fun _ => before

theorem SameWalks.shut (S : SecId) : SameWalks s (s.shut S) := by
  have claims : (s.shut S).claims = s.claims := by
    unfold State.shut
    dsimp only
    split <;> rfl
  have campaign : (s.shut S).campaign = s.campaign := by
    unfold State.shut
    dsimp only
    split <;> rfl
  have contexts : (s.shut S).contexts = s.contexts := by
    unfold State.shut
    dsimp only
    split <;> rfl
  have state (X : SecId) (k : SecState) (walked : k = .walking ∨ k = .suspended) :
      ((s.shut S).sec X).state = k ↔ (s.sec X).state = k := by
    rw [State.sec_shut]
    by_cases here : X = S
    · subst here
      rcases walked with rfl | rfl <;> cases (s.sec X).state <;> simp
    · rw [if_neg here]
  refine ⟨fun X => ?_, fun X => state X _ (.inl rfl), fun X => state X _ (.inr rfl),
    fun y => by rw [State.ctx_of_contexts contexts], claims ▸ .refl _, by rw [campaign]; exact id⟩
  rw [State.sec_shut]
  split
  · subst_vars; rfl
  · rfl

theorem walksBut_reset : WalksBut none State.reset := by
  have blank := State.sec_reset
  have free := State.ctx_reset
  refine ⟨fun X y => ?_, fun X => ?_, fun y c walk => ?_, fun y c walk => ?_,
    fun y z c d w walk => ?_,
    List.nodup_nil, nofun, nofun, fun _ => rfl, fun _ => free⟩
  · rw [blank, free]; simp [SectionRec.blank]
  · rw [blank]; simp [SectionRec.blank, SecState.walked]
  · rw [free] at walk; cases walk
  · rw [free] at walk; cases walk
  · rw [free] at walk; cases walk

/-! ### Every step -/

theorem WalksBut.of_same {R : Option SecId} (k : WalksBut R s) (h : SameWalks s u) : WalksBut R u :=
  h.walksBut k

/-- Every effect keeps the walks, the sections and the claim queue in agreement. -/
theorem Effect.walks (h : Effect s u) (k : WalksBut none s) : WalksBut none u := by
  cases h with
  | alike h => exact k.of_same (.of_alike h.toAlike)
  | tables h => exact k.of_same (.of_alike h)
  | setting => exact k.of_same (.of_eq (fun _ => ⟨rfl, rfl⟩) fun _ => rfl)
  | reset h => exact (SameWalks.of_alike h.toAlike).walksBut walksBut_reset
  | lease w => exact k.loadLeaseOf w
  | toggle _ after =>
    refine k.of_same ⟨fun _ => rfl, fun _ => .rfl, fun _ => .rfl, fun _ => rfl, .refl _, ?_⟩
    rcases after with rfl | rfl <;> rintro (same | same) <;> cases same
  | start before => exact (SameWalks.startCampaign before).walksBut k
  | close => exact k.closeCampaign
  | openRevision S =>
    refine k.of_same (.of_eq (fun X => ?_) fun _ => rfl)
    rw [State.sec_bump, State.sec_modSec, State.sec_modSec]
    split
    · subst_vars; exact ⟨by simp, by simp⟩
    · exact ⟨rfl, rfl⟩
  | insert c => exact (SameWalks.insert _ _ (homeRecord _ _ c)).walksBut k
  | retire => exact (SameWalks.retire _ _).walksBut k
  | adopt => exact (SameWalks.adopt _ _ _).walksBut k
  | unload still => exact k.unload still
  | recount still => exact (SameWalks.recount still).walksBut k
  | @dropRecord r =>
    have only := ((State.leaveChainOf_only (s := s) r.foundIn r.tag).trans
      (rfl : ListsOnly _ (State.dropItems _ fun q => q.tag = r.tag))).trans
      (State.bumpWhere_only fun X => some X = r.foundIn)
    refine k.of_same (.of_eq (fun X => ?_) (fun y => ?_) only.claims only.campaign)
    · rw [State.sec_dropRecord]
      split <;> exact ⟨rfl, rfl⟩
    · rw [State.ctx_of_contexts (State.dropRecord_contexts r)]
  | notice => exact k.of_same (.of_eq (fun _ => ⟨rfl, rfl⟩) fun _ => rfl)
  | shelve => exact (SameWalks.shelve _ _).walksBut k
  | unclaim w =>
    exact k.of_same
      ⟨fun _ => rfl, fun _ => .rfl, fun _ => .rfl, fun _ => rfl, s.unclaim_sublist w, id⟩
  | enqueue running idle walking => exact k.enqueue running (State.idle_iff.mp idle) walking
  | startWalk running idle still free =>
    refine k.mono.startWalk ?_ ?_ (s.freeCtx_eq_some.mp free).1 (State.idle_iff.mp idle)
    · rw [running]; rintro (same | same) <;> cases same
    · rcases still with same | same <;> rw [same] <;> rintro (same | same) <;> cases same
  | resumeWalk _ idle _ walk => exact k.mono.resumeWalk walk (State.idle_iff.mp idle)
  | suspend walk _ h =>
    obtain ⟨released, suspended⟩ := k.suspended walk h
    exact released.grantNext (.inl suspended)
  | complete walk => exact (s.completed_ends _ _).grant k walk
  | abandon walk => exact (s.abandoned_ends _ _).grant k walk
  | park =>
    refine k.of_same (.of_eq (fun _ => ⟨rfl, rfl⟩) fun y => ?_)
    rw [State.ctx_modCtx]
    split
    · subst_vars; exact map_holder (f := fun d => { d with park := d.park ++ [_] }) (fun _ => rfl) _
    · rfl
  | unknown => exact k.of_same (.of_kept (judgeUnknown_kept _ _) (judgeUnknown_same _ _ _))
  | provisional => exact k.of_same (.of_kept (judgeProvisional_kept _ _)
      (judgeProvisional_same _ _ _))
  | foreign => exact k.of_same (.of_kept (judgeForeign_kept _ _ _) (judgeForeign_same _ _ _ _))
  | fresh => exact k.of_same (.of_kept (judgeFresh_kept _ _ _ _) (judgeFresh_same _ _ _ _))

theorem SameWalks.withPark (x : CtxId) (rest : List Tag) : SameWalks s (s.withPark x rest) := by
  refine .of_eq (fun _ => ⟨rfl, rfl⟩) fun y => ?_
  rw [State.withPark, State.ctx_modCtx]
  split
  · subst_vars; exact map_holder (f := fun c => { c with park := rest }) (fun _ => rfl) _
  · rfl

theorem Reaches.walks (h : Reaches s u) (k : WalksBut none s) : WalksBut none u :=
  h.keeps (P := WalksBut none) (fun _ _ effect => effect.walks)
    (fun _ S _ k => State.closeRevision_keeps (P := WalksBut none) (fun _ _ effect => effect.walks)
      (fun _ x rest k => (SameWalks.withPark x rest).walksBut k) ((SameWalks.shut S).walksBut k)) k

end Effects

end Sys2Proof.Machine

/-! # Proofs: findings, foreign chains and runs by tags (R2, R73, R74, R106) -/

namespace Sys2Proof.Machine

/-! ### Ascending ordinals -/

section Ordinals
variable {l run : List Tag}

theorem pairwise_idxOf (nodup : l.Nodup) : l.Pairwise fun t u => l.idxOf t < l.idxOf u := by
  rw [List.pairwise_iff_getElem]
  intro i j hi hj less
  rwa [nodup.idxOf_getElem, nodup.idxOf_getElem]

/-- Tags of a sequence that stand in ascending ordinal order are a part of it, and the other way
round. -/
theorem sublist_iff_ordinals (nodup : l.Nodup) :
    run.Sublist l ↔ (∀ t ∈ run, t ∈ l) ∧ run.Pairwise fun t u => l.idxOf t < l.idxOf u := by
  constructor
  · exact fun h => ⟨fun t mem => h.subset mem, (pairwise_idxOf nodup).sublist h⟩
  · rintro ⟨mem, ascends⟩
    have distinct : run.Nodup := ascends.imp fun less same => by subst same; exact lt_irrefl _ less
    have antisymm : Std.Antisymm fun t u => l.idxOf t < l.idxOf u :=
      ⟨fun t u less more => absurd (less.trans more) (lt_irrefl _)⟩
    exact List.sublist_of_subperm_of_pairwise (List.subperm_of_subset distinct mem) ascends
      (pairwise_idxOf nodup)

end Ordinals

/-! ### Where a record stands -/

/-- The walk on a section, if there is one. -/
def State.walkAt (s : State) (S : SecId) : Option Context := (s.sec S).context.bind s.ctx

/-- The run list of the walk on a section. -/
def State.runAt (s : State) (S : SecId) : List Tag := ((s.walkAt S).map Context.run).getD []

/-- The cursor of the walk on a section. -/
def State.cursorAt (s : State) (S : SecId) : Nat := ((s.walkAt S).map Context.cursor).getD 0

/-- The section in whose run a record stands, if it is HELD (R74). -/
def Item.heldSec (r : Item) : Option SecId := if r.count = .held then r.home else none

/-- The section on whose foreign chain the record of a tag belongs (R106). -/
def State.chainOf (s : State) (t : Tag) : Option SecId := (s.item? t).bind Item.chainSec

/-- The section in whose run the record of a tag belongs (R74). -/
def State.heldOf (s : State) (t : Tag) : Option SecId := (s.item? t).bind Item.heldSec

/-- The record of a tag has the fields of its count state, and stands on the chain and in the run
where it belongs alone. -/
structure FoundSound (s : State) (t : Tag) : Prop where
  fields : ∀ r, s.item? t = some r → r.FieldsSound
  chain : ∀ S, t ∈ (s.sec S).chain ↔ s.chainOf t = some S
  run : ∀ S, t ∈ s.runAt S ↔ s.heldOf t = some S

/-- What `RecordsSound`, `ChainsSound`, `CursorsSound` and `RunsSound` say, by tags and sections. -/
structure Findings (s : State) : Prop where
  found : ∀ t, FoundSound s t
  nodup : ∀ S, (s.sec S).chain.Nodup
  ascends : ∀ S, (s.runAt S).Sublist (s.sec S).expected
  short : ∀ S, (s.runAt S).length ≤ 7
  cursor : ∀ S, s.cursorAt S ≤ (s.sec S).expected.length

section Walks
variable {s : State} (h : WalksBut none s)
include h

theorem WalksBut.walkAt_of_ctx {x : CtxId} {c : Context} (walk : s.ctx x = some c) :
    s.walkAt c.sec = some c := by
  rw [State.walkAt, h.context_eq walk]
  exact walk

theorem WalksBut.ctx_of_walkAt {S : SecId} {c : Context} (walk : s.walkAt S = some c) :
    ∃ x, s.ctx x = some c ∧ c.sec = S := by
  obtain ⟨x, context, walk⟩ := Option.bind_eq_some_iff.mp walk
  obtain ⟨d, walk', sec⟩ := (h.names S x).mp context
  cases walk.symm.trans walk'
  exact ⟨x, walk, sec⟩

theorem WalksBut.runAt_of_ctx {x : CtxId} {c : Context} (walk : s.ctx x = some c) :
    s.runAt c.sec = c.run := by
  rw [State.runAt, h.walkAt_of_ctx walk]; rfl

theorem WalksBut.cursorAt_of_ctx {x : CtxId} {c : Context} (walk : s.ctx x = some c) :
    s.cursorAt c.sec = c.cursor := by
  rw [State.cursorAt, h.walkAt_of_ctx walk]; rfl

/-- What holds of every walk's section and run holds of every section's. -/
theorem WalksBut.forall_walk {p : SecId → Option Context → Prop} (none : ∀ S, p S none)
    (walks : ∀ x c, s.ctx x = some c → p c.sec (some c)) (S : SecId) : p S (s.walkAt S) := by
  cases walk : s.walkAt S with
  | none => exact none S
  | some c =>
    obtain ⟨x, walk', rfl⟩ := h.ctx_of_walkAt walk
    exact walks x c walk'

end Walks

section Iff
variable {s : State} (walks : WalksBut none s) (lists : Lists s)
include walks lists

theorem findings_iff : Findings s ↔ RecordsSound s ∧ ChainsSound s ∧ CursorsSound s ∧
    RunsSound s := by
  have chained (t : Tag) (S : SecId) :
      (∃ r ∈ s.items, r.tag = t ∧ r.count.OnChain ∧ r.foundIn = some S) ↔ s.chainOf t = some S := by
    rw [lists.canonical.exists_iff, State.chainOf, State.bind_item_eq_some]
    simp [Item.chainSec, CountState.OnChain]
  constructor
  · rintro ⟨found, nodup, ascends, short, cursor⟩
    refine ⟨lists.canonical.forall_iff.mpr fun t => (found t).fields, fun S =>
      ⟨nodup S, fun t => ?_⟩,
      fun x c walk => ?_, lists.canonical.forall_iff.mpr fun t r at_t held => ?_,
        fun x c walk => ?_⟩
    · rw [chained, (found t).chain]
    · rw [← walks.cursorAt_of_ctx walk]; exact cursor c.sec
    · obtain ⟨H, home⟩ := Option.ne_none_iff_exists'.mp
        (mt ((found t).fields r at_t).1.mp (by rw [held]; nofun))
      have inRun : t ∈ s.runAt H := by
        rw [(found t).run, State.heldOf, at_t, Option.bind_some, Item.heldSec, if_pos held, home]
      cases walk : s.walkAt H with
      | none => rw [State.runAt, walk] at inRun; cases inRun
      | some c =>
        obtain ⟨x, walk', rfl⟩ := walks.ctx_of_walkAt walk
        rw [walks.runAt_of_ctx walk'] at inRun
        exact ⟨x, c, walk', home, s.item_tag at_t ▸ inRun⟩
    · have run := ascends c.sec
      have length := short c.sec
      rw [walks.runAt_of_ctx walk] at run length
      refine ⟨fun t mem => ?_, ((sublist_iff_ordinals (lists.nodup c.sec)).mp run).2, length⟩
      rw [lists.canonical.exists_iff]
      rw [← walks.runAt_of_ctx walk, (found t).run, State.heldOf, State.bind_item_eq_some] at mem
      obtain ⟨r, at_t, heldIn⟩ := mem
      obtain ⟨held, home⟩ : r.count = .held ∧ r.home = some c.sec := by
        simpa [Item.heldSec] using heldIn
      exact ⟨r, at_t, home, held⟩
  · rintro ⟨records, chains, cursors, held, runs⟩
    have held' (t : Tag) (S : SecId) : t ∈ s.runAt S ↔ s.heldOf t = some S := by
      rw [State.heldOf, State.bind_item_eq_some]
      constructor
      · intro mem
        cases walk : s.walkAt S with
        | none => rw [State.runAt, walk] at mem; cases mem
        | some c =>
          obtain ⟨x, walk', rfl⟩ := walks.ctx_of_walkAt walk
          rw [walks.runAt_of_ctx walk'] at mem
          obtain ⟨r, at_t, home, held⟩ := lists.canonical.exists_iff.mp ((runs x c walk').1 t mem)
          exact ⟨r, at_t, by rw [Item.heldSec, if_pos held, home]⟩
      · rintro ⟨r, at_t, heldIn⟩
        obtain ⟨count, home⟩ : r.count = .held ∧ r.home = some S := by
          simpa [Item.heldSec] using heldIn
        obtain ⟨x, c, walk, home', mem⟩ := held r (s.item_mem at_t) count
        cases home.symm.trans home'
        rwa [walks.runAt_of_ctx walk, ← s.item_tag at_t]
    refine ⟨fun t => ⟨fun r at_t => records r (s.item_mem at_t), fun S => ?_, held' t⟩,
      fun S => (chains S).1, fun S => ?_, fun S => ?_, fun S => ?_⟩
    · rw [(chains S).2, chained]
    · refine walks.forall_walk (p := fun S o =>
        ((o.map Context.run).getD []).Sublist (s.sec S).expected) (fun _ => List.nil_sublist _)
        (fun x c walk => ?_) S
      refine (sublist_iff_ordinals (lists.nodup c.sec)).mpr ⟨fun t mem => ?_, (runs x c walk).2.1⟩
      obtain ⟨r, at_t, home, -⟩ := lists.canonical.exists_iff.mp ((runs x c walk).1 t mem)
      rw [lists.home, State.homeOf, at_t, Option.bind_some, home]
    · exact walks.forall_walk (p := fun _ o => ((o.map Context.run).getD []).length ≤ 7)
        (fun _ => Nat.zero_le _) (fun x c walk => (runs x c walk).2.2) S
    · exact walks.forall_walk (p := fun S o =>
        (o.map Context.cursor).getD 0 ≤ (s.sec S).expected.length) (fun _ => Nat.zero_le _)
        (fun x c walk => cursors x c walk) S

end Iff

end Sys2Proof.Machine

/-! # Proofs: fields by count state, and rules for findings (R2, R74, R106) -/

namespace Sys2Proof.Machine

/-! ### The fields of a record (R2) -/

/-- A count state without a finding. -/
def CountState.Away (c : CountState) : Prop := ¬ c.AtHome ∧ ¬ c.OnChain

theorem CountState.away_iff (c : CountState) : c.Away ↔
    c = .unseen ∨ c = .passed ∨ c = .notFound ∨ c = .desk ∨ c = .missing := by
  cases c <;> simp [CountState.Away, CountState.AtHome, CountState.OnChain]

namespace Item.FieldsSound
variable {r : Item}

/-- A home item without a finding. -/
theorem away (count : r.count.Away) (home : r.home ≠ none) (circ : r.circ ≠ none)
    (found : r.found = none) (prior : r.prior = none) : r.FieldsSound := by
  obtain ⟨notHome, notChain⟩ := count
  have listed : r.count ≠ .unlisted := fun same => notChain (.inr same)
  have free : r.count ≠ .held := fun same => notHome (.inl same)
  refine ⟨iff_of_false home listed, iff_of_false circ listed, ?_, fun at_home =>
    absurd at_home notHome,
    fun stray => absurd (.inl stray) notChain, ?_, ?_⟩
  · rw [found]; exact iff_of_false nofun (not_or.mpr ⟨notHome, notChain⟩)
  · rw [prior]; exact iff_of_false nofun free
  · rw [prior]; nofun

/-- A home item found at home, and out of a run. -/
theorem atHome (count : r.count = .inPlace ∨ r.count = .disordered) (home : r.home ≠ none)
    (circ : r.circ ≠ none) (found : r.foundIn = r.home) (prior : r.prior = none) :
    r.FieldsSound := by
  have atHome : r.count.AtHome := .inr count
  have listed : r.count ≠ .unlisted := by rcases count with same | same <;> rw [same] <;> nofun
  have free : r.count ≠ .held := by rcases count with same | same <;> rw [same] <;> nofun
  have isFound : r.found.isSome = true := by
    rw [← Option.isSome_map, show r.found.map (fun f => f.sec) = r.home from found]
    exact Option.isSome_iff_ne_none.mpr home
  refine ⟨iff_of_false home listed, iff_of_false circ listed, iff_of_true isFound (.inl atHome),
    fun _ => found, fun stray => ?_, ?_, ?_⟩
  · rcases count with same | same <;> rw [same] at stray <;> cases stray
  · rw [prior]; exact iff_of_false nofun free
  · rw [prior]; nofun

/-- A home item in a run. -/
theorem held {p : CountState} (count : r.count = .held) (home : r.home ≠ none)
    (circ : r.circ ≠ none)
    (found : r.foundIn = r.home) (prior : r.prior = some p) (away : p.Away) : r.FieldsSound := by
  have listed : r.count ≠ .unlisted := by rw [count]; nofun
  have isFound : r.found.isSome = true := by
    rw [← Option.isSome_map, show r.found.map (fun f => f.sec) = r.home from found]
    exact Option.isSome_iff_ne_none.mpr home
  refine ⟨iff_of_false home listed, iff_of_false circ listed,
    iff_of_true isFound (.inl (.inl count)), fun _ => found, fun stray => ?_, ?_, ?_⟩
  · rw [count] at stray; cases stray
  · rw [prior]; exact iff_of_true rfl count
  · rw [prior]; rintro q same; cases same; exact away

/-- A stray. -/
theorem stray (count : r.count = .elsewhere) (home : r.home ≠ none) (circ : r.circ ≠ none)
    (found : r.found ≠ none) (other : r.foundIn ≠ r.home) (prior : r.prior = none) :
    r.FieldsSound := by
  have listed : r.count ≠ .unlisted := by rw [count]; nofun
  refine ⟨iff_of_false home listed, iff_of_false circ listed,
    iff_of_true (Option.isSome_iff_ne_none.mpr found) (.inr (.inl count)), fun atHome => ?_,
    fun _ => other, ?_, ?_⟩
  · rw [count] at atHome; rcases atHome with same | same | same <;> cases same
  · rw [prior, count]; exact iff_of_false nofun nofun
  · rw [prior]; nofun

/-- A provisional record. -/
theorem unlisted (count : r.count = .unlisted) (home : r.home = none) (circ : r.circ = none)
    (found : r.found ≠ none) (prior : r.prior = none) : r.FieldsSound := by
  refine ⟨iff_of_true home count, iff_of_true circ count,
    iff_of_true (Option.isSome_iff_ne_none.mpr found) (.inr (.inr count)), fun atHome => ?_,
    fun stray => ?_, ?_, ?_⟩
  · rw [count] at atHome; rcases atHome with same | same | same <;> cases same
  · rw [count] at stray; cases stray
  · rw [prior, count]; exact iff_of_false nofun nofun
  · rw [prior]; nofun

section Fields
variable (h : r.FieldsSound)
include h

theorem home_ne : r.home ≠ none ↔ r.count ≠ .unlisted := not_congr h.1

theorem circ_ne (home : r.home ≠ none) : r.circ ≠ none := (not_congr h.2.1).mpr (h.home_ne.mp home)

theorem found_none (away : r.count.Away) : r.found = none := by
  rw [← Option.not_isSome_iff_eq_none, h.2.2.1]
  exact not_or.mpr away

theorem prior_none (free : r.count ≠ .held) : r.prior = none := by
  rw [← Option.not_isSome_iff_eq_none, h.2.2.2.2.2.1]
  exact free

theorem prior_away {p : CountState} (prior : r.prior = some p) : p.Away := h.2.2.2.2.2.2 p prior

theorem foundIn_home (count : r.count.AtHome) : r.foundIn = r.home := h.2.2.2.1 count

theorem foundIn_ne (count : r.count = .elsewhere) : r.foundIn ≠ r.home := h.2.2.2.2.1 count

theorem foundIn_some (count : r.count.OnChain) : ∃ S, r.foundIn = some S := by
  obtain ⟨f, found⟩ := Option.isSome_iff_exists.mp (h.2.2.1.mpr (.inr count))
  exact ⟨f.sec, by rw [Item.foundIn, found]; rfl⟩

end Fields

theorem of_core {q : Item} (h : q.FieldsSound) (same : r.core = q.core) : r.FieldsSound := by
  have home : r.home = q.home := (congrArg Item.home same : r.core.home = q.core.home)
  have count : r.count = q.count := (congrArg Item.count same : r.core.count = q.core.count)
  have prior : r.prior = q.prior := (congrArg Item.prior same : r.core.prior = q.core.prior)
  have circ : r.circ.isNone = q.circ.isNone := by
    have agree := congrArg (fun k : Item => k.circ.isNone) same
    simpa [Item.core] using agree
  have found : r.foundIn = q.foundIn := by
    have agree := congrArg Item.foundIn same
    simpa [Item.core, Item.foundIn, Function.comp_def] using agree
  have isFound : r.found.isSome = q.found.isSome := by
    have agree := congrArg Option.isSome found
    simpa [Item.foundIn] using agree
  obtain ⟨h1, h2, h3, h4, h5, h6, h7⟩ := h
  refine ⟨by rw [home, count]; exact h1, ?_, by rw [isFound, count]; exact h3,
    by rw [count, found, home]; exact h4, by rw [count, found, home]; exact h5,
    by rw [prior, count]; exact h6, by rw [prior]; exact h7⟩
  rw [← Option.isNone_iff_eq_none, circ, Option.isNone_iff_eq_none, count]
  exact h2

end Item.FieldsSound

theorem Item.chainSec_of_core {q r : Item} (same : r.core = q.core) : r.chainSec = q.chainSec := by
  have count : r.count = q.count := (congrArg Item.count same : r.core.count = q.core.count)
  have found : r.foundIn = q.foundIn := by
    have agree := congrArg Item.foundIn same
    simpa [Item.core, Item.foundIn, Function.comp_def] using agree
  rw [Item.chainSec, Item.chainSec, count, found]

theorem Item.heldSec_of_core {q r : Item} (same : r.core = q.core) : r.heldSec = q.heldSec := by
  have count : r.count = q.count := (congrArg Item.count same : r.core.count = q.core.count)
  have home : r.home = q.home := (congrArg Item.home same : r.core.home = q.core.home)
  rw [Item.heldSec, Item.heldSec, count, home]

theorem Item.chainSec_of_not {r : Item} (count : ¬ r.count.OnChain) : r.chainSec = none :=
    if_neg count

theorem Item.heldSec_of_not {r : Item} (count : r.count ≠ .held) : r.heldSec = none := if_neg count

/-! ### Rules -/

section Rules
variable {s u : State}

/-- A tag whose record changes only where the invariants do not see it, and which stands where it
stood. -/
theorem FoundSound.of_same {t : Tag} (h : FoundSound s t)
    (item : (u.item? t).map Item.core = (s.item? t).map Item.core)
    (chain : ∀ S, t ∈ (u.sec S).chain ↔ t ∈ (s.sec S).chain)
    (run : ∀ S, t ∈ u.runAt S ↔ t ∈ s.runAt S) : FoundSound u t := by
  have same {f : Item → Option SecId} (hf : ∀ {q r : Item}, r.core = q.core → f r = f q) :
      (u.item? t).bind f = (s.item? t).bind f := by
    cases at_u : u.item? t with
    | none =>
      rw [at_u, Option.map_none, eq_comm, Option.map_eq_none_iff] at item
      rw [item]
    | some r =>
      rw [at_u, Option.map_some, eq_comm, Option.map_eq_some_iff] at item
      obtain ⟨q, at_s, core⟩ := item
      rw [at_s]
      exact hf core.symm
  refine ⟨fun r at_t => ?_, fun S => ?_, fun S => ?_⟩
  · rw [at_t, Option.map_some, eq_comm, Option.map_eq_some_iff] at item
    obtain ⟨q, at_t', core⟩ := item
    exact (h.fields q at_t').of_core core.symm
  · rw [chain, h.chain, State.chainOf, State.chainOf, same Item.chainSec_of_core]
  · rw [run, h.run, State.heldOf, State.heldOf, same Item.heldSec_of_core]

/-- Nothing that the invariants see of records, chains, runs and cursors is different. -/
theorem Findings.of_same (h : Findings s)
    (item : ∀ t, (u.item? t).map Item.core = (s.item? t).map Item.core)
    (chain : ∀ S, (u.sec S).chain = (s.sec S).chain)
    (expected : ∀ S, (u.sec S).expected = (s.sec S).expected)
    (run : ∀ S, u.runAt S = s.runAt S) (cursor : ∀ S, u.cursorAt S = s.cursorAt S) :
    Findings u where
  found t := (h.found t).of_same (item t) (fun S => by rw [chain]) fun S => by rw [run]
  nodup S := chain S ▸ h.nodup S
  ascends S := by rw [run, expected]; exact h.ascends S
  short S := run S ▸ h.short S
  cursor S := by rw [cursor, expected]; exact h.cursor S

/-- Records changed by tag, the runs of some walks at their end. -/
theorem Findings.of_ended (h : Findings s) (f : Tag → Item → Item)
    (item : ∀ t, u.item? t = (s.item? t).map (f t))
    (chain : ∀ S, (u.sec S).chain = (s.sec S).chain)
    (expected : ∀ S, (u.sec S).expected = (s.sec S).expected) (ended : SecId → Prop)
    [DecidablePred ended]
    (run : ∀ S, u.runAt S = if ended S then [] else s.runAt S)
    (cursor : ∀ S, u.cursorAt S ≤ s.cursorAt S)
    (fields : ∀ t r, s.item? t = some r → r.FieldsSound → (f t r).FieldsSound)
    (chained : ∀ t r, s.item? t = some r → r.FieldsSound → (f t r).chainSec = r.chainSec)
    (held : ∀ t r, s.item? t = some r → r.FieldsSound →
      (f t r).heldSec = r.heldSec.filter fun S => ¬ ended S) : Findings u where
  found t := by
    refine ⟨fun r at_t => ?_, fun S => ?_, fun S => ?_⟩
    · rw [item, Option.map_eq_some_iff] at at_t
      obtain ⟨q, at_t, rfl⟩ := at_t
      exact fields t q at_t ((h.found t).fields q at_t)
    · rw [chain, (h.found t).chain, State.chainOf, State.chainOf, item]
      cases at_t : s.item? t with
      | none => rfl
      | some r => simp [chained t r at_t ((h.found t).fields r at_t)]
    · have stood := (h.found t).run S
      rw [State.heldOf] at stood ⊢
      rw [run, item]
      cases at_t : s.item? t with
      | none => rw [at_t] at stood; split <;> simp_all
      | some r =>
        rw [at_t, Option.bind_some] at stood
        rw [Option.map_some, Option.bind_some, held t r at_t ((h.found t).fields r at_t)]
        split
        next gone =>
          simp only [List.not_mem_nil, false_iff]
          intro stays
          simpa [gone] using (Option.filter_eq_some_iff.mp stays).2
        next stays => simp [Option.filter_eq_some_iff, stood, stays]
  nodup S := chain S ▸ h.nodup S
  ascends S := by
    rw [run, expected]
    split
    · exact List.nil_sublist _
    · exact h.ascends S
  short S := by
    rw [run]
    split
    · exact Nat.zero_le _
    · exact h.short S
  cursor S := by rw [expected]; exact (cursor S).trans (h.cursor S)

end Rules

end Sys2Proof.Machine

/-! # Proofs: findings when walks begin, change hands and end (R50 to R64, R102, R141, R144) -/

namespace Sys2Proof.Machine

section Places
variable {s u : State}

/-! ### Runs and cursors by section -/

/-- Where a walk stands: its run and its cursor. -/
def Context.place (c : Context) : List Tag × Nat := (c.run, c.cursor)

/-- Where the walk on a section stands; an empty run and 0 without one. -/
def State.placeAt (s : State) (S : SecId) : List Tag × Nat :=
    ((s.walkAt S).map Context.place).getD ([], 0)

theorem State.placeAt_eq (S : SecId) : s.placeAt S = (s.runAt S, s.cursorAt S) := by
  rw [State.placeAt, State.runAt, State.cursorAt]
  cases s.walkAt S <;> rfl

/-- Contexts that stand where they stood, named by the sections that named them. -/
theorem State.placeAt_of_ctx (context : ∀ S, (u.sec S).context = (s.sec S).context)
    (ctx : ∀ y, (u.ctx y).map Context.place = (s.ctx y).map Context.place) (S : SecId) :
    u.placeAt S = s.placeAt S := by
  have same : (u.walkAt S).map Context.place = (s.walkAt S).map Context.place := by
    rw [State.walkAt, State.walkAt, context]
    cases (s.sec S).context with
    | none => rfl
    | some y => exact ctx y
  rw [State.placeAt, State.placeAt, same]

theorem State.placeAt_of_none {S : SecId} (context : (s.sec S).context = none) :
    s.placeAt S = ([], 0) := by
  rw [State.placeAt, State.walkAt, context]; rfl

theorem State.placeAt_of_some {S : SecId} {x : CtxId} {c : Context}
    (context : (s.sec S).context = some x)
    (walk : s.ctx x = some c) : s.placeAt S = (c.run, c.cursor) := by
  rw [State.placeAt, State.walkAt, context, Option.bind_some, walk]; rfl

/-- With the walk of one section changed, in one context, the walks of the others stand where they
stood. -/
theorem WalksBut.placeAt_of_others {R : Option SecId} (h : WalksBut R s) {S : SecId} {x : CtxId}
    (before : (s.sec S).context = some x ∨ s.ctx x = none)
    (sec : ∀ X, X ≠ S → (u.sec X).context = (s.sec X).context)
    (ctx : ∀ y, y ≠ x → u.ctx y = s.ctx y)
    {X : SecId} (other : X ≠ S) : u.placeAt X = s.placeAt X := by
  have same : u.walkAt X = s.walkAt X := by
    rw [State.walkAt, State.walkAt, sec X other]
    cases context : (s.sec X).context with
    | none => rfl
    | some y =>
      refine ctx y ?_
      rintro rfl
      obtain ⟨c, walk, rfl⟩ := (h.names X y).mp context
      rcases before with before | free
      · obtain ⟨d, walk', sec'⟩ := (h.names S y).mp before
        cases walk.symm.trans walk'
        exact other sec'
      · rw [free] at walk; cases walk
  rw [State.placeAt, State.placeAt, same]

/-- `Findings.of_same`, with where the walks stand. -/
theorem Findings.of_places (h : Findings s)
    (item : ∀ t, (u.item? t).map Item.core = (s.item? t).map Item.core)
    (chain : ∀ S, (u.sec S).chain = (s.sec S).chain)
    (expected : ∀ S, (u.sec S).expected = (s.sec S).expected)
    (place : ∀ S, u.placeAt S = s.placeAt S) : Findings u :=
  h.of_same item chain expected
    (fun S => congrArg Prod.fst (by rw [← State.placeAt_eq, ← State.placeAt_eq, place] :
      (u.runAt S, u.cursorAt S) = (s.runAt S, s.cursorAt S)))
    (fun S => congrArg Prod.snd (by rw [← State.placeAt_eq, ← State.placeAt_eq, place] :
      (u.runAt S, u.cursorAt S) = (s.runAt S, s.cursorAt S)))

theorem Findings.of_alike (h : Findings s) (same : Alike s u) : Findings u := by
  refine h.of_places same.item (fun S => ?_) (fun S =>
    ?_) (State.placeAt_of_ctx (fun S => ?_) fun y => ?_)
  · exact (congrArg SectionRec.chain (same.sec S) : (u.sec S).core.chain = _)
  · exact (congrArg SectionRec.expected (same.sec S) : (u.sec S).core.expected = _)
  · exact (congrArg SectionRec.context (same.sec S) : (u.sec S).core.context = _)
  · have place (c : Context) : c.core.place = c.place := rfl
    have agree := congrArg (Option.map Context.place) (same.ctx y)
    simpa [Option.map_map, Function.comp_def, place] using agree

/-! ### Walks begin and change hands -/

theorem Findings.startWalk (h : Findings s) {R : Option SecId} (walks : WalksBut R s) {S : SecId}
    {x : CtxId} (w : Wand) (unnamed : (s.sec S).context = none) (free : s.ctx x = none) :
    Findings ((s.unclaim w).startWalk x S w) := by
  refine h.of_places (fun _ => rfl) (fun X => ?_) (fun X => ?_) fun X => ?_
  · rw [State.sec_startWalk]; split
    · subst_vars; rfl
    · rfl
  · rw [State.sec_startWalk]; split
    · subst_vars; rfl
    · rfl
  · by_cases here : X = S
    · subst here
      rw [State.placeAt_of_none unnamed, State.placeAt_of_some (x := x) (c := s.newContext X w)]
      · rfl
      · rw [State.sec_startWalk, if_pos rfl]
      · rw [State.ctx_startWalk, if_pos rfl]; rfl
    · refine walks.placeAt_of_others (.inr free) (fun X other => ?_) (fun y other => ?_) here
      · rw [State.sec_startWalk, if_neg other]; rfl
      · rw [State.ctx_startWalk, if_neg other]; rfl

theorem Findings.resumeWalk (h : Findings s) (S : SecId) (x : CtxId) (w : Wand) :
    Findings ((s.unclaim w).resumeWalk x S w) := by
  refine h.of_places (fun _ => rfl) (fun X => ?_) (fun X => ?_)
    (State.placeAt_of_ctx (fun X => ?_) fun y => ?_)
  · rw [State.sec_resumeWalk]; split
    · subst_vars; rfl
    · rfl
  · rw [State.sec_resumeWalk]; split
    · subst_vars; rfl
    · rfl
  · rw [State.sec_resumeWalk]; split
    · subst_vars; rfl
    · rfl
  · rw [State.ctx_resumeWalk]; split
    · subst_vars; rw [Option.map_map]; rfl
    · rfl

theorem Findings.suspendWalk (h : Findings s) (x : CtxId) (c : Context) (w : Wand) :
    Findings (s.suspend x c w) := by
  refine h.of_places (fun _ => rfl) (fun X => ?_) (fun X => ?_)
    (State.placeAt_of_ctx (fun X => ?_) fun y => ?_)
  · rw [State.sec_suspend]; split
    · subst_vars; rfl
    · rfl
  · rw [State.sec_suspend]; split
    · subst_vars; rfl
    · rfl
  · rw [State.sec_suspend]; split
    · subst_vars; rfl
    · rfl
  · rw [State.ctx_suspend]; split
    · subst_vars; rw [Option.map_map]; rfl
    · rfl

theorem Findings.grantNext (h : Findings s) {S : SecId} (walks : WalksBut (some S) s)
    (released : (s.sec S).state = .suspended ∨ ¬ (s.sec S).state.walked) :
    Findings (s.grantNext S) := by
  obtain none | ⟨q, x, -, -, -, granted⟩ | ⟨q, x, -, resumed, free, granted⟩ := s.grantNext_cases S
  · rw [none]; exact h
  · rw [granted]
    exact (h.resumeWalk S x q.wand).of_alike (AlikeAll.of_eq).toAlike
  · have unnamed : (s.sec S).context = Option.none := by
      rw [← Option.not_isSome_iff_eq_none, walks.walked]
      exact released.resolve_left resumed
    rw [granted]
    exact (h.startWalk walks q.wand unnamed (s.freeCtx_eq_some.mp free).1).of_alike
      (AlikeAll.of_eq).toAlike

end Places

end Sys2Proof.Machine

/-! # Proofs: findings when walks end, and at the start and the close of a campaign (R64, R102,
R141, R144) -/

namespace Sys2Proof.Machine

/-! ### Records at the end of a walk -/

section Records
variable {r : Item}

/-- A home item without a finding stands on no chain and in no run. -/
theorem Item.chainSec_of_away (count : r.count.Away) : r.chainSec = none :=
    Item.chainSec_of_not count.2

theorem Item.heldSec_of_away (count : r.count.Away) : r.heldSec = none :=
  Item.heldSec_of_not fun held => count.1 (.inl held)

theorem Item.chainSec_of_atHome (count : r.count.AtHome) : r.chainSec = none := by
  refine Item.chainSec_of_not ?_
  rcases count with same | same | same <;> rw [same] <;> rintro (same | same) <;> cases same

/-- What the end of a walk makes of a record of its section: as it was, or out of the run, or
without a finding. -/
inductive Item.Closes (r : Item) : Item → Prop where
  | kept (free : r.count ≠ .held) : Closes r r
  | disordered (held : r.count = .held) : Closes r { r with count := .disordered, prior := none }
  | away {c : CountState} (before : r.count.Away) (after : c.Away) :
      Closes r { r with count := c, found := none }

theorem Item.closes_tallied (r : Item) : r.Closes r.tallied := by
  unfold Item.tallied
  split
  next count => exact .disordered count
  next count =>
    refine .away ((CountState.away_iff _).mpr (by simp [count])) ?_
    split <;> simp [CountState.away_iff]
  next count =>
    refine .away ((CountState.away_iff _).mpr (by simp [count])) ?_
    split <;> simp [CountState.away_iff]
  next count _ _ => exact .kept count

theorem Item.closes_closed (r : Item) : r.Closes r.closed := by
  unfold Item.closed
  split
  next count => exact .disordered count
  next count =>
    refine .away ((CountState.away_iff _).mpr (by simp [count])) ?_
    split <;> simp [CountState.away_iff]
  next count =>
    refine .away ((CountState.away_iff _).mpr (by simp [count])) ?_
    split <;> simp [CountState.away_iff]
  next count =>
    refine .away ((CountState.away_iff _).mpr (by simp [count])) ?_
    split <;> simp [CountState.away_iff]
  next count _ _ _ => exact .kept count

theorem Item.Closes.fields {q : Item} (h : r.Closes q) (k : r.FieldsSound) : q.FieldsSound := by
  cases h with
  | kept => exact k
  | disordered held =>
    have home : r.home ≠ none := k.home_ne.mpr (by rw [held]; nofun)
    exact .atHome (.inr rfl) home (k.circ_ne home) (k.foundIn_home (.inl held)) rfl
  | away before after =>
    have home : r.home ≠ none := k.home_ne.mpr fun same => before.2 (.inr same)
    exact .away after home (k.circ_ne home) rfl (k.prior_none fun held => before.1 (.inl held))

theorem Item.Closes.chainSec {q : Item} (h : r.Closes q) : q.chainSec = r.chainSec := by
  cases h with
  | kept => rfl
  | disordered held =>
    rw [Item.chainSec_of_atHome (.inr (.inr rfl)), Item.chainSec_of_atHome (.inl held)]
  | away before after => rw [Item.chainSec_of_away after, Item.chainSec_of_away before]

theorem Item.Closes.heldSec {q : Item} (h : r.Closes q) : q.heldSec = none := by
  cases h with
  | kept free => exact Item.heldSec_of_not free
  | disordered => exact Item.heldSec_of_not nofun
  | away _ after => exact Item.heldSec_of_away after

/-- A run entry returned to its prior state (R64). -/
theorem Item.FieldsSound.returned (h : r.FieldsSound) (held : r.count = .held) :
    r.returned.FieldsSound ∧ r.returned.count.Away := by
  have home : r.home ≠ none := h.home_ne.mpr (by rw [held]; nofun)
  have away : r.returned.count.Away := by
    show (r.prior.getD .unseen).Away
    cases prior : r.prior with
    | none => simp [CountState.away_iff]
    | some p => exact h.prior_away prior
  exact ⟨.away away home (h.circ_ne home) rfl rfl, away⟩

end Records

/-! ### The walk that ends -/

section Ends
variable {s u : State}

theorem State.completed_items (x : CtxId) (c : Context) :
    (s.completed x c).items = s.items.map fun r => if r.isHomeOf c.sec then r.tallied else r := by
  rw [← State.grantNext_items (S := c.sec), ← State.completeWalk_eq, State.completeWalk_items]

theorem State.abandoned_items (x : CtxId) (c : Context) :
    (s.abandoned x c).items = s.items.map fun r => if r.tag ∈ c.run then r.returned else r := by
  rw [← State.grantNext_items (S := c.sec), ← State.abandon_eq, State.abandon_items]

/-- The walk on the section is gone, and the others stand where they stood. -/
theorem WalkEnded.placeAt {x : CtxId} {c : Context} (k : WalkEnded s u x c) (h : WalksBut none s)
    (walk : s.ctx x = some c) (X : SecId) :
    u.placeAt X = if X = c.sec then ([], 0) else s.placeAt X := by
  by_cases here : X = c.sec
  · rw [if_pos here, here, State.placeAt_of_none k.context]
  · rw [if_neg here]
    exact h.placeAt_of_others (.inl (h.context_eq walk)) (fun X other => by rw [k.others X other])
      (fun y other => by rw [k.ctx, if_neg other]) here

theorem State.runAt_eq (S : SecId) : s.runAt S = (s.placeAt S).1 := by rw [State.placeAt_eq]

theorem State.cursorAt_eq (S : SecId) : s.cursorAt S = (s.placeAt S).2 := by rw [State.placeAt_eq]

theorem Findings.end_walk (h : Findings s) (walks : WalksBut none s) {x : CtxId} {c : Context}
    (k : WalkEnded s u x c) (walk : s.ctx x = some c) (f : Item → Item)
    (item : ∀ t, u.item? t = (s.item? t).map f)
    (chain : (u.sec c.sec).chain = (s.sec c.sec).chain)
    (expected : (u.sec c.sec).expected = (s.sec c.sec).expected)
    (fields : ∀ r, s.item? r.tag = some r → r.FieldsSound → (f r).FieldsSound ∧
      (f r).chainSec = r.chainSec ∧ (f r).heldSec = r.heldSec.filter fun S => ¬ S = c.sec) :
    Findings u := by
  have place := k.placeAt walks walk
  have at_tag {t : Tag} {r : Item} (at_t : s.item? t = some r) : s.item? r.tag = some r := by
    rw [s.item_tag at_t, at_t]
  refine h.of_ended (fun _ => f) item (fun S => ?_) (fun S => ?_) (fun S => S = c.sec) (fun S => ?_)
    (fun S => ?_) (fun t r at_t sound => (fields r (at_tag at_t) sound).1)
    (fun t r at_t sound => (fields r (at_tag at_t) sound).2.1)
    fun t r at_t sound => (fields r (at_tag at_t) sound).2.2
  · by_cases here : S = c.sec
    · rw [here, chain]
    · rw [k.others S here]
  · by_cases here : S = c.sec
    · rw [here, expected]
    · rw [k.others S here]
  · rw [State.runAt_eq, place, State.runAt_eq]
    split <;> rfl
  · rw [State.cursorAt_eq, place, State.cursorAt_eq]
    split
    · exact Nat.zero_le _
    · exact le_rfl

/-- A record's place after its section's walk is gone. -/
theorem Item.heldSec_filter {r : Item} {S : SecId} (other : r.home ≠ some S) :
    r.heldSec.filter (fun X => ¬ X = S) = r.heldSec := by
  unfold Item.heldSec
  split
  · cases home : r.home with
    | none => rfl
    | some H =>
      have : H ≠ S := fun same => other (home.trans (congrArg some same))
      simp [Option.filter, this]
  · rfl

theorem Findings.completed (h : Findings s) (walks : WalksBut none s) {x : CtxId} {c : Context}
    (walk : s.ctx x = some c) : Findings (s.completed x c) := by
  refine h.end_walk walks (s.completed_ends x c) walk (fun r =>
    if r.isHomeOf c.sec then r.tallied else r)
    (State.item_of_map (s.completed_items x c) fun r => Item.ite_tag Item.tallied_tag r)
    (by rw [State.sec_completed, if_pos rfl]) (by rw [State.sec_completed, if_pos rfl])
    fun r _ sound => ?_
  by_cases home : r.home = some c.sec
  · rw [if_pos (by simpa [Item.isHomeOf] using home)]
    refine ⟨r.closes_tallied.fields sound, r.closes_tallied.chainSec, ?_⟩
    rw [r.closes_tallied.heldSec, Item.heldSec, home]
    split <;> simp [Option.filter]
  · rw [if_neg (by simpa [Item.isHomeOf] using home)]
    exact ⟨sound, rfl, (Item.heldSec_filter home).symm⟩

theorem Findings.abandoned (h : Findings s) (walks : WalksBut none s) {x : CtxId} {c : Context}
    (walk : s.ctx x = some c) : Findings (s.abandoned x c) := by
  refine h.end_walk walks (s.abandoned_ends x c) walk (fun r =>
    if r.tag ∈ c.run then r.returned else r)
    (State.item_of_map (s.abandoned_items x c) fun r =>
      Item.ite_tag (f := Item.returned) (fun _ => rfl) r)
    (by rw [State.sec_abandoned, if_pos rfl]) (by rw [State.sec_abandoned, if_pos rfl])
    fun r at_tag sound => ?_
  have stands : r.tag ∈ c.run ↔ r.heldSec = some c.sec := by
    rw [← walks.runAt_of_ctx walk, (h.found r.tag).run, State.heldOf, at_tag]; rfl
  by_cases inRun : r.tag ∈ c.run
  · obtain ⟨held, home⟩ : r.count = .held ∧ r.home = some c.sec := by
      simpa [Item.heldSec] using stands.mp inRun
    obtain ⟨fields, away⟩ := sound.returned held
    rw [if_pos inRun]
    refine ⟨fields, ?_, ?_⟩
    · rw [Item.chainSec_of_away away, Item.chainSec_of_atHome (.inl held)]
    · rw [Item.heldSec_of_away away, stands.mp inRun]; simp [Option.filter]
  · rw [if_neg inRun]
    refine ⟨sound, rfl, ?_⟩
    cases held : r.heldSec with
    | none => rfl
    | some H =>
      have other : H ≠ c.sec := fun same => inRun (stands.mpr (held.trans (congrArg some same)))
      simp [Option.filter, other]

/-! ### The campaign -/

theorem Findings.closeCampaign (h : Findings s) : Findings s.closeCampaign := by
  have gone (X : SecId) : s.closeCampaign.placeAt X = ([], 0) := by
    rw [State.placeAt, State.walkAt]
    cases (s.closeCampaign.sec X).context with
    | none => rfl
    | some y => rw [Option.bind_some, State.ctx_closeCampaign]; rfl
  refine h.of_ended (fun _ r => if r.home.isSome then r.closed else r)
    (State.item_of_map s.closeCampaign_items fun r => Item.ite_tag Item.closed_tag r)
    (fun S => by rw [State.sec_closeCampaign]) (fun S => by rw [State.sec_closeCampaign])
      (fun _ => True)
    (fun S => by rw [State.runAt_eq, gone, if_pos trivial])
    (fun S => by rw [State.cursorAt_eq, gone]; exact Nat.zero_le _) (fun t r _ sound => ?_)
    (fun t r _ _ => ?_) fun t r _ sound => ?_
  · split
    · exact r.closes_closed.fields sound
    · exact sound
  · split
    · exact r.closes_closed.chainSec
    · rfl
  · split
    · rw [r.closes_closed.heldSec]; cases r.heldSec <;> simp [Option.filter]
    next away =>
      have free : r.count ≠ .held := fun held =>
        away (Option.isSome_iff_ne_none.mpr (sound.home_ne.mpr (by rw [held]; nofun)))
      rw [Item.heldSec_of_not free]; rfl

/-- At the start of a campaign no walk exists, every provisional record leaves, and every item is
UNSEEN. -/
theorem Findings.startCampaign (h : Findings s) (lists : Lists s) (walks : WalksBut none s)
    (still : s.campaign.Still) : Findings s.startCampaign := by
  have gone (X : SecId) : s.startCampaign.placeAt X = ([], 0) := by
    rw [State.placeAt, State.walkAt]
    cases (s.startCampaign.sec X).context with
    | none => rfl
    | some y =>
      rw [Option.bind_some, State.ctx_of_contexts s.startCampaign_contexts,
        walks.unwalked still]; rfl
  have runs (X : SecId) : s.startCampaign.runAt X = [] := by rw [State.runAt_eq, gone]
  have items (t : Tag) (r : Item) (at_t : s.startCampaign.item? t = some r) :
      r.FieldsSound ∧ r.count.Away := by
    have filtered := lists.canonical.item_filter (u := { s with
      items := s.items.filter fun r => !r.home.isNone }) rfl t
    rw [State.item_of_map (s := { s with items := s.items.filter fun r => !r.home.isNone })
      s.startCampaign_items fun _ => rfl, filtered, Option.map_eq_some_iff] at at_t
    obtain ⟨q, kept, rfl⟩ := at_t
    obtain ⟨at_t, home⟩ := Option.filter_eq_some_iff.mp kept
    have home : q.home ≠ none := Option.isSome_iff_ne_none.mp (by simpa using home)
    have away : q.restarted.count.Away := (CountState.away_iff _).mpr (.inl rfl)
    exact ⟨.away away home (((h.found t).fields q at_t).circ_ne home) rfl rfl, away⟩
  have chains (X : SecId) : (s.startCampaign.sec X).chain =
    [] := by rw [State.sec_startCampaign]; rfl
  refine ⟨fun t => ⟨fun r at_t => (items t r at_t).1, fun S => ?_, fun S => ?_⟩, fun S => ?_,
    fun S => ?_,
    fun S => ?_, fun S => ?_⟩
  · rw [chains, State.chainOf, State.bind_item_eq_some]
    refine iff_of_false List.not_mem_nil ?_
    rintro ⟨r, at_t, chained⟩
    rw [Item.chainSec_of_away (items t r at_t).2] at chained
    cases chained
  · rw [runs, State.heldOf, State.bind_item_eq_some]
    refine iff_of_false List.not_mem_nil ?_
    rintro ⟨r, at_t, held⟩
    rw [Item.heldSec_of_away (items t r at_t).2] at held
    cases held
  · rw [chains]; exact List.nodup_nil
  · rw [runs]; exact List.nil_sublist _
  · rw [runs]; exact Nat.zero_le _
  · rw [State.cursorAt_eq, gone]; exact Nat.zero_le _

end Ends

end Sys2Proof.Machine

/-! # Proofs: findings under the requests of a section (R13, R15, R19, R117) -/

namespace Sys2Proof.Machine

section Requests
variable {s u : State}

theorem Item.chainSec_some {r : Item} {S : SecId} (h : r.chainSec = some S) :
    r.count.OnChain ∧ r.foundIn = some S := by
  unfold Item.chainSec at h
  split at h
  next chained => exact ⟨chained, h⟩
  · cases h

/-- A home item on a chain is a stray there. -/
theorem Item.FieldsSound.stray_of_chained {r : Item} (h : r.FieldsSound) (home : r.home ≠ none)
    {S : SecId} (chained : r.chainSec = some S) : r.count = .elsewhere ∧ r.home ≠ some S := by
  obtain ⟨onChain, found⟩ := Item.chainSec_some chained
  have stray : r.count = .elsewhere := onChain.resolve_right (h.home_ne.mp home)
  exact ⟨stray, fun same => h.foundIn_ne stray (found.trans same.symm)⟩

/-- A HELD item stands on no chain. -/
theorem Item.chainSec_of_held {r : Item} {S : SecId} (h : r.heldSec = some S) :
    r.chainSec = none := by
  unfold Item.heldSec at h
  split at h
  next held => exact Item.chainSec_of_atHome (.inl held)
  · cases h

/-- What the release of a section's records makes of one: a record of the section, or one that
stands on its chain, goes or returns to UNSEEN; another stays as it was. -/
structure Released (S : SecId) (r : Item) (o : Option Item) : Prop where
  concerned : r.home = some S ∨ r.chainSec = some S → o = none ∨ r.home ≠ none ∧ o = some r.unseen
  other : r.home ≠ some S → r.chainSec ≠ some S → o = some r

/-- SEC_UNLOAD and SEC_RESET (R19, R117): no walk is on the section. -/
theorem Findings.of_release (h : Findings s) {S : SecId}
    (item : ∀ t r, s.item? t = some r → Released S r (u.item? t))
    (absent : ∀ t, s.item? t = none → u.item? t = none)
    (emptied : (u.sec S).chain = [])
    (chain : ∀ X, X ≠ S → (u.sec X).chain = (s.sec X).chain.filter fun t => !s.homeTag S t)
    (expected : ∀ X, X ≠ S → (u.sec X).expected = (s.sec X).expected)
    (unwalked : s.placeAt S = ([], 0)) (place : ∀ X, u.placeAt X = s.placeAt X) : Findings u := by
  have run (X : SecId) : u.runAt X = s.runAt X := by rw [State.runAt_eq, State.runAt_eq, place]
  have unrun : s.runAt S = [] := by rw [State.runAt_eq, unwalked]
  have member (X : SecId) (t : Tag) : t ∈ (u.sec X).chain ↔
      X ≠ S ∧ t ∈ (s.sec X).chain ∧ s.homeTag S t = false := by
    by_cases here : X = S
    · rw [here, emptied]; simp
    · rw [chain X here]; simp [here]
  refine ⟨fun t => ?_, fun X => ?_, fun X => ?_, fun X => ?_, fun X => ?_⟩
  · have before := h.found t
    cases at_t : s.item? t with
    | none =>
      have none := absent t at_t
      refine ⟨fun r at_u => (by rw [none] at at_u; cases at_u), fun X => ?_, fun X => ?_⟩
      · rw [member, before.chain, State.chainOf, State.chainOf, at_t, none]; simp
      · rw [run, before.run, State.heldOf, State.heldOf, at_t, none]
    | some r =>
      obtain ⟨concerned, other⟩ := item t r at_t
      have sound := before.fields r at_t
      have chained (X : SecId) : t ∈ (s.sec X).chain ↔ r.chainSec = some X := by
        rw [before.chain, State.chainOf, at_t]; rfl
      have held (X : SecId) : t ∈ s.runAt X ↔ r.heldSec = some X := by
        rw [before.run, State.heldOf, at_t]; rfl
      have homeTag : s.homeTag S t = decide (r.home = some S) := by
        simp [State.homeTag, at_t, Item.isHomeOf]
      by_cases concerns : r.home = some S ∨ r.chainSec = some S
      · have leaves (X : SecId) : t ∉ (u.sec X).chain := by
          rw [member, chained, homeTag]
          rintro ⟨other, stands, notHome⟩
          rcases concerns with home | here
          · simp [home] at notHome
          · exact other (Option.some.inj (stands.symm.trans here))
        have free (X : SecId) : t ∉ u.runAt X := by
          rw [run]
          intro stands
          have held := (held X).mp stands
          rcases concerns with home | here
          · have : X = S := by
              unfold Item.heldSec at held
              split at held
              · exact Option.some.inj (held.symm.trans home)
              · cases held
            subst this
            rw [unrun] at stands
            cases stands
          · rw [Item.chainSec_of_held held] at here
            cases here
        have nothing : (∀ q, u.item? t = some q → q.FieldsSound) ∧ u.chainOf t = none ∧
            u.heldOf t = none := by
          rcases concerned concerns with gone | ⟨home, unseen⟩
          · rw [State.chainOf, State.heldOf, gone]; exact ⟨nofun, rfl, rfl⟩
          · have away : r.unseen.count.Away := (CountState.away_iff _).mpr (.inl rfl)
            rw [State.chainOf, State.heldOf, unseen]
            refine ⟨fun q same => ?_, Item.chainSec_of_away away, Item.heldSec_of_away away⟩
            cases same
            exact .away away home (sound.circ_ne home) rfl rfl
        obtain ⟨fields, noChain, noRun⟩ := nothing
        exact ⟨fields, fun X => by rw [noChain]; simp [leaves X],
          fun X => by rw [noRun]; simp [free X]⟩
      · obtain ⟨notHome, notHere⟩ := not_or.mp concerns
        have same := other notHome notHere
        refine ⟨fun q at_u => ?_, fun X => ?_, fun X => ?_⟩
        · cases same.symm.trans at_u; exact sound
        · rw [member, chained, homeTag, State.chainOf, same]
          constructor
          · exact fun stands => stands.2.1
          · exact fun stands => ⟨fun here => notHere (here ▸ stands), stands, by simp [notHome]⟩
        · rw [run, held, State.heldOf, same]; rfl
  · by_cases here : X = S
    · rw [here, emptied]; exact List.nodup_nil
    · rw [chain X here]; exact (h.nodup X).filter _
  · by_cases here : X = S
    · rw [run, here, unrun]; exact List.nil_sublist _
    · rw [run, expected X here]; exact h.ascends X
  · rw [run]; exact h.short X
  · by_cases here : X = S
    · rw [State.cursorAt_eq, place, here, unwalked]; exact Nat.zero_le _
    · rw [State.cursorAt_eq, place, ← State.cursorAt_eq, expected X here]; exact h.cursor X

end Requests

end Sys2Proof.Machine

/-! # Proofs: findings under SEC_UNLOAD, SEC_RESET and ITEM_DROP (R19, R20, R117) -/

namespace Sys2Proof.Machine

section Requests
variable {s u : State}

theorem ItemsCanonical.item_recount (h : ItemsCanonical s.items) (S : SecId) (t : Tag) :
    (s.recount S).item? t = ((s.item? t).filter fun r => !s.isProvisionalOf S r).map
      fun r => if r.isHomeOf S || s.isStrayOf S r then r.unseen else r := by
  have filtered := h.item_filter (u := { s with
    items := s.items.filter fun r => !s.isProvisionalOf S r }) rfl t
  rw [State.item_of_map (s := { s with items := s.items.filter fun r => !s.isProvisionalOf S r })
    (f := fun r => if r.isHomeOf S || s.isStrayOf S r then r.unseen else r) (s.recount_items S)
    (fun r => ite_unseen_tag _ r), filtered]

theorem FoundSound.chained {t : Tag} {r : Item} (h : FoundSound s t) (at_t : s.item? t = some r)
    (X : SecId) : t ∈ (s.sec X).chain ↔ r.chainSec = some X := by
  rw [h.chain, State.chainOf, at_t]; rfl

theorem FoundSound.runs {t : Tag} {r : Item} (h : FoundSound s t) (at_t : s.item? t = some r)
    (X : SecId) : t ∈ s.runAt X ↔ r.heldSec = some X := by
  rw [h.run, State.heldOf, at_t]; rfl

/-- A section's stray, told by its chain. -/
theorem FoundSound.stray_iff {r : Item} (h : FoundSound s r.tag) (at_tag : s.item? r.tag = some r)
    (S : SecId) : s.isStrayOf S r = true ↔ r.home ≠ none ∧ r.chainSec = some S := by
  have chained := h.chained at_tag S
  rw [State.isStrayOf, Bool.and_eq_true, Bool.and_eq_true, decide_eq_true_eq,
    decide_eq_true_eq, chained,
    Option.isSome_iff_ne_none]
  constructor
  · exact fun stands => ⟨stands.1.1, stands.2⟩
  · exact fun stands =>
      ⟨⟨stands.1, ((h.fields r at_tag).stray_of_chained stands.1 stands.2).1⟩, stands.2⟩

/-- A provisional record on a section's chain. -/
theorem FoundSound.provisional_iff {r : Item} (h : FoundSound s r.tag)
    (at_tag : s.item? r.tag = some r)
    (S : SecId) : s.isProvisionalOf S r = true ↔ r.home = none ∧ r.chainSec = some S := by
  rw [State.isProvisionalOf, Bool.and_eq_true, decide_eq_true_eq, h.chained at_tag S,
    Option.isNone_iff_eq_none]

theorem Findings.recount (h : Findings s) (lists : Lists s) (walks : WalksBut none s) {S : SecId}
    (still : (s.sec S).state = .ready ∨ (s.sec S).state = .tallied) : Findings (s.recount S) := by
  refine h.of_release (S := S) (fun t r at_t => ?_) (fun t at_t => ?_) ?_ (fun X other => ?_)
    (fun X other => ?_) (State.placeAt_of_none (walks.context_none still))
    (State.placeAt_of_ctx (fun X => ?_) fun y => ?_)
  · obtain rfl := s.item_tag at_t
    have stray := (h.found r.tag).stray_iff at_t S
    have provisional := (h.found r.tag).provisional_iff at_t S
    rw [lists.canonical.item_recount, at_t]
    refine ⟨fun concerned => ?_, fun notHome notHere => ?_⟩
    · by_cases home : r.home = none
      · have here : r.chainSec = some S := by
          rcases concerned with home' | here
          · rw [home] at home'; cases home'
          · exact here
        exact .inl (by simp [Option.filter, provisional.mpr ⟨home, here⟩])
      · refine .inr ⟨home, ?_⟩
        have stays : s.isProvisionalOf S r = false := by
          rw [Bool.eq_false_iff]; exact fun gone => home (provisional.mp gone).1
        have unseen : (r.isHomeOf S || s.isStrayOf S r) = true := by
          rw [Bool.or_eq_true]
          rcases concerned with home' | here
          · exact .inl (by simpa [Item.isHomeOf] using home')
          · exact .inr (stray.mpr ⟨home, here⟩)
        simp only [Option.filter, stays, Bool.not_false, if_true, Option.map_some, unseen]
    · have stays : s.isProvisionalOf S r = false := by
        rw [Bool.eq_false_iff]; exact fun gone => notHere (provisional.mp gone).2
      have same : (r.isHomeOf S || s.isStrayOf S r) = false := by
        rw [Bool.or_eq_false_iff]
        refine ⟨by simpa [Item.isHomeOf] using notHome, ?_⟩
        rw [Bool.eq_false_iff]; exact fun here => notHere (stray.mp here).2
      simp [Option.filter, stays, Bool.or_eq_false_iff.mp same]
  · rw [lists.canonical.item_recount, at_t]; rfl
  · rw [State.sec_recount, if_pos rfl]; rfl
  · rw [State.sec_recount, if_neg other]
  · rw [State.sec_recount, if_neg other]
  · rw [State.sec_recount]
    split
    · subst_vars; rfl
    · rfl
  · rw [State.ctx_of_contexts (s.recount_contexts S)]

theorem Findings.unload (h : Findings s) (lists : Lists s) (walks : WalksBut none s) {S : SecId}
    (still : (s.sec S).state = .ready ∨ (s.sec S).state = .tallied) : Findings (s.unload S) := by
  refine h.of_release (S := S) (fun t r at_t => ?_) (fun t at_t => ?_) ?_ (fun X other => ?_)
    (fun X other => ?_) (State.placeAt_of_none (walks.context_none still))
    (State.placeAt_of_ctx (fun X => ?_) fun y => ?_)
  · obtain rfl := s.item_tag at_t
    have stray := (h.found r.tag).stray_iff at_t S
    have provisional := (h.found r.tag).provisional_iff at_t S
    rw [lists.canonical.item_unload, at_t]
    refine ⟨fun concerned => ?_, fun notHome notHere => ?_⟩
    · by_cases goes : (r.isHomeOf S || s.isProvisionalOf S r) = true
      · exact .inl (by simp [Option.filter, goes])
      · rw [Bool.not_eq_true, Bool.or_eq_false_iff] at goes
        obtain ⟨notHome, notProvisional⟩ := goes
        have here : r.chainSec = some S :=
          concerned.resolve_left (by simpa [Item.isHomeOf] using notHome)
        have home : r.home ≠ none := fun home => by
          rw [provisional.mpr ⟨home, here⟩] at notProvisional; cases notProvisional
        exact .inr ⟨home, by
          simp [Option.filter, notHome, notProvisional, stray.mpr ⟨home, here⟩]⟩
    · have notProvisional : s.isProvisionalOf S r = false := by
        rw [Bool.eq_false_iff]; exact fun gone => notHere (provisional.mp gone).2
      have notStray : s.isStrayOf S r = false := by
        rw [Bool.eq_false_iff]; exact fun here => notHere (stray.mp here).2
      have notHome : r.isHomeOf S = false := by simpa [Item.isHomeOf] using notHome
      simp [Option.filter, notHome, notProvisional, notStray]
  · rw [lists.canonical.item_unload, at_t]; rfl
  · rw [State.sec_unload, if_pos rfl]; rfl
  · rw [State.sec_unload, if_neg other]
  · rw [State.sec_unload, if_neg other]
  · rw [State.sec_unload]
    split
    · subst_vars; rw [walks.context_none still]; rfl
    · rfl
  · rw [State.ctx_of_contexts (s.unload_contexts S)]

/-! ### One record -/

/-- One record comes, goes or changes; every other tag stands where it stood. -/
theorem Findings.of_one (h : Findings s) {tag : Tag} (one : FoundSound u tag)
    (others : ∀ t, t ≠ tag → u.item? t = s.item? t)
    (chains : ∀ X t, t ≠ tag → (t ∈ (u.sec X).chain ↔ t ∈ (s.sec X).chain))
    (runs : ∀ X t, t ≠ tag → (t ∈ u.runAt X ↔ t ∈ s.runAt X))
    (nodup : ∀ X, (u.sec X).chain.Nodup) (ascends : ∀ X, (u.runAt X).Sublist (u.sec X).expected)
    (short : ∀ X, (u.runAt X).length ≤ 7) (cursor : ∀ X, u.cursorAt X ≤ (u.sec X).expected.length) :
    Findings u where
  found t := by
    by_cases same : t = tag
    · exact same ▸ one
    · exact (h.found t).of_same (by rw [others t same]) (fun X => chains X t same)
        fun X => runs X t same
  nodup := nodup
  ascends := ascends
  short := short
  cursor := cursor

/-- A chain that a tag leaves, if it stands on it, and whose tail it joins, if it is the new one. -/
def movedChain (leaves joins : Prop) [Decidable leaves] [Decidable joins]
    (chain : List Tag) (t : Tag) :
    List Tag :=
  (if leaves then chain.filter fun u => u ≠ t else chain) ++ if joins then [t] else []

section Chain
variable {leaves joins : Prop} [Decidable leaves] [Decidable joins] {chain : List Tag} {t v : Tag}

theorem mem_movedChain_of_ne (other : v ≠ t) : v ∈ movedChain leaves joins chain t ↔ v ∈ chain := by
  unfold movedChain
  split <;> split <;> simp [other]

theorem mem_movedChain_same (left : t ∈ chain → leaves) :
    t ∈ movedChain leaves joins chain t ↔ joins := by
  unfold movedChain
  by_cases h : leaves <;> by_cases k : joins <;> simp [h, k]
  exact mt left h

theorem nodup_movedChain (nodup : chain.Nodup) (left : t ∈ chain → leaves) :
    (movedChain leaves joins chain t).Nodup := by
  have rest : (if leaves then chain.filter fun u => u ≠ t else chain).Nodup := by
    split
    · exact nodup.filter _
    · exact nodup
  have gone : t ∉ if leaves then chain.filter fun u => u ≠ t else chain := by
    split
    · simp
    next stays => exact mt left stays
  unfold movedChain
  by_cases joined : joins
  · rw [if_pos joined]
    exact rest.append (List.nodup_singleton t) (List.disjoint_singleton.mpr gone)
  · rw [if_neg joined, List.append_nil]
    exact rest

end Chain

/-- A record that moves from one chain to another, out of the run it stood in, or goes. -/
theorem Findings.of_move (h : Findings s) {r : Item} (found : s.item? r.tag = some r)
    {o : Option Item}
    (item : ∀ t, u.item? t = if t = r.tag then o else s.item? t)
    (fields : ∀ q, o = some q → q.FieldsSound) (free : ∀ q, o = some q → q.heldSec = none)
    (chain : ∀ X, (u.sec X).chain =
      movedChain (r.chainSec = some X) (o.bind Item.chainSec = some X) (s.sec X).chain r.tag)
    (run : ∀ X, u.runAt X = (s.runAt X).filter fun t => t ≠ r.tag)
    (ascends : ∀ X, (u.runAt X).Sublist (u.sec X).expected)
    (cursor : ∀ X, u.cursorAt X ≤ (u.sec X).expected.length) : Findings u := by
  have at_tag : u.item? r.tag = o := by rw [item, if_pos rfl]
  have left (X : SecId) : r.tag ∈ (s.sec X).chain → r.chainSec = some X :=
    ((h.found r.tag).chained found X).mp
  refine h.of_one (tag := r.tag) ⟨?_, fun X => ?_, fun X =>
    ?_⟩ (fun t other => by rw [item, if_neg other])
    (fun X t other => by rw [chain, mem_movedChain_of_ne other])
    (fun X t other => by rw [run]; simp [other]) (fun X => ?_) ascends (fun X => ?_) cursor
  · rw [at_tag]; exact fields
  · rw [chain, mem_movedChain_same (left X), State.chainOf, at_tag]
  · rw [run, State.heldOf, at_tag]
    refine iff_of_false (by simp) ?_
    cases o with
    | none => nofun
    | some q => rw [Option.bind_some, free q rfl]; nofun
  · rw [chain]; exact nodup_movedChain (h.nodup X) (left X)
  · rw [run]; exact (List.length_filter_le _ _).trans (h.short X)

end Requests

end Sys2Proof.Machine

/-! # Proofs: findings under revisions, notices and SHELVED (R11, R13, R15, R20, R79, R121, R130) -/

namespace Sys2Proof.Machine

section Moves
variable {s u : State}

/-! ### Where the walks stand -/

theorem WalksBut.context_inj {R : Option SecId} (h : WalksBut R s) {S X : SecId} {x : CtxId}
    (one : (s.sec S).context = some x) (two : (s.sec X).context = some x) : S = X := by
  obtain ⟨c, walk, rfl⟩ := (h.names S x).mp one
  obtain ⟨d, walk', rfl⟩ := (h.names X x).mp two
  cases walk.symm.trans walk'
  rfl

/-- Contexts changed one by one, by a change that takes the section whose walk a context holds. -/
theorem State.placeAt_of_map (context : ∀ X, (u.sec X).context = (s.sec X).context)
    (f : SecId → List Tag × Nat → List Tag × Nat) (start : ∀ X, (s.sec X).context = none →
      f X ([], 0) = ([], 0))
    (ctx : ∀ X y, (s.sec X).context = some y →
      (u.ctx y).map Context.place = (s.ctx y).map fun c => f X c.place)
    (walks : WalksBut none s) (X : SecId) : u.placeAt X = f X (s.placeAt X) := by
  cases named : (s.sec X).context with
  | none =>
    rw [State.placeAt_of_none ((context X).trans named), State.placeAt_of_none named, start X named]
  | some y =>
    obtain ⟨c, walk, -⟩ := (walks.names X y).mp named
    have moved := ctx X y named
    rw [walk, Option.map_some] at moved
    obtain ⟨d, walk', place⟩ := Option.map_eq_some_iff.mp moved
    rw [State.placeAt_of_some ((context X).trans named) walk', State.placeAt_of_some named walk]
    exact place

/-- A record that leaves its place leaves the run it stood in (R79). -/
theorem Findings.placeAt_leavePlace (h : Findings s) (walks : WalksBut none s) {r : Item}
    (found : s.item? r.tag = some r) (X : SecId) :
    (s.leavePlace r).placeAt X = ((s.runAt X).filter fun t => t ≠ r.tag, s.cursorAt X) := by
  have stands := (h.found r.tag).runs found
  have moved := State.placeAt_of_map (s := s) (u := s.leavePlace r)
    (f := fun _ p => (p.1.filter fun t => t ≠ r.tag, p.2)) (fun X => by rw [State.sec_leavePlace])
    (fun _ _ => rfl) (fun X y named => ?_) walks X
  · rw [moved, State.placeAt_eq]
  · rw [State.ctx_leavePlace, Option.map_map]
    obtain ⟨c, walk, rfl⟩ := (walks.names X y).mp named
    rw [walk, Option.map_some, Option.map_some]
    refine congrArg some ?_
    by_cases inRun : r.tag ∈ c.run
    · have held := (stands c.sec).mp (walks.runAt_of_ctx walk ▸ inRun)
      obtain ⟨count, home⟩ : r.count = .held ∧
        r.home = some c.sec := by simpa [Item.heldSec] using held
      have here : r.count = .held ∧ (r.home.bind fun H => (s.sec H).context) = some y :=
        ⟨count, by rw [home]; exact named⟩
      simp only [Function.comp, if_pos here]
      rfl
    · have kept : c.run.filter (fun t => t ≠ r.tag) = c.run := by
        rw [List.filter_eq_self]
        intro t mem
        rw [decide_eq_true_eq]
        rintro rfl
        exact inRun mem
      simp only [Function.comp, Context.place, kept]
      split <;> rfl

theorem Findings.ascends_filter (h : Findings s) (lists : Lists s) (t : Tag) (X : SecId) :
    ((s.runAt X).filter fun v => v ≠ t).Sublist ((s.sec X).expected.erase t) := by
  have erased : (s.sec X).expected.erase t = (s.sec X).expected.filter fun v => v ≠ t := by
    rw [(lists.nodup X).erase_eq_filter]
    exact List.filter_congr fun v _ => by simp [bne, beq_eq_decide]
  rw [erased]
  exact (h.ascends X).filter _

/-- The run lists without a tag, in sequences that are as they were. -/
theorem Findings.ascends_left (h : Findings s) (t : Tag) (X : SecId) :
    ((s.runAt X).filter fun v => v ≠ t).Sublist (s.sec X).expected :=
  List.filter_sublist.trans (h.ascends X)

/-- A record that leaves its place for a chain, or for none (R79): the walks stand where they stood,
but for its run. -/
theorem Findings.of_leave (h : Findings s) (walks : WalksBut none s) {r : Item}
    (found : s.item? r.tag = some r) {o : Option Item}
    (item : ∀ t, u.item? t = if t = r.tag then o else s.item? t)
    (fields : ∀ q, o = some q → q.FieldsSound) (free : ∀ q, o = some q → q.heldSec = none)
    (chain : ∀ X, (u.sec X).chain =
      movedChain (r.chainSec = some X) (o.bind Item.chainSec = some X) (s.sec X).chain r.tag)
    (expected : ∀ X, (u.sec X).expected = (s.sec X).expected)
    (context : ∀ X, (u.sec X).context = (s.sec X).context)
    (ctx : ∀ y, u.ctx y = (s.leavePlace r).ctx y) : Findings u := by
  have place (X : SecId) : u.placeAt X = ((s.runAt X).filter fun t => t ≠ r.tag, s.cursorAt X) := by
    rw [← h.placeAt_leavePlace walks found]
    exact State.placeAt_of_ctx (fun X => by rw [context, State.sec_leavePlace])
      (fun y => by rw [ctx]) X
  have run (X : SecId) : u.runAt X = (s.runAt X).filter fun t => t ≠ r.tag := by
    rw [State.runAt_eq, place]
  refine h.of_move found item fields free chain run (fun X => ?_) fun X => ?_
  · rw [run, expected]; exact h.ascends_left r.tag X
  · rw [State.cursorAt_eq, place, expected]; exact h.cursor X

/-! ### Records that move -/

theorem Findings.dropRecord (h : Findings s) (walks : WalksBut none s) {r : Item}
    (found : s.item? r.tag = some r) (home : r.home = none) :
    Findings (((s.leaveChainOf r.foundIn r.tag).dropItems fun q => q.tag = r.tag).bumpWhere fun X =>
      some X = r.foundIn) := by
  have count : r.count = .unlisted := ((h.found r.tag).fields r found).1.mp home
  have free : r.count ≠ .held := by rw [count]; nofun
  have chainSec : r.chainSec = r.foundIn := Item.chainSec_of_unlisted count
  refine h.of_leave walks found (o := none) (fun t => State.item_dropRecord r t) nofun nofun
    (fun X => ?_) (fun X => ?_) (fun X => ?_) fun y => ?_
  · rw [State.sec_dropRecord, movedChain, chainSec]
    split <;> simp
  · rw [State.sec_dropRecord]; split <;> rfl
  · rw [State.sec_dropRecord]; split <;> rfl
  · rw [State.ctx_of_contexts (State.dropRecord_contexts r),
      State.ctx_of_contexts (State.contexts_leavePlace s free)]

theorem Findings.shelve (h : Findings s) (walks : WalksBut none s) {H : SecId} {r : Item}
    (found : s.item? r.tag = some r) (home : r.home = some H) (free : r.count ≠ .held) :
    Findings (s.shelve H r) := by
  have sound := (h.found r.tag).fields r found
  have atHome : r.home ≠ none := by rw [home]; nofun
  refine h.of_leave walks found (fun t => by rw [State.item_shelve, found, Option.map_some])
    (fun q same => ?_) (fun q same => ?_) (fun X => ?_) (fun X => ?_) (fun X => ?_) fun y => ?_
  · cases same
    exact .atHome (.inl rfl) atHome (sound.circ_ne atHome) home.symm rfl
  · cases same
    exact Item.heldSec_of_not nofun
  · rw [State.sec_shelve, movedChain, Option.bind_some,
      Item.chainSec_of_atHome (r := { r with count := .inPlace, found := _, prior := none })
        (.inr (.inl rfl))]
    simp
  · rw [State.sec_shelve]
  · rw [State.sec_shelve]
  · rw [State.ctx_of_contexts (State.shelve_contexts H free),
      State.ctx_of_contexts (State.contexts_leavePlace s free)]

theorem Findings.provisional (h : Findings s) (walks : WalksBut none s) {c : Context} {r : Item}
    (found : s.item? r.tag = some r) (home : r.home = none) :
    Findings (judgeProvisional c r s).state := by
  have sound := (h.found r.tag).fields r found
  have count : r.count = .unlisted := sound.1.mp home
  by_cases here : r.foundIn = some c.sec
  · rw [judgeProvisional_of_here here]
    exact h.of_alike (s.modItem_alike r.tag Item.sighted fun _ => rfl).toAlike
  · have wandered := judgeProvisional_wandered found here
    refine h.of_leave walks found (fun t => wandered.item t) (fun q same => ?_) (fun q same => ?_)
      (fun X => ?_) (fun X => ?_) (fun X => ?_) wandered.ctx
    · cases same
      exact .unlisted count home (sound.2.1.mpr count) nofun
        (sound.prior_none (by rw [count]; nofun))
    · cases same
      exact Item.heldSec_of_not (by rw [count]; nofun)
    · have joins : (if X = c.sec then [r.tag] else []) =
          if some c.sec = some X then [r.tag] else [] := by simp [eq_comm]
      rw [wandered.sec, movedChain, Option.bind_some, joins]
      rw [Item.chainSec_of_unlisted (r := { r with found := _, sight := _, moved := true }) count]
      rfl
    · rw [wandered.sec]
    · rw [wandered.sec]

theorem Findings.foreign (h : Findings s) (walks : WalksBut none s) {c : Context}
    {H : SecId} {r : Item}
    (found : s.item? r.tag = some r) (home : r.home = some H) (other : H ≠ c.sec) :
    Findings (judgeForeign c H r s).state := by
  have sound := (h.found r.tag).fields r found
  have atHome : r.home ≠ none := by rw [home]; nofun
  by_cases again : r.count = .elsewhere ∧ r.foundIn = some c.sec
  · rw [judgeForeign_of_again again]
    exact h.of_alike (s.sightAgain_alike c H r).toAlike
  · have strayed := judgeForeign_strayed (H := H) found again
    refine h.of_leave walks found (fun t => strayed.item t) (fun q same => ?_) (fun q same => ?_)
      (fun X => ?_) (fun X => ?_) (fun X => ?_) strayed.ctx
    · cases same
      refine .stray rfl atHome (sound.circ_ne atHome) nofun ?_ rfl
      show some c.sec ≠ r.home
      rw [home]
      exact fun same => other (Option.some.inj same).symm
    · cases same
      exact Item.heldSec_of_not nofun
    · rw [strayed.sec, movedChain, Option.bind_some]
      simp [Item.chainSec, Item.foundIn, eq_comm]
    · rw [strayed.sec]
    · rw [strayed.sec]

/-- A home record withdrawn (R13). -/
theorem Findings.retire (h : Findings s) (lists : Lists s) (walks : WalksBut none s)
    {H : SecId} {r : Item}
    (found : s.item? r.tag = some r) (home : r.home = some H) : Findings (s.retire H r) := by
  have stands : r.tag ∈ (s.sec H).expected := by
    rw [lists.home, State.homeOf, found]; exact home
  have place := State.placeAt_of_map (s := s.leavePlace r) (u := s.retire H r)
    (f := fun X p => (p.1, if X = H ∧ s.ordinal H r.tag < p.2 then p.2 - 1 else p.2))
    (fun X => by rw [State.sec_retire, State.sec_leavePlace]) (fun X _ => by simp)
    (fun X y named => ?_) ((SameWalks.of_kept (s.leavePlace_kept r)
      (s.leavePlace_same r)).walksBut walks)
  · have run (X : SecId) : (s.retire H r).runAt X = (s.runAt X).filter fun t => t ≠ r.tag := by
      rw [State.runAt_eq, place, h.placeAt_leavePlace walks found]
    refine h.of_move found (o := none) (fun t => s.item_retire H r t) nofun nofun (fun X => ?_)
      run (fun X => ?_) fun X => ?_
    · rw [State.sec_retire, movedChain]; simp
    · rw [run, State.sec_retire, State.ordinal, eraseIdx_idxOf]
      dsimp only
      split
      · subst_vars; exact h.ascends_filter lists r.tag _
      · exact h.ascends_left r.tag X
    · rw [State.cursorAt_eq, place, h.placeAt_leavePlace walks found, State.sec_retire]
      have cursor := h.cursor X
      by_cases here : X = H
      · subst here
        have within : s.ordinal X r.tag < (s.sec X).expected.length :=
          List.idxOf_lt_length_of_mem stands
        simp only [true_and, if_true]
        rw [List.length_eraseIdx_of_lt within]
        split <;> omega
      · simpa [here] using cursor
  · rw [State.ctx_retire, Option.map_map]
    refine congrArg (fun f => Option.map f _) (funext fun c => ?_)
    have same : (s.sec H).context = some y ↔ X = H := by
      rw [State.sec_leavePlace] at named
      exact ⟨fun here => walks.context_inj named here, fun here => here ▸ named⟩
    simp only [Function.comp, Context.place, same]
    by_cases here : X = H <;> simp [here]

end Moves

end Sys2Proof.Machine

/-! # Proofs: findings under insertions, adoptions, notices and judgements afresh (R11, R15, R83 to
R88) -/

namespace Sys2Proof.Machine

section Rest
variable {s u : State}

/-- Where the walks stand after a tag is stood in a sequence (R11). -/
theorem WalksBut.placeAt_inserted (walks : WalksBut none s) {S : SecId} {k : Nat}
    (context : ∀ X, (u.sec X).context = (s.sec X).context)
    (ctx : ∀ y, u.ctx y = (s.ctx y).map fun c =>
      if (s.sec S).context = some y ∧ k < c.cursor then { c with cursor := c.cursor + 1 } else c)
    (X : SecId) : u.placeAt X =
      (s.runAt X, if X = S ∧ k < s.cursorAt X then s.cursorAt X + 1 else s.cursorAt X) := by
  have place := State.placeAt_of_map (s := s) (u := u)
    (f := fun X p => (p.1, if X = S ∧ k < p.2 then p.2 + 1 else p.2)) context (fun X _ => by simp)
    (fun X y named => ?_) walks X
  · rw [place, State.placeAt_eq]
  · rw [ctx, Option.map_map]
    refine congrArg (fun f => Option.map f _) (funext fun c => ?_)
    have same : (s.sec S).context = some y ↔ X = S :=
      ⟨fun here => walks.context_inj named here, fun here => here ▸ named⟩
    simp only [Function.comp, Context.place, same]
    by_cases here : X = S ∧ k < c.cursor <;> simp [here]

/-- A record stood in the sequence of its section, its chain and run as they are (R11, R15). -/
theorem Findings.of_insert (h : Findings s) {S : SecId} {k : Nat} {r : Item}
    (one : FoundSound u r.tag) (others : ∀ t, t ≠ r.tag → u.item? t = s.item? t)
    (chains : ∀ X t, t ≠ r.tag → (t ∈ (u.sec X).chain ↔ t ∈ (s.sec X).chain))
    (nodup : ∀ X, (u.sec X).chain.Nodup)
    (expected : ∀ X, (u.sec X).expected =
      if X = S then (s.sec S).expected.insertIdx k r.tag else (s.sec X).expected)
    (within : k ≤ s.length S) (place : ∀ X, u.placeAt X =
      (s.runAt X, if X = S ∧ k < s.cursorAt X then s.cursorAt X + 1 else s.cursorAt X)) :
    Findings u := by
  have run (X : SecId) : u.runAt X = s.runAt X := by rw [State.runAt_eq, place]
  refine h.of_one one others chains (fun X t _ => by rw [run]) nodup (fun X => ?_)
    (fun X => run X ▸ h.short X) fun X => ?_
  · rw [run, expected]
    split
    · subst_vars; exact (h.ascends _).trans (List.sublist_insertIdx _ _ _)
    · exact h.ascends X
  · have cursor := h.cursor X
    rw [State.cursorAt_eq, place, expected]
    by_cases here : X = S
    · subst here
      rw [if_pos rfl, List.length_insertIdx_of_le_length within]
      dsimp only
      split <;> omega
    · simpa [here] using cursor

theorem Findings.insert (h : Findings s) (walks : WalksBut none s) {S : SecId} {k : Nat} {r : Item}
    (fields : r.FieldsSound) (away : r.count.Away) (new : s.item? r.tag = none)
    (within : k ≤ s.length S) : Findings (((s.addItem r).insertAt S k r.tag).bump S) := by
  have context (X : SecId) :
      ((((s.addItem r).insertAt S k r.tag).bump S).sec X).context = (s.sec X).context := by
    rw [State.sec_insert]; split
    · subst_vars; rfl
    · rfl
  have chain (X : SecId) :
      ((((s.addItem r).insertAt S k r.tag).bump S).sec X).chain = (s.sec X).chain := by
    rw [State.sec_insert]; split
    · subst_vars; rfl
    · rfl
  have place := walks.placeAt_inserted (S := S) (k := k) context (s.ctx_insert S k r)
  have item := s.item_insert S k new
  have before := h.found r.tag
  refine h.of_insert (r := r) ⟨fun q at_t => ?_, fun X => ?_, fun X => ?_⟩
    (fun t other => by rw [item, if_neg other]) (fun X t _ => by rw [chain])
    (fun X => chain X ▸ h.nodup X) (fun X => ?_) within place
  · rw [item, if_pos rfl] at at_t; cases at_t; exact fields
  · rw [chain, before.chain, State.chainOf, State.chainOf, new, item, if_pos rfl, Option.bind_some,
      Item.chainSec_of_away away]
    simp
  · rw [State.runAt_eq, place, before.run, State.heldOf, State.heldOf, new, item, if_pos rfl,
      Option.bind_some, Item.heldSec_of_away away]
    simp
  · rw [State.sec_insert]; split <;> rfl

theorem Findings.adopt (h : Findings s) (walks : WalksBut none s) {S : SecId} {k : Nat} {r : Item}
    (found : s.item? r.tag = some r) (home : r.home = none) (within : k ≤ s.length S) :
    Findings (s.adopt S k r) := by
  have before := h.found r.tag
  have sound := before.fields r found
  have count : r.count = .unlisted := sound.1.mp home
  have chained : r.chainSec = r.foundIn := Item.chainSec_of_unlisted count
  obtain ⟨F, foundIn⟩ := sound.foundIn_some (.inr count)
  have isFound : r.found ≠ none := fun none => by rw [Item.foundIn, none] at foundIn; cases foundIn
  have prior : r.prior = none := sound.prior_none (by rw [count]; nofun)
  have item (t : Tag) : (s.adopt S k r).item? t = if t = r.tag then
      some { r with home := some S, circ := some .shelf, count := adoptedCount S r }
      else s.item? t := by
    rw [State.item_adopt, found]; rfl
  have place := walks.placeAt_inserted (S := S) (k := k) (u := s.adopt S k r)
    (fun X => by rw [State.sec_adopt]) (s.ctx_adopt S k r)
  have chain (X : SecId) (t : Tag) : t ∈ ((s.adopt S k r).sec X).chain ↔
      t ∈ (s.sec X).chain ∧ ¬ (t = r.tag ∧ X = S ∧ r.foundIn = some S) := by
    rw [State.sec_adopt]
    dsimp only
    split
    next here => simp [here]
    next away => simp [away]
  refine h.of_insert (r := r) (S := S) (k := k) ⟨fun q at_t => ?_, fun X => ?_, fun X => ?_⟩
    (fun t other => by rw [item, if_neg other]) (fun X t other => by rw [chain]; simp [other])
    (fun X => ?_) (fun X => ?_) within place
  · rw [item, if_pos rfl] at at_t
    cases at_t
    by_cases here : r.foundIn = some S
    · exact .atHome (.inl (if_pos here)) nofun nofun here prior
    · exact .stray (if_neg here) nofun nofun isFound here prior
  · rw [chain, before.chained found, chained, State.chainOf, item, if_pos rfl, Option.bind_some]
    by_cases here : r.foundIn = some S
    · rw [Item.chainSec_of_atHome (.inr (.inl (if_pos here))), here]
      simp only [Option.some_inj, true_and, and_true, reduceCtorEq, iff_false, not_and, not_not]
      exact Eq.symm
    · have stray : adoptedCount S r = .elsewhere := if_neg here
      rw [Item.chainSec, if_pos (.inl stray)]
      simp only [here, and_false, not_false_eq_true, and_true]
      rfl
  · rw [State.runAt_eq, place, before.runs found, State.heldOf, item, if_pos rfl, Option.bind_some,
      Item.heldSec_of_not (by rw [count]; nofun), Item.heldSec_of_not]
    show adoptedCount S r ≠ .held
    unfold adoptedCount
    split <;> nofun
  · rw [State.sec_adopt]
    dsimp only
    split
    · exact (h.nodup X).filter _
    · exact h.nodup X
  · rw [State.sec_adopt]

/-- A notice changes a record's circulation, or moves an unfound item to DESK (R121 to R123). -/
theorem Findings.notice (h : Findings s) (walks : WalksBut none s) {r : Item} {H : SecId}
    {f : Item → Item} {count : CountState} {circ : Circulation} (found : s.item? r.tag = some r)
    (home : r.home = some H) (moves : count = r.count ∨ r.openToNotice = true ∧ count = .desk)
    (writes : ∀ q, (f q).core = ({ q with circ := some circ, count := count } : Item).core) :
    Findings (s.modItem r.tag f) := by
  have sound := (h.found r.tag).fields r found
  have atHome : r.home ≠ none := by rw [home]; nofun
  have tags (q : Item) : (f q).tag = q.tag :=
    (congrArg Item.tag (writes q) : (f q).core.tag = _)
  have item (t : Tag) : (s.modItem r.tag f).item? t = if t =
    r.tag then some (f r) else s.item? t := by
    rw [State.item_modItem _ _ _ tags, found]; rfl
  rcases moves with rfl | ⟨isOpen, rfl⟩
  · refine h.of_places (fun t => ?_) (fun _ => rfl) (fun _ => rfl) fun _ => rfl
    rw [item]
    split
    · subst_vars
      obtain ⟨c, circ'⟩ := Option.ne_none_iff_exists'.mp (sound.circ_ne atHome)
      rw [found, Option.map_some, Option.map_some, writes]
      simp [Item.core, circ']
    · rfl
  · have away : r.count.Away := (CountState.away_iff _).mpr (by
      unfold Item.openToNotice at isOpen
      revert isOpen
      cases r.count <;> decide)
    have free : r.count ≠ .held := fun held => away.1 (.inl held)
    have afterAway : (f r).count.Away := by
      have same : (f r).count = .desk := (congrArg Item.count (writes r) : (f r).core.count = _)
      rw [same]; simp [CountState.away_iff]
    refine h.of_leave walks found item (fun q same => ?_) (fun q same => ?_) (fun X => ?_)
      (fun _ => rfl) (fun _ => rfl) fun y => ?_
    · cases same
      refine Item.FieldsSound.of_core (q := { r with circ := some circ, count := .desk })
        ?_ (writes r)
      exact .away (by simp [CountState.away_iff]) atHome nofun (sound.found_none away)
        (sound.prior_none free)
    · cases same; exact Item.heldSec_of_away afterAway
    · rw [movedChain, Option.bind_some, Item.chainSec_of_away afterAway, Item.chainSec_of_away away]
      simp
    · rw [State.ctx_of_contexts (State.contexts_leavePlace s free)]; rfl

/-- A provisional record begins at its walk's cursor (R76). -/
theorem Findings.unknown (h : Findings s) {c : Context} {t : Tag} (new : s.item? t = none) :
    Findings (judgeUnknown c t s).state := by
  by_cases room : s.items.length < 131072
  · have before := h.found t
    have unchained (X : SecId) : t ∉ (s.sec X).chain := by
      rw [before.chain, State.chainOf, new]; nofun
    have chain (X : SecId) : ((judgeUnknown c t s).state.sec X).chain =
        movedChain False (X = c.sec) (s.sec X).chain t := by
      rw [sec_judgeUnknown room, movedChain]
      split <;> simp
    have place := State.placeAt_of_ctx (s := s) (u := (judgeUnknown c t s).state)
      (fun X => by rw [sec_judgeUnknown room]; split <;> rfl)
      fun y => by rw [State.ctx_of_contexts judgeUnknown_contexts]
    have expected (X : SecId) : ((judgeUnknown c t s).state.sec X).expected =
      (s.sec X).expected := by
      rw [sec_judgeUnknown room]; split <;> rfl
    have run (X : SecId) : (judgeUnknown c t s).state.runAt X = s.runAt X := by
      rw [State.runAt_eq, place, State.runAt_eq]
    have item := item_judgeUnknown (c := c) new room
    refine h.of_one (tag := t) ⟨fun q at_t => ?_, fun X => ?_, fun X => ?_⟩
      (fun t' other => by rw [item, if_neg other])
      (fun X t' other => by rw [chain, mem_movedChain_of_ne other]) (fun X t' _ => by rw [run])
      (fun X => ?_) (fun X => by rw [run, expected]; exact h.ascends X)
      (fun X => run X ▸ h.short X) fun X => ?_
    · rw [item, if_pos rfl] at at_t
      cases at_t
      exact .unlisted rfl rfl rfl nofun rfl
    · rw [chain, mem_movedChain_same (fun mem => absurd mem (unchained X)), State.chainOf,
        item, if_pos rfl,
        Option.bind_some, Item.chainSec_of_unlisted rfl, eq_comm]
      exact (Option.some_inj (a := c.sec) (b := X)).symm
    · rw [run, before.run, State.heldOf, State.heldOf, new, item, if_pos rfl, Option.bind_some,
        Item.heldSec_of_not (r := Sys2Proof.Machine.provisional _ _ _ _)
          (show CountState.unlisted ≠ .held by nofun)]
      simp
    · rw [chain]; exact nodup_movedChain (h.nodup X) fun mem => absurd mem (unchained X)
    · rw [State.cursorAt_eq, place, ← State.cursorAt_eq, expected]; exact h.cursor X
  · rw [judgeUnknown_of_full (not_lt.mp room)]
    exact h.of_alike (s.raise_alike _).toAlike

end Rest

end Sys2Proof.Machine

/-! # Proofs: findings under a judgement afresh, and under every effect (R2, R73, R74, R106) -/

namespace Sys2Proof.Machine

/-! ### A run that grows (R84) -/

theorem pairwise_append_last {run : List Tag} {ord : Tag → Nat} {last t : Tag}
    (ascends : run.Pairwise fun a b => ord a < ord b) (stands : run.getLast? = some last)
    (behind : ord last < ord t) : (run ++ [t]).Pairwise fun a b => ord a < ord b := by
  obtain ⟨front, rfl⟩ := List.getLast?_eq_some_iff.mp stands
  rw [List.pairwise_append] at ascends ⊢
  obtain ⟨-, -, before⟩ := id ascends
  refine ⟨List.pairwise_append.mpr ascends, List.pairwise_singleton _ _, fun a mem b mem' => ?_⟩
  rw [List.mem_singleton.mp mem']
  rcases List.mem_append.mp mem with mem | mem
  · exact (before a mem last (List.mem_singleton_self _)).trans behind
  · rwa [List.mem_singleton.mp mem]

section Fresh
variable {s u : State} {x : CtxId} {c : Context} {r : Item}

/-- The prior state of an item judged afresh is one without a finding. -/
theorem Item.Fresh.prior_away (h : r.Fresh)
    (new : ¬ (r.count = .inPlace ∨ r.count = .disordered ∨ r.count = .held)) :
    r.freshPrior.Away := by
  unfold Item.freshPrior
  split
  next stray => simp [CountState.away_iff]
  next notStray =>
    have listed := h.listed
    rw [CountState.away_iff]
    revert new notStray listed
    cases r.count <;> decide

/-- What becomes of the records of a run that ends keeps their fields and their chains. -/
theorem Item.Ends.kept {q q' : Item} (h : q.Ends c q') (sound : q.FieldsSound)
    (held : q.tag ∈ c.run ↔ q.heldSec = some c.sec) :
    q'.FieldsSound ∧ q'.chainSec = q.chainSec ∧
      q'.heldSec = if q.tag ∈ c.run then none else q.heldSec := by
  cases h with
  | @entry st mem settled =>
    obtain ⟨count, home⟩ : q.count = .held ∧ q.home = some c.sec := by
      simpa [Item.heldSec] using held.mp mem
    have atHome : q.home ≠ none := by rw [home]; nofun
    have free : st ≠ .held := by rcases settled with rfl | rfl <;> nofun
    refine ⟨.atHome settled atHome (sound.circ_ne atHome)
      (sound.foundIn_home (.inl count)) rfl, ?_, ?_⟩
    · rw [Item.chainSec_of_atHome (.inr settled), Item.chainSec_of_atHome (.inl count)]
    · rw [if_pos mem]; exact Item.heldSec_of_not free
  | passed out home unseen =>
    have atHome : q.home ≠ none := by rw [home]; nofun
    have before : q.count.Away := (CountState.away_iff _).mpr (.inl unseen)
    have after : CountState.passed.Away := (CountState.away_iff _).mpr (.inr (.inl rfl))
    refine ⟨.away after atHome (sound.circ_ne atHome) (sound.found_none before)
      (sound.prior_none (by rw [unseen]; nofun)), ?_, ?_⟩
    · rw [Item.chainSec_of_away before]; exact Item.chainSec_of_away after
    · rw [if_neg out, Item.heldSec_of_away before]; exact Item.heldSec_of_away after
  | other out => exact ⟨sound, rfl, by rw [if_neg out]⟩

/-- A judgement afresh from a state with sound findings, and what it leaves. -/
structure FreshStep (s u : State) (x : CtxId) (c : Context) (r : Item) (st : CountState)
    (prior : Option CountState) (others : Item → Item) (d : Context) : Prop where
  before : Findings s
  lists : Lists s
  walks : WalksBut none s
  walk : s.ctx x = some c
  found : s.item? r.tag = some r
  home : r.home = some c.sec
  new : ¬ (r.count = .inPlace ∨ r.count = .disordered ∨ r.count = .held)
  after : ∃ attends reached, FreshlyFound s u x c r st prior others d attends reached
  ends : FreshEnd s c r st prior others d.run

namespace FreshStep
variable {st : CountState} {prior : Option CountState} {others : Item → Item} {d : Context}
  (k : FreshStep s u x c r st prior others d)
include k

theorem fresh : r.Fresh := k.lists.fresh k.found k.home k.new

theorem sound : r.FieldsSound := (k.before.found r.tag).fields r k.found

theorem atHome : r.home ≠ none := by rw [k.home]; nofun

theorem circ : r.circ ≠ none := k.sound.circ_ne k.atHome

theorem run : s.runAt c.sec = c.run := k.walks.runAt_of_ctx k.walk

theorem stands : r.tag ∈ (s.sec c.sec).expected := by
  rw [k.lists.home, State.homeOf, k.found]; exact k.home

theorem expected (X : SecId) : (u.sec X).expected = (s.sec X).expected := by
  obtain ⟨_, _, after⟩ := k.after
  rw [after.sec]

theorem item : u.item? r.tag = some (r.foundAtHome c s.clock st prior) := by
  obtain ⟨_, _, after⟩ := k.after
  exact after.item

theorem item_other {t : Tag} (other : t ≠ r.tag) : u.item? t = (s.item? t).map others := by
  obtain ⟨_, _, after⟩ := k.after
  exact after.others t other

theorem place (X : SecId) : u.placeAt X = if X = c.sec then (d.run, d.cursor) else s.placeAt X := by
  obtain ⟨_, _, after⟩ := k.after
  have context (X : SecId) : (u.sec X).context = (s.sec X).context := by rw [after.sec]
  by_cases here : X = c.sec
  · rw [if_pos here, here]
    exact State.placeAt_of_some ((context c.sec).trans (k.walks.context_eq k.walk))
      (by rw [after.ctx, if_pos rfl])
  · rw [if_neg here]
    exact k.walks.placeAt_of_others (.inl (k.walks.context_eq k.walk)) (fun X _ => context X)
      (fun y other => by rw [after.ctx, if_neg other]) here

theorem runAt (X : SecId) : u.runAt X = if X = c.sec then d.run else s.runAt X := by
  rw [State.runAt_eq, k.place, State.runAt_eq]
  split <;> rfl

theorem chain (X : SecId) : (u.sec X).chain =
    movedChain (r.count = .elsewhere ∧ r.foundIn = some X) False (s.sec X).chain r.tag := by
  obtain ⟨_, _, after⟩ := k.after
  rw [after.sec, movedChain]
  simp

theorem left (X : SecId) : r.tag ∈ (s.sec X).chain → r.count = .elsewhere ∧ r.foundIn = some X := by
  intro mem
  obtain ⟨onChain, foundIn⟩ :=
    Item.chainSec_some (((k.before.found r.tag).chained k.found X).mp mem)
  exact ⟨onChain.resolve_right k.fresh.listed, foundIn⟩

theorem outside (X : SecId) : r.tag ∉ s.runAt X := by
  rw [(k.before.found r.tag).runs k.found, Item.heldSec_of_not k.fresh.free]
  nofun

/-- The item does not stand in the run that it is given, or it is HELD in it. -/
theorem itself : FoundSound u r.tag := by
  have chained (atHome : st.AtHome) (S : SecId) : r.tag ∈ (u.sec S).chain ↔ u.chainOf r.tag =
    some S := by
    rw [k.chain, mem_movedChain_same (k.left S), State.chainOf, k.item, Option.bind_some,
      Item.chainSec_of_atHome (r := r.foundAtHome c s.clock st prior) atHome]
    simp
  have runs (S : SecId) (member : r.tag ∈ d.run ↔ st = .held) :
      r.tag ∈ u.runAt S ↔ u.heldOf r.tag = some S := by
    rw [k.runAt, State.heldOf, k.item, Option.bind_some, Item.heldSec,
      show (r.foundAtHome c s.clock st prior).home = some c.sec from k.home]
    by_cases here : S = c.sec
    · rw [if_pos here, member, here]
      show st = .held ↔ (if st = .held then some c.sec else none) = some c.sec
      split <;> simp [*]
    · rw [if_neg here]
      refine iff_of_false (k.outside S) ?_
      split
      · simpa using Ne.symm here
      · nofun
  have fields (q : Item) (at_tag : u.item? r.tag = some q)
      (sound : (r.foundAtHome c s.clock st prior).FieldsSound) : q.FieldsSound := by
    cases k.item.symm.trans at_tag; exact sound
  have ends := k.ends
  generalize run_eq : d.run = newRun at ends
  cases ends with
  | settles settled =>
    have free : st ≠ .held := by rcases settled with rfl | rfl <;> nofun
    exact ⟨fun q at_tag => fields q at_tag (.atHome settled k.atHome k.circ k.home.symm rfl),
      chained (.inr settled), fun S => runs S (by rw [run_eq]; simp [free])⟩
  | begins =>
    exact ⟨fun q at_tag => fields q at_tag
        (.held rfl k.atHome k.circ k.home.symm rfl (k.fresh.prior_away k.new)),
      chained (.inl rfl), fun S => runs S (by rw [run_eq]; simp)⟩
  | joins =>
    exact ⟨fun q at_tag => fields q at_tag
        (.held rfl k.atHome k.circ k.home.symm rfl (k.fresh.prior_away k.new)),
      chained (.inl rfl), fun S => runs S (by rw [run_eq]; simp)⟩

/-- Another record stands in the run exactly if it is HELD, as before or no longer. -/
theorem other {t : Tag} (other : t ≠ r.tag) : FoundSound u t := by
  have before := k.before.found t
  cases at_t : s.item? t with
  | none =>
    have none : u.item? t = Option.none := by rw [k.item_other other, at_t]; rfl
    refine before.of_same (by rw [none, at_t])
      (fun S => by rw [k.chain, mem_movedChain_of_ne other])
      fun S => ?_
    have unheld (S : SecId) : t ∉ s.runAt S := by
      rw [before.run, State.heldOf, at_t]; nofun
    rw [k.runAt]
    split
    · subst_vars
      refine iff_of_false ?_ (unheld c.sec)
      have ends := k.ends
      generalize d.run = newRun at ends
      cases ends with
      | settles => simp
      | begins => simpa using other
      | joins => simpa [other, ← k.run] using unheld c.sec
    · rfl
  | some q =>
    obtain rfl := s.item_tag at_t
    have sound := before.fields q at_t
    have runs := before.runs at_t
    have inRun : q.tag ∈ c.run ↔ q.heldSec = some c.sec := by rw [← k.run, runs]
    have item : u.item? q.tag = some (others q) := by rw [k.item_other other, at_t]; rfl
    have chained (same : (others q).chainSec = q.chainSec) (S : SecId) :
        q.tag ∈ (u.sec S).chain ↔ u.chainOf q.tag = some S := by
      rw [k.chain, mem_movedChain_of_ne other, before.chained at_t, State.chainOf, item,
        Option.bind_some, same]
    have fields (sound : (others q).FieldsSound) (p : Item) (at_u : u.item? q.tag = some p) :
        p.FieldsSound := by
      cases item.symm.trans at_u; exact sound
    have ended (gone : q.tag ∉ d.run) (kept : q.Ends c (others q)) : FoundSound u q.tag := by
      obtain ⟨fields', chained', held⟩ := kept.kept sound inRun
      refine ⟨fields fields', chained chained', fun S => ?_⟩
      rw [k.runAt, State.heldOf, item, Option.bind_some, held]
      by_cases here : S = c.sec
      · rw [if_pos here, here]
        refine iff_of_false gone ?_
        split
        · nofun
        next out => rwa [← inRun]
      · rw [if_neg here, runs]
        split
        next mem => rw [inRun.mp mem]; simpa using Ne.symm here
        · rfl
    have ends := k.ends
    generalize run_eq : d.run = newRun at ends
    cases ends with
    | settles _ ends => exact ended (by rw [run_eq]; simp) (ends q)
    | begins ends => exact ended (by rw [run_eq]; simpa using other) (ends q)
    | joins =>
      refine ⟨fields sound, chained rfl, fun S => ?_⟩
      rw [k.runAt, State.heldOf, item, Option.bind_some, id, ← runs]
      split
      · subst_vars; rw [run_eq, k.run]; simp [other]
      · rfl

/-- The run stands in the sequence in ascending order, and is at most 7 long. -/
theorem ascends (settings : SettingsInRange s.settings) :
    d.run.Sublist (s.sec c.sec).expected ∧ d.run.length ≤ 7 := by
  have ends := k.ends
  generalize d.run = newRun at ends
  cases ends with
  | settles => exact ⟨List.nil_sublist _, Nat.zero_le _⟩
  | begins => exact ⟨List.singleton_sublist.mpr k.stands, by simp⟩
  | joins continues short =>
    obtain ⟨last, stood, behind, -⟩ := continues
    obtain ⟨subset, ordered⟩ :=
      (sublist_iff_ordinals (k.lists.nodup c.sec)).mp (k.run ▸ k.before.ascends c.sec)
    refine ⟨(sublist_iff_ordinals (k.lists.nodup c.sec)).mpr ⟨fun t mem => ?_,
      pairwise_append_last ordered stood behind⟩, ?_⟩
    · rcases List.mem_append.mp mem with mem | mem
      · exact subset t mem
      · rw [List.mem_singleton.mp mem]; exact k.stands
    · obtain ⟨-, -, -, -, -, -, -, ⟨-, limit⟩, -⟩ := settings
      rw [List.length_append, List.length_singleton]
      omega

theorem findings (settings : SettingsInRange s.settings)
    (moved : d.cursor = c.cursor ∨ d.cursor = s.ordinal c.sec r.tag + 1) : Findings u := by
  refine ⟨fun t => ?_, fun X => ?_, fun X => ?_, fun X => ?_, fun X => ?_⟩
  · by_cases same : t = r.tag
    · rw [same]; exact k.itself
    · exact k.other same
  · rw [k.chain]; exact nodup_movedChain (k.before.nodup X) (k.left X)
  · rw [k.runAt, k.expected]
    split
    · subst_vars; exact (k.ascends settings).1
    · exact k.before.ascends X
  · rw [k.runAt]
    split
    · exact (k.ascends settings).2
    · exact k.before.short X
  · rw [State.cursorAt_eq, k.place, k.expected]
    by_cases here : X = c.sec
    · subst here
      have before := k.before.cursor c.sec
      rw [k.walks.cursorAt_of_ctx k.walk] at before
      have within : s.ordinal c.sec r.tag < (s.sec c.sec).expected.length :=
        List.idxOf_lt_length_of_mem k.stands
      rw [if_pos rfl]
      dsimp only
      rcases moved with same | same <;> rw [same] <;> omega
    · rw [if_neg here, ← State.cursorAt_eq]; exact k.before.cursor X

end FreshStep

/-- A judgement afresh keeps the findings. -/
theorem Findings.fresh (h : Findings s) (lists : Lists s) (walks : WalksBut none s)
    (settings : SettingsInRange s.settings) (walk : s.ctx x = some c)
    (found : s.item? r.tag = some r)
    (home : r.home = some c.sec)
    (new : ¬ (r.count = .inPlace ∨ r.count = .disordered ∨ r.count = .held)) :
    Findings (judgeFresh x c r s).state := by
  obtain ⟨st, prior, others, d, attends, reached, after, ends, moved, -⟩ :=
    judgeFresh_ends walk found (lists.fresh found home new)
  have step : FreshStep s (judgeFresh x c r s).state x c r st prior others d :=
    ⟨h, lists, walks, walk, found, home, new, ⟨attends, reached, after⟩, ends⟩
  exact step.findings settings moved

end Fresh

end Sys2Proof.Machine

/-! # Proofs: park queues under every effect and in the drain (R93, R95, R97) -/

namespace Sys2Proof.Machine

/-- `ParksSound`, but the park queue of the section `R`, which is being drained, may hold entries
although its revision is closed. -/
def ParksBut (R : Option SecId) (s : State) : Prop :=
  ∀ x c, s.ctx x = some c →
    c.park.length ≤ 32 ∧ ((s.sec c.sec).revision = none → R = some c.sec ∨ c.park = [])

theorem parksSound_iff {s : State} : ParksSound s ↔ ParksBut none s := by
  constructor
  · exact fun h x c walk => ⟨(h x c walk).1, fun closed => .inr ((h x c walk).2 closed)⟩
  · exact fun h x c walk => ⟨(h x c walk).1, fun closed =>
      ((h x c walk).2 closed).resolve_left nofun⟩

section Parks
variable {s u : State} {R : Option SecId}

theorem ParksBut.mono (h : ParksBut none s) : ParksBut R s :=
  fun x c walk => ⟨(h x c walk).1, fun closed => .inr (((h x c walk).2 closed).resolve_left nofun)⟩

/-- Contexts with the park queues they had or with empty ones, of sections whose revision has not
closed. -/
theorem ParksBut.of_ctx (h : ParksBut R s)
    (ctx : ∀ x d, u.ctx x = some d → d.park = [] ∨
      ∃ c, s.ctx x = some c ∧ c.sec = d.sec ∧ c.park = d.park)
    (revision : ∀ x c, s.ctx x = some c → (u.sec c.sec).revision = none →
      (s.sec c.sec).revision = none) : ParksBut R u := by
  intro x d walk
  rcases ctx x d walk with empty | ⟨c, walk', sec, park⟩
  · rw [empty]; exact ⟨Nat.zero_le _, fun _ => .inr rfl⟩
  · obtain ⟨short, closed⟩ := h x c walk'
    rw [← park, ← sec]
    exact ⟨short, fun none => closed (revision x c walk' none)⟩

/-- What the park queues are seen by: the section and the queue of a context. -/
def Context.parked (c : Context) : SecId × List Tag := (c.sec, c.park)

theorem ParksBut.of_map (h : ParksBut R s)
    (ctx : ∀ x, (u.ctx x).map Context.parked = (s.ctx x).map Context.parked)
    (revision : ∀ X, (u.sec X).revision = none → (s.sec X).revision = none) : ParksBut R u := by
  refine h.of_ctx (fun x d walk => .inr ?_) fun _ c _ => revision c.sec
  have agree := ctx x
  rw [walk, Option.map_some, eq_comm, Option.map_eq_some_iff] at agree
  obtain ⟨c, walk', same⟩ := agree
  exact ⟨c, walk', congrArg Prod.fst same, congrArg Prod.snd same⟩

theorem ParksBut.of_alike (h : ParksBut R s) (same : Alike s u) : ParksBut R u := by
  refine h.of_map (fun x => ?_) fun X closed => ?_
  · have parked (c : Context) : c.core.parked = c.parked := rfl
    have agree := congrArg (Option.map Context.parked) (same.ctx x)
    simpa [Option.map_map, Function.comp_def, parked] using agree
  · have agree : (u.sec X).revision.map (fun _ => 0) = (s.sec X).revision.map fun _ => 0 :=
      (congrArg SectionRec.revision (same.sec X) : (u.sec X).core.revision =
        (s.sec X).core.revision)
    rw [closed, Option.map_none, eq_comm, Option.map_eq_none_iff] at agree
    exact agree

theorem ParksBut.of_kept (h : ParksBut R s) (kept : WalksKept s u) : ParksBut R u := by
  refine h.of_map (fun x => ?_) fun X closed => ?_
  · have agree := congrArg (Option.map fun l : SecId × Option Wand × List Tag × Option Nat =>
      (l.1, l.2.2.1)) (kept.ctx x)
    simp only [Option.map_map] at agree
    exact agree
  · have same : (u.sec X).revision = (s.sec X).revision :=
      (congrArg SectionRec.revision (kept.sec X) : (u.sec X).settled.revision = _)
    rw [← same, closed]

theorem ParksBut.startWalk (h : ParksBut R s) (x : CtxId) (S : SecId) (w : Wand) :
    ParksBut R ((s.unclaim w).startWalk x S w) := by
  refine h.of_ctx (fun y d walk => ?_) fun _ c _ closed => ?_
  · rw [State.ctx_startWalk] at walk
    split at walk
    · cases walk; exact .inl rfl
    · exact .inr ⟨d, walk, rfl, rfl⟩
  · rw [State.sec_startWalk] at closed
    split at closed
    next here => rw [here]; exact closed
    · exact closed

theorem ParksBut.resumeWalk (h : ParksBut R s) (x : CtxId) (S : SecId) (w : Wand) :
    ParksBut R ((s.unclaim w).resumeWalk x S w) := by
  refine h.of_map (fun y => ?_) fun X closed => ?_
  · rw [State.ctx_resumeWalk]
    split
    · subst_vars; rw [Option.map_map]; rfl
    · rfl
  · rw [State.sec_resumeWalk] at closed
    split at closed
    next here => rw [here]; exact closed
    · exact closed

theorem ParksBut.suspendWalk (h : ParksBut R s) (x : CtxId) (c : Context) (w : Wand) :
    ParksBut R (s.suspend x c w) := by
  refine h.of_map (fun y => ?_) fun X closed => ?_
  · rw [State.ctx_suspend]
    split
    · subst_vars; rw [Option.map_map]; rfl
    · rfl
  · rw [State.sec_suspend] at closed
    split at closed
    next here => rw [here]; exact closed
    · exact closed

theorem ParksBut.grantNext (h : ParksBut R s) (S : SecId) : ParksBut R (s.grantNext S) := by
  obtain none | ⟨q, x, -, -, -, granted⟩ | ⟨q, x, -, -, -, granted⟩ := s.grantNext_cases S
  · rw [none]; exact h
  · rw [granted]; exact (h.resumeWalk x S q.wand).of_alike (AlikeAll.of_eq).toAlike
  · rw [granted]; exact (h.startWalk x S q.wand).of_alike (AlikeAll.of_eq).toAlike

/-- A context left when a walk ends is another one, of another section. -/
theorem WalkEnded.left {x : CtxId} {c : Context} (k : WalkEnded s u x c) (walks : WalksBut none s)
    (walk : s.ctx x = some c) {y : CtxId} {d : Context} (walk' : u.ctx y = some d) :
    s.ctx y = some d ∧ d.sec ≠ c.sec := by
  rw [k.ctx] at walk'
  split at walk'
  · cases walk'
  next other =>
    refine ⟨walk', fun same => other ?_⟩
    have named := walks.context_eq walk'
    rw [same, walks.context_eq walk] at named
    exact (Option.some.inj named).symm

/-- A walk that ends leaves the other park queues as they are. -/
theorem WalkEnded.parks {x : CtxId} {c : Context} (k : WalkEnded s u x c) (walks : WalksBut none s)
    (walk : s.ctx x = some c) (h : ParksBut R s) : ParksBut R u := by
  intro y d walk'
  obtain ⟨before, elsewhere⟩ := k.left walks walk walk'
  rw [k.others d.sec elsewhere]
  exact h y d before

/-- A walk that ends takes its park queue with it. -/
theorem WalkEnded.parks_gone {x : CtxId} {c : Context} (k : WalkEnded s u x c)
    (walks : WalksBut none s)
    (walk : s.ctx x = some c) (h : ParksBut (some c.sec) s) : ParksBut none u := by
  intro y d walk'
  obtain ⟨-, elsewhere⟩ := k.left walks walk walk'
  obtain ⟨short, closed⟩ := k.parks walks walk h y d walk'
  exact ⟨short, fun none => .inr ((closed none).resolve_left fun same =>
    elsewhere (Option.some.inj same).symm)⟩

theorem ParksBut.insert (h : ParksBut R s) (S : SecId) (k : Nat) (r : Item) :
    ParksBut R (((s.addItem r).insertAt S k r.tag).bump S) := by
  refine h.of_map (fun y => ?_) fun X closed => ?_
  · rw [State.ctx_insert, Option.map_map]
    exact congrArg (fun f => Option.map f _)
      (funext fun c => by simp only [Function.comp]; split <;> rfl)
  · rw [State.sec_insert] at closed
    split at closed
    · cases closed
    · exact closed

theorem parksBut_of_none (none : ∀ x, s.ctx x = none) : ParksBut R s := by
  intro x c walk
  rw [none] at walk
  cases walk

/-! ### Every effect -/

theorem Effect.parks (h : Effect s u) (walks : WalksBut none s) (k : ParksBut R s) :
    ParksBut R u := by
  cases h with
  | alike h => exact k.of_alike h.toAlike
  | tables h => exact k.of_alike h
  | setting => exact k
  | reset h =>
    exact (parksBut_of_none State.ctx_reset).of_alike h.toAlike
  | lease w =>
    unfold State.loadLeaseOf
    split
    · refine k.of_map (fun y => ?_) fun _ closed => closed
      rw [State.ctx_modCtx]
      split
      · subst_vars; rw [Option.map_map]; rfl
      · rfl
    · exact k
  | toggle => exact k
  | start =>
    refine k.of_map (fun x => by rw [State.ctx_of_contexts s.startCampaign_contexts])
      fun X closed => ?_
    rw [State.sec_startCampaign] at closed
    exact closed
  | close => exact parksBut_of_none s.ctx_closeCampaign
  | openRevision S =>
    refine k.of_map (fun _ => rfl) fun X closed => ?_
    rw [State.sec_bump, State.sec_modSec, State.sec_modSec] at closed
    split at closed
    · simp at closed
    next other => simpa [other] using closed
  | insert c => exact k.insert _ _ (homeRecord _ _ c)
  | retire =>
    refine k.of_map (fun y => ?_) fun X closed => ?_
    · rw [State.ctx_retire, State.ctx_leavePlace, Option.map_map, Option.map_map]
      refine congrArg (fun f => Option.map f _) (funext fun c => ?_)
      simp only [Function.comp]
      split <;> split <;> rfl
    · rw [State.sec_retire] at closed
      dsimp only at closed
      split at closed
      · cases closed
      · exact closed
  | adopt =>
    refine k.of_map (fun y => ?_) fun X closed => ?_
    · rw [State.ctx_adopt, Option.map_map]
      exact congrArg (fun f => Option.map f _)
        (funext fun c => by simp only [Function.comp]; split <;> rfl)
    · rw [State.sec_adopt] at closed
      dsimp only at closed
      split at closed
      · cases closed
      · exact closed
  | @unload S still =>
    refine k.of_ctx (fun x d walk => .inr ⟨d, ?_, rfl, rfl⟩) fun x c walk closed => ?_
    · rwa [State.ctx_of_contexts (s.unload_contexts S)] at walk
    · have other : c.sec ≠ S := by
        rintro rfl
        have named := walks.context_eq walk
        rw [walks.context_none still] at named
        cases named
      rw [State.sec_unload, if_neg other] at closed
      exact closed
  | @recount S =>
    refine k.of_map (fun x => by rw [State.ctx_of_contexts (s.recount_contexts S)])
      fun X closed => ?_
    rw [State.sec_recount] at closed
    split at closed
    · subst_vars; exact closed
    · exact closed
  | @dropRecord r =>
    refine k.of_map (fun x => by rw [State.ctx_of_contexts (State.dropRecord_contexts r)])
      fun X closed => ?_
    rw [State.sec_dropRecord] at closed
    split at closed <;> exact closed
  | notice => exact k
  | shelve _ _ free =>
    refine k.of_map (fun x => by rw [State.ctx_of_contexts (State.shelve_contexts _ free)])
      fun X closed => ?_
    rw [State.sec_shelve] at closed
    exact closed
  | unclaim => exact k
  | enqueue =>
    unfold State.enqueue
    split <;> exact k
  | startWalk => exact k.startWalk _ _ _
  | resumeWalk => exact k.resumeWalk _ _ _
  | suspend _ _ h => exact ((k.suspendWalk _ _ _).of_alike h.toAlike).grantNext _
  | complete walk => exact ((s.completed_ends _ _).parks walks walk k).grantNext _
  | abandon walk => exact ((s.abandoned_ends _ _).parks walks walk k).grantNext _
  | @park x c t walk isOpen room =>
    intro y d walk'
    rw [State.ctx_modCtx] at walk'
    split at walk'
    · subst_vars
      rw [walk, Option.map_some, Option.some_inj] at walk'
      subst walk'
      refine ⟨?_, fun closed => ?_⟩
      · rw [List.length_append, List.length_singleton]; exact room
      · have closed : (s.sec c.sec).revision = none := closed
        rw [closed] at isOpen
        cases isOpen
    · exact k y d walk'
  | unknown => exact k.of_kept (judgeUnknown_kept _ _)
  | provisional => exact k.of_kept (judgeProvisional_kept _ _)
  | foreign => exact k.of_kept (judgeForeign_kept _ _ _)
  | fresh => exact k.of_kept (judgeFresh_kept _ _ _ _)

/-! ### The drain (R95, R97) -/

/-- Walks in agreement, and park queues sound but for one. -/
def WalksParks (R : Option SecId) (s : State) : Prop := WalksBut none s ∧ ParksBut R s

theorem Effect.walksParks (h : Effect s u) (k : WalksParks R s) : WalksParks R u :=
  ⟨h.walks k.1, h.parks k.1 k.2⟩

/-- With the drained walk's park queue empty, all are sound. -/
theorem WalksParks.emptied {x : CtxId} {c : Context} (k : WalksParks (some c.sec) s)
    (walk : s.ctx x = some c) (empty : c.park = []) : WalksParks none s := by
  refine ⟨k.1, fun y d walk' => ?_⟩
  obtain ⟨short, closed⟩ := k.2 y d walk'
  refine ⟨short, fun none => .inr ?_⟩
  rcases closed none with same | gone
  · have named := k.1.context_eq walk'
    rw [← Option.some.inj same, k.1.context_eq walk] at named
    cases Option.some.inj named
    cases walk.symm.trans walk'
    exact empty
  · exact gone

theorem ParksBut.withPark {x : CtxId} {c : Context} {rest : List Tag} (walk : s.ctx x = some c)
    (shorter : rest.length ≤ c.park.length) (k : ParksBut (some c.sec) s) :
    ParksBut (some c.sec) (s.withPark x rest) := by
  intro y d walk'
  rw [State.withPark, State.ctx_modCtx] at walk'
  split at walk'
  · subst_vars
    rw [walk, Option.map_some, Option.some_inj] at walk'
    subst walk'
    exact ⟨shorter.trans (k _ c walk).1, fun _ => .inl rfl⟩
  · exact k y d walk'

/-- The park queue of a drained walk is empty at the end, or its context is gone. -/
theorem drainPark_parks (x : CtxId) (tags : List Tag) : ∀ {s : State} {c : Context},
    s.ctx x = some c → c.park = tags → WalksParks (some c.sec) s →
    WalksParks none (drainPark x tags s).state := by
  induction tags with
  | nil => exact fun walk empty k => k.emptied walk empty
  | cons t rest ih =>
    intro s c walk park k
    have walk' : (s.withPark x rest).ctx x = some { c with park := rest } := by
      rw [State.withPark, State.ctx_modCtx, if_pos rfl, walk]; rfl
    have parked : WalksParks (some c.sec) (s.withPark x rest) :=
      ⟨(SameWalks.withPark x rest).walksBut k.1, k.2.withPark walk (by rw [park]; simp)⟩
    unfold drainPark
    dsimp only
    rw [show (s.modCtx x fun c => { c with park := rest }) = s.withPark x rest from rfl]
    by_cases marker : (judge x t (s.withPark x rest)).outcome.verdict = .marker
    · rw [if_pos marker]
      have marks := (judge_marker walk' t).mp marker
      have completes : (judge x t (s.withPark x rest)).state =
          (s.withPark x rest).completeWalk x { c with park := rest } := by
        simp only [judge, walk', judgeWalk]
        rw [if_pos marks]
      rw [completes, State.completeWalk_eq]
      have ended := (s.withPark x rest).completed_ends x { c with park := rest }
      exact ⟨ended.grant parked.1 walk',
        (ended.parks_gone parked.1 walk' parked.2).grantNext _⟩
    · rw [if_neg marker]
      have kept := judge_kept walk' (t := t) (mt (judge_marker walk' t).mpr marker)
      obtain ⟨d, walk'', lasting⟩ := kept.some walk'
      obtain ⟨sec, -, park', -⟩ : d.sec = c.sec ∧ d.walker = c.walker ∧ d.park = rest ∧
          d.lease = c.lease := by simpa [Context.lasting] using lasting
      have judged : WalksParks (some d.sec) (judge x t (s.withPark x rest)).state :=
        sec ▸ judge_keeps (fun _ _ effect => effect.walksParks) x t parked
      exact ih walk'' park' judged

theorem WalksParks.shut (k : WalksParks none s) (S : SecId) : WalksParks (some S) (s.shut S) := by
  have contexts : (s.shut S).contexts = s.contexts := by
    unfold State.shut
    dsimp only
    split <;> rfl
  refine ⟨(SameWalks.shut S).walksBut k.1, fun y d walk => ?_⟩
  rw [State.ctx_of_contexts contexts] at walk
  obtain ⟨short, closed⟩ := k.2 y d walk
  refine ⟨short, fun none => ?_⟩
  by_cases here : d.sec = S
  · exact .inl (congrArg some here.symm)
  · rw [State.sec_shut, if_neg here] at none
    exact .inr ((closed none).resolve_left nofun)

/-- The close of a revision drains its walk, so that no park queue is left behind (R16, R93). -/
theorem WalksParks.closeRevision (k : WalksParks none s) (S : SecId) :
    WalksParks none (s.closeRevision S).1 := by
  have shut := k.shut S
  have contexts : (s.shut S).ctx = s.ctx := by
    unfold State.shut
    dsimp only
    split <;> rfl
  cases context : (s.sec S).context with
  | none =>
    have closed : (s.closeRevision S).1 = s.shut S := by
      unfold State.closeRevision State.shut
      simp only [context]
    rw [closed]
    refine ⟨shut.1, fun y d walk => ?_⟩
    obtain ⟨short, empty⟩ := shut.2 y d walk
    refine ⟨short, fun none => .inr ((empty none).resolve_left fun same => ?_)⟩
    rw [contexts] at walk
    have named := k.1.context_eq walk
    rw [← Option.some.inj same, context] at named
    cases named
  | some x =>
    obtain ⟨c, walk, sec⟩ := (k.1.names S x).mp context
    have closed : (s.closeRevision S).1 = ((s.shut S).drain x c).1 := by
      unfold State.closeRevision State.shut
      simp only [context, walk]
    have parked := drainPark_parks x c.park (s := s.shut S) (by rw [contexts]; exact walk) rfl
      (sec ▸ shut)
    rw [closed]
    unfold State.drain
    dsimp only
    split
    · split
      · exact drainWaiting_keeps (fun _ _ effect => effect.walksParks) x _ _ parked
      · exact parked
    · exact parked

theorem Reaches.walksParks (h : Reaches s u) (k : WalksParks none s) : WalksParks none u :=
  h.keeps (fun _ _ effect => effect.walksParks) (fun _ S _ k => k.closeRevision S) k

end Parks

end Sys2Proof.Machine

/-! # Proofs: every step keeps walks, lists and findings sound -/

namespace Sys2Proof.Machine

/-- The invariants of settings, tables, walks, lists and findings together. -/
structure Invariants (s : State) : Prop where
  tables : TablesSound s
  walks : WalksBut none s
  lists : Lists s
  findings : Findings s

section Step
variable {s u : State}

theorem Findings.lease (h : Findings s) (w : Wand) : Findings (s.loadLeaseOf w) := by
  unfold State.loadLeaseOf
  split
  · refine h.of_places (fun _ => rfl) (fun _ => rfl) (fun _ => rfl)
      (State.placeAt_of_ctx (fun _ => rfl) fun y => ?_)
    rw [State.ctx_modCtx]
    split
    · subst_vars; rw [Option.map_map]; rfl
    · rfl
  · exact h

theorem Findings.openRevision (h : Findings s) (S : SecId) :
    Findings ((s.modSec S fun r => { r with revision := some s.fullRevision }).bump S) := by
  have sec (X : SecId) : ((s.modSec S fun r =>
    { r with revision := some s.fullRevision }).bump S).sec X =
      if X = S then { s.sec S with
        revision := some s.fullRevision, generation := (s.sec S).generation + 1 } else s.sec X := by
    rw [State.sec_bump, State.sec_modSec, State.sec_modSec]
    by_cases here : X = S <;> simp [here]
  refine h.of_places (fun _ => rfl) (fun X => ?_) (fun X => ?_)
    (State.placeAt_of_ctx (fun X => ?_) fun _ => rfl)
  all_goals
    rw [sec]
    split
    · subst_vars; rfl
    · rfl

theorem Findings.park (h : Findings s) (x : CtxId) (park : List Tag → List Tag) :
    Findings (s.modCtx x fun d => { d with park := park d.park }) := by
  refine h.of_places (fun _ => rfl) (fun _ => rfl) (fun _ => rfl)
    (State.placeAt_of_ctx (fun _ => rfl) fun y => ?_)
  rw [State.ctx_modCtx]
  split
  · subst_vars; rw [Option.map_map]; rfl
  · rfl

theorem findings_reset : Findings State.reset := by
  have place (S : SecId) : State.reset.placeAt S = ([], 0) :=
    State.placeAt_of_none (by rw [State.sec_reset]; rfl)
  have run (S : SecId) : State.reset.runAt S = [] := by rw [State.runAt_eq, place]
  have chain (S : SecId) : (State.reset.sec S).chain = [] := by rw [State.sec_reset]; rfl
  refine ⟨fun t => ⟨fun r found => ?_, fun S => ?_, fun S => ?_⟩, fun S => ?_, fun S => ?_,
    fun S => ?_,
    fun S => ?_⟩
  · rw [State.item_reset] at found; cases found
  · rw [chain, State.chainOf, State.item_reset]; simp
  · rw [run, State.heldOf, State.item_reset]; simp
  · rw [chain]; exact List.nodup_nil
  · rw [run]; exact List.nil_sublist _
  · rw [run]; exact Nat.zero_le _
  · rw [State.cursorAt_eq, place]; exact Nat.zero_le _

/-- Every effect keeps the findings. -/
theorem Effect.findings (h : Effect s u) (k : Invariants s) : Findings u := by
  obtain ⟨⟨settings, -⟩, walks, lists, k⟩ := k
  cases h with
  | alike h => exact k.of_alike h.toAlike
  | tables h => exact k.of_alike h
  | setting => exact k.of_places (fun _ => rfl) (fun _ => rfl) (fun _ => rfl) fun _ => rfl
  | reset h => exact findings_reset.of_alike h.toAlike
  | lease w => exact k.lease w
  | toggle => exact k.of_places (fun _ => rfl) (fun _ => rfl) (fun _ => rfl) fun _ => rfl
  | start before => exact k.startCampaign lists walks before
  | close => exact k.closeCampaign
  | openRevision S => exact k.openRevision S
  | insert c _ new _ within =>
    have away : CountState.unseen.Away := (CountState.away_iff _).mpr (.inl rfl)
    exact k.insert walks (r := homeRecord _ _ c) (.away away nofun nofun rfl rfl) away new within
  | retire found home => exact k.retire lists walks found home
  | adopt found home _ within => exact k.adopt walks found home within
  | unload still => exact k.unload lists walks still
  | recount still => exact k.recount lists walks still
  | dropRecord found home => exact k.dropRecord walks found home
  | notice circ found home moves writes => exact k.notice walks found home moves writes
  | shelve found home free => exact k.shelve walks found home free
  | unclaim => exact k.of_places (fun _ => rfl) (fun _ => rfl) (fun _ => rfl) fun _ => rfl
  | enqueue =>
    unfold State.enqueue
    split
    · exact k
    · exact k.of_places (fun _ => rfl) (fun _ => rfl) (fun _ => rfl) fun _ => rfl
  | startWalk _ _ still free =>
    exact k.startWalk walks _ (walks.context_none still) (s.freeCtx_eq_some.mp free).1
  | resumeWalk => exact k.resumeWalk _ _ _
  | suspend walk _ h =>
    obtain ⟨released, suspended⟩ := walks.suspended walk h
    exact ((k.suspendWalk _ _ _).of_alike h.toAlike).grantNext released (.inl suspended)
  | @complete x c walk =>
    have ended := s.completed_ends x c
    exact (k.completed walks walk).grantNext (ended.walksBut walks walk) (.inr ended.unwalked)
  | @abandon x c _ walk =>
    have ended := s.abandoned_ends x c
    exact (k.abandoned walks walk).grantNext (ended.walksBut walks walk) (.inr ended.unwalked)
  | park t => exact k.park _ fun park => park ++ [t]
  | unknown _ new => exact k.unknown new
  | provisional _ found home => exact k.provisional walks found home
  | foreign _ found home other => exact k.foreign walks found home other
  | fresh walk found home new => exact k.fresh lists walks settings walk found home new

theorem Effect.invariants (h : Effect s u) (k : Invariants s) : Invariants u :=
  ⟨h.tablesSound k.tables, h.walks k.walks, h.lists k.lists, h.findings k⟩

theorem Findings.shut (h : Findings s) (S : SecId) : Findings (s.shut S) := by
  have contexts : (s.shut S).ctx = s.ctx := by
    unfold State.shut
    dsimp only
    split <;> rfl
  refine h.of_places (fun t => by rw [State.item_of_items (s.shut_items S)]) (fun X =>
    ?_) (fun X => ?_)
    (State.placeAt_of_ctx (fun X => ?_) fun y => by rw [contexts])
  all_goals
    rw [State.sec_shut]
    split
    · subst_vars; rfl
    · rfl

theorem Invariants.shut (h : Invariants s) (S : SecId) : Invariants (s.shut S) := by
  refine ⟨?_, (SameWalks.shut S).walksBut h.walks, h.lists.shut S, h.findings.shut S⟩
  have tables := h.tables
  unfold State.shut
  dsimp only
  split <;> exact tables

theorem Invariants.withPark (h : Invariants s) (x : CtxId) (rest : List Tag) :
    Invariants (s.withPark x rest) :=
  ⟨h.tables, (SameWalks.withPark x rest).walksBut h.walks, h.lists.of_same rfl fun _ => rfl,
    h.findings.park x fun _ => rest⟩

theorem Reaches.invariants (h : Reaches s u) (k : Invariants s) : Invariants u :=
  h.keeps (fun _ _ effect => effect.invariants)
    (fun _ S _ k => State.closeRevision_keeps (fun _ _ effect => effect.invariants)
      (fun _ x rest k => k.withPark x rest) (k.shut S)) k

theorem Sound.invariants (h : Sound s) : Invariants s := by
  obtain ⟨-, tables, walks, lists, records, chains, cursors, runs, -⟩ := h
  have walks := walksSound_iff.mp walks
  have lists := lists_iff.mp lists
  exact ⟨tables, walks, lists, (findings_iff walks lists).mpr ⟨records, chains, cursors, runs⟩⟩

theorem Invariants.sound (h : Invariants s) :
    RecordsSound s ∧ ChainsSound s ∧ CursorsSound s ∧ RunsSound s :=
  (findings_iff h.walks h.lists).mp h.findings

end Step

/-- Settles O58: every effect keeps the agreement of sections, walks and claims, and findings and
park queues follow from the invariants together. -/
theorem stepKeepsTheWalksSound : Obligations.StepKeepsTheWalksSound := by
  unfold Obligations.StepKeepsTheWalksSound
  refine ⟨fun s t walks h => ?_, fun s t sound h => ?_⟩
  · exact walksSound_iff.mpr ((step_reaches h).walks (walksSound_iff.mp walks))
  · obtain ⟨-, -, cursors, runs⟩ := ((step_reaches h).invariants sound.invariants).sound
    obtain ⟨-, -, walks, -, -, -, -, -, parks⟩ := sound
    have parked := (step_reaches h).walksParks ⟨walksSound_iff.mp walks, parksSound_iff.mp parks⟩
    exact ⟨cursors, runs, parksSound_iff.mpr parked.2⟩

/-- Settles O59: every effect keeps homes and sequences in agreement, and records and chains follow
from the invariants together. -/
theorem stepKeepsTheListsSound : Obligations.StepKeepsTheListsSound := by
  unfold Obligations.StepKeepsTheListsSound
  refine ⟨fun s t lists h => ?_, fun s t sound h => ?_⟩
  · exact lists_iff.mpr ((step_reaches h).lists (lists_iff.mp lists))
  · obtain ⟨records, chains, -, -⟩ := ((step_reaches h).invariants sound.invariants).sound
    exact ⟨records, chains⟩

end Sys2Proof.Machine

/-! # Proofs: the step, the reset state and the counts -/

namespace Sys2Proof.Machine

/-- Settles O1. -/
theorem stepRunsTheFrontCommand : Obligations.StepRunsTheFrontCommand := by
  unfold Obligations.StepRunsTheFrontCommand
  intro c rest s
  rfl

/-! ### The reset state (R6, R24, R49, R136, R181, R207) -/

theorem State.table_reset (w : Wand) : State.reset.table w = CandTable.blank := by
  show (Vector.replicate 16 CandTable.blank)[(w : Nat)] = _
  simp

theorem candTable_blank_entry (i : Fin 24) : CandTable.blank.entries[i] = .free := by
  show (Vector.replicate 24 Entry.free)[(i : Nat)] = _
  simp

/-- Settles O55: nothing stands in any list, and the settings are the defaults. -/
theorem resetStateIsSound : Obligations.ResetStateIsSound := by
  unfold Obligations.ResetStateIsSound
  have tables : TablesSound State.reset := by
    refine ⟨by unfold SettingsInRange; decide, fun w => ?_⟩
    rw [State.table_reset]
    refine ⟨fun i => ?_, fun i j tag taken => ?_⟩
    · rw [candTable_blank_entry]; trivial
    · rw [candTable_blank_entry] at taken; cases taken
  obtain ⟨records, chains, cursors, runs⟩ :=
    (findings_iff walksBut_reset lists_reset).mp findings_reset
  exact ⟨Nat.zero_le _, tables, walksSound_iff.mpr walksBut_reset,
    lists_iff.mpr lists_reset, records,
    chains, cursors, runs, parksSound_iff.mpr (parksBut_of_none State.ctx_reset)⟩

/-! ### The counts (R105) -/

theorem countP_add_of_disjoint (p q : Item → Bool) (apart : ∀ r, p r = true → q r = false)
    (items : List Item) :
    items.countP p + items.countP q = items.countP fun r => p r || q r := by
  induction items with
  | nil => rfl
  | cons r rest ih =>
    have rest_eq : rest.countP p + rest.countP q = rest.countP fun r => p r || q r := ih
    have apart := apart r
    cases hp : p r <;> cases hq : q r <;> simp_all <;> omega

/-- Records counted by count state add up to those in one of the states. -/
theorem sum_countP_count (p : Item → Bool) (items : List Item) {counts : List CountState}
    (nodup : counts.Nodup) :
    (counts.map fun c => items.countP fun r => p r && r.count = c).sum =
      items.countP fun r => p r && decide (r.count ∈ counts) := by
  induction counts with
  | nil => simp
  | cons c rest ih =>
    obtain ⟨new, nodup⟩ := List.nodup_cons.mp nodup
    rw [List.map_cons, List.sum_cons, ih nodup, countP_add_of_disjoint]
    · refine List.countP_congr fun r _ => ?_
      simp only [Bool.or_eq_true, Bool.and_eq_true, decide_eq_true_eq, List.mem_cons, and_or_left]
    · intro r counted
      obtain ⟨-, same⟩ : p r = true ∧ r.count = c := by simpa using counted
      simp [same, new]

/-- The home items of a section are as many as its expected sequence is long. -/
theorem Lists.countP_home {s : State} (h : Lists s) (S : SecId) :
    (s.items.countP fun r => r.isHomeOf S) = (s.sec S).expected.length := by
  have perm : ((s.items.filter fun r => r.isHomeOf S).map Item.tag).Perm (s.sec S).expected := by
    rw [List.perm_ext_iff_of_nodup ?_ (h.nodup S)]
    · intro t
      rw [h.home, State.homeOf, State.bind_item_eq_some, ← h.canonical.exists_iff]
      simp [Item.isHomeOf, and_comm, and_left_comm]
    · have distinct : (s.items.map Item.tag).Nodup :=
        List.pairwise_map.mpr (h.canonical.1.imp fun less same => by
          rw [same] at less; exact lt_irrefl _ less)
      exact distinct.sublist (List.filter_sublist.map Item.tag)
  rw [List.countP_eq_length_filter, ← perm.length_eq, List.length_map]

/-- Settles O60: the nine states are all but UNLISTED, which no home item is in. -/
theorem countsSumToTheLength : Obligations.CountsSumToTheLength := by
  unfold Obligations.CountsSumToTheLength
  intro s S sound
  have lists := lists_iff.mp sound
  unfold State.tally
  rw [sum_countP_count (fun r => r.isHomeOf S) s.items (by decide), ← lists.countP_home]
  refine List.countP_congr fun r mem => ?_
  rw [Bool.and_eq_true, and_iff_left_iff_imp, decide_eq_true_eq]
  intro home
  have listed := (lists.canonical.forall_iff (p := Item.HomeSound)).mpr lists.sound r mem |>.listed
    (by simp_all [Item.isHomeOf])
  revert listed
  cases r.count <;> decide

end Sys2Proof.Machine

/-! # Proofs: the wire formats are read back as they were written -/

namespace Sys2Proof.Machine

/-! ### Numbers, tags and flags (R209) -/

@[simp] theorem length_bytesOf (n v : Nat) : (bytesOf n v).length = n := by
  induction n with
  | zero => rfl
  | succ n ih => rw [bytesOf, List.length_cons, ih]

@[simp] theorem length_tagBytes (t : Tag) : (tagBytes t).length = 8 := length_bytesOf _ _

/-- Reading on from a number already read. -/
theorem foldl_bytesOf (n v acc : Nat) :
    (bytesOf n v).foldl (fun m b => m * 256 + b.toNat) acc = acc * 256 ^ n + v % 256 ^ n := by
  induction n generalizing acc with
  | zero => simp [bytesOf, Nat.mod_one]
  | succ n ih =>
    rw [bytesOf, List.foldl_cons, ih, BitVec.toNat_ofNat, show 2 ^ 8 = 256 from rfl, pow_succ,
      Nat.mod_mul]
    ring

theorem numOf_bytesOf (n v : Nat) : numOf (bytesOf n v) = v % 256 ^ n := by
  rw [numOf, foldl_bytesOf, Nat.zero_mul, Nat.zero_add]

@[simp] theorem argNum_bytesOf (n v : Nat) : argNum (bytesOf n v) 0 n = v % 256 ^ n := by
  rw [argNum, slice, List.drop_zero, List.take_of_length_le (length_bytesOf n v).le, numOf_bytesOf]

@[simp] theorem argNum_bytesOf_append (n v : Nat) (rest : List Byte) :
    argNum (bytesOf n v ++ rest) 0 n = v % 256 ^ n := by
  simp [argNum, slice, numOf_bytesOf]

@[simp] theorem argNum_cons_zero (b : Byte) (rest : List Byte) :
    argNum (b :: rest) 0 1 = b.toNat := by
  simp [argNum, slice, numOf]

@[simp] theorem argNum_cons_succ (b : Byte) (rest : List Byte) (off len : Nat) :
    argNum (b :: rest) (off + 1) len = argNum rest off len := rfl

/-- A field behind others is read where they end. -/
theorem argNum_skip {first : List Byte} {off : Nat} (behind : first.length ≤ off) (rest : List Byte)
    (len : Nat) : argNum (first ++ rest) off len = argNum rest (off - first.length) len := by
  simp [argNum, slice, List.drop_append, List.drop_eq_nil_of_le behind]

@[simp] theorem ofNat_tag_mod (t : Tag) : BitVec.ofNat 64 (t.toNat % 256 ^ 8) = t := by
  rw [show 256 ^ 8 = 2 ^ 64 from rfl, Nat.mod_eq_of_lt t.isLt, BitVec.ofNat_toNat,
    BitVec.setWidth_eq]

@[simp] theorem ofNat_kinds_mod (k : BitVec 16) : BitVec.ofNat 16 (k.toNat % 65536) = k := by
  rw [Nat.mod_eq_of_lt k.isLt, BitVec.ofNat_toNat, BitVec.setWidth_eq]

@[simp] theorem argTag_tagBytes (t : Tag) : argTag (tagBytes t) 0 = t := by
  rw [argTag, tagBytes, argNum_bytesOf, ofNat_tag_mod]

@[simp] theorem argTag_tagBytes_append (t : Tag) (rest : List Byte) :
    argTag (tagBytes t ++ rest) 0 = t := by
  rw [argTag, tagBytes, argNum_bytesOf_append, ofNat_tag_mod]

theorem argTag_skip {first : List Byte} {off : Nat} (behind : first.length ≤ off)
    (rest : List Byte) :
    argTag (first ++ rest) off = argTag rest (off - first.length) := by
  rw [argTag, argNum_skip behind, argTag]

@[simp] theorem argTag_cons_succ (b : Byte) (rest : List Byte) (off : Nat) :
    argTag (b :: rest) (off + 1) = argTag rest off := rfl

@[simp] theorem argByte_cons_zero (b : Byte) (rest : List Byte) : argByte (b :: rest) 0 = b := by
  simp [argByte]

@[simp] theorem argByte_cons_succ (b : Byte) (rest : List Byte) (off : Nat) :
    argByte (b :: rest) (off + 1) = argByte rest off := rfl

theorem argByte_skip {first : List Byte} {off : Nat} (behind : first.length ≤ off)
    (rest : List Byte) :
    argByte (first ++ rest) off = argByte rest (off - first.length) := by
  rw [argByte, argNum_skip behind, argByte]

@[simp] theorem argFlag_flagByte (b : Bool) (rest : List Byte) :
    argFlag (flagByte b :: rest) 0 = b := by
  cases b <;> simp [argFlag, flagByte]

theorem argFlag_skip {first : List Byte} {off : Nat} (behind : first.length ≤ off)
    (rest : List Byte) :
    argFlag (first ++ rest) off = argFlag rest (off - first.length) := by
  rw [argFlag, argNum_skip behind, argFlag]

/-- The presence byte of an optional argument. -/
@[simp] theorem argFlag_optBytes (field : Option (List Byte)) (len : Nat) (rest : List Byte) :
    argFlag (optBytes field len ++ rest) 0 = field.isSome := by
  cases field <;> simp [argFlag, optBytes]

theorem length_optBytes {field : Option (List Byte)} {len : Nat}
    (fits : ∀ bytes ∈ field, bytes.length = len) : (optBytes field len).length = len + 1 := by
  cases field with
  | none => simp [optBytes]
  | some bytes => simp [optBytes, fits bytes rfl]

/-! ### Requests (R193, R194) -/

theorem length_optMark (mark : Option Nat) : (optBytes (mark.map (bytesOf 2)) 2).length = 3 :=
  length_optBytes (by simp)

theorem length_optEnd (endMarker : Option Tag) :
    (optBytes (endMarker.map tagBytes) 8).length = 9 :=
  length_optBytes (by simp)

/-- A packet has the length that the envelope check requires of its code. -/
theorem requestLength_packet {i : Instr} {code : Byte} {args : List Byte}
    (packet : requestPacket i = some (code, args)) : requestLength code = some args.length := by
  cases i <;> cases packet
  all_goals simp [requestLength, length_optMark, length_optEnd]

/-- The mark argument is read back, and so is its absence. -/
theorem argMark {mark : Option Nat} (fits : ∀ m ∈ mark, fitsHalf m) (rest : List Byte) :
    (if mark.isSome then
      some (argNum (optBytes (mark.map (bytesOf 2)) 2 ++ rest) 1 2) else none) = mark := by
  cases mark with
  | none => simp
  | some m => simp [optBytes, Nat.mod_eq_of_lt (fits m rfl)]

/-- The end marker argument is read back, and so is its absence. -/
theorem argEnd (endMarker : Option Tag) :
    (if argFlag (optBytes (endMarker.map tagBytes) 8) 0 then
      some (argTag (optBytes (endMarker.map tagBytes) 8) 1) else none) = endMarker := by
  have flag := argFlag_optBytes (endMarker.map tagBytes) 8 []
  rw [List.append_nil] at flag
  rw [flag]
  cases endMarker with
  | none => rfl
  | some t => simp [optBytes]

theorem decodeRequest_secSet {S tol lamp : Nat} {mark : Option Nat} {endMarker : Option Tag}
    (fits : (Instr.secSet S tol lamp mark endMarker).WellFormed) :
    decodeRequest 0x20 (bytesOf 2 S ++ bytesOf 1 tol ++ bytesOf 1 lamp ++
        optBytes (mark.map (bytesOf 2)) 2 ++ optBytes (endMarker.map tagBytes) 8) =
      some (.secSet S tol lamp mark endMarker) := by
  obtain ⟨fitsS, fitsTol, fitsLamp, fitsMark⟩ := of_decide_eq_true fits
  have mark_eq := argMark fitsMark (optBytes (endMarker.map tagBytes) 8)
  have end_eq := argEnd endMarker
  simp only [decodeRequest, List.append_assoc, argNum_bytesOf_append]
  simp [argNum_skip, argFlag_skip, argTag_skip, length_optMark, mark_eq, end_eq,
    Nat.mod_eq_of_lt fitsS, Nat.mod_eq_of_lt fitsTol, Nat.mod_eq_of_lt fitsLamp]

/-- Encode and decode agree: the packet of a request is read as that request (R209). -/
theorem decodeRequest_packet {i : Instr} {code : Byte} {args : List Byte} (fits : i.WellFormed)
    (packet : requestPacket i = some (code, args)) : decodeRequest code args = some i := by
  cases i
  case secSet S tol lamp mark endMarker =>
    cases packet
    exact decodeRequest_secSet fits
  all_goals cases packet
  all_goals
    simp only [Instr.WellFormed, Instr.wellFormed, decide_eq_true_eq] at fits
    simp [decodeRequest, argNum_skip, argTag_skip, argByte_skip, argFlag_skip,
      Nat.mod_eq_of_lt, fits]

theorem checkEnvelope_packet {i : Instr} {code : Byte} {args : List Byte} (fits : i.WellFormed)
    (packet : requestPacket i = some (code, args)) :
    checkEnvelope code args.length args = some i := by
  simp [checkEnvelope, requestLength_packet packet, decodeRequest_packet fits packet]

end Sys2Proof.Machine

/-! # Proofs: the transfers on the catalogue port -/

namespace Sys2Proof.Machine

/-! ### Write transfers (R192 to R194, R196) -/

/-- A write transfer of a whole packet head drives SDO and is acted on by the port. -/
theorem exec_writeTransfer {s : State} (released : s.resetAsserted = false) (code hi lo : Byte)
    (args : List Byte) :
    exec (.writeTransfer (code :: hi :: lo :: args)) s =
      .next { s.driveWrite (args.length + 3) with
        port := s.port.write code (numOf [hi, lo]) args } :=
  congrArg Host.Outcome.next (unlessReset_released released _)

/-- A port that is not WORKING takes a request. -/
theorem Port.write_of_free {p : Port} (free : ∀ inHand lost, p ≠ .working inHand lost) (code : Byte)
    (stated : Nat) (args : List Byte) : p.write code stated args =
    takeRequest code stated args := by
  cases p with
  | idle => rfl
  | holding r lost => rfl
  | working inHand lost => exact absurd rfl (free inHand lost)

theorem takeRequest_packet {i : Instr} {code : Byte} {args : List Byte} (fits : i.WellFormed)
    (packet : requestPacket i = some (code, args)) :
    takeRequest code args.length args = .working (.request i) false := by
  rw [takeRequest, checkEnvelope_packet fits packet]

/-- The argument bytes of a request number at most 19 (11.3). -/
theorem packet_length {i : Instr} {code : Byte} {args : List Byte}
    (packet : requestPacket i = some (code, args)) : args.length < 256 ^ 2 := by
  cases i <;> cases packet
  all_goals simp [length_optMark, length_optEnd]

/-- A port state that is no part of the rest leaves the pin SDO as the trace says. -/
theorem sdoPin_driveWrite (s : State) (n : Nat) (p : Port) :
    ({ s.driveWrite n with port := p } : State).sdoPin = .highImpedance :=
  State.sdoPin_over (bytes := 0 :: freeBytes s.freeIndex n) rfl

/-- Settles O3: the packet passes the envelope check as its own request. -/
theorem writeTransferTakesEveryRequest : Obligations.WriteTransferTakesEveryRequest := by
  unfold Obligations.WriteTransferTakesEveryRequest
  intro i code args s fits packet released free
  have stated := numOf_bytesOf 2 args.length
  rw [Nat.mod_eq_of_lt (packet_length packet)] at stated
  refine ⟨{ s.driveWrite (args.length + 3) with port := .working (.request i) false }, ?_, rfl,
    rfl, sdoPin_driveWrite ..⟩
  have taken : s.port.write code (numOf (bytesOf 2 args.length)) args =
    .working (.request i) false := by
    rw [Port.write_of_free free, stated, takeRequest_packet fits packet]
  rw [← taken]
  exact exec_writeTransfer released ..

/-- A packet with an unknown code or a length that its code does not require carries no request. -/
theorem checkEnvelope_eq_none {code : Byte} {stated : Nat} {args : List Byte}
    (fails : requestLength code = none ∨ ∃ n, requestLength code = some n ∧
      (stated ≠ n ∨ args.length ≠ stated)) : checkEnvelope code stated args = none := by
  unfold checkEnvelope
  rcases fails with unknown | ⟨n, known, wrong⟩
  · rw [unknown]
  · rw [known]
    exact if_neg fun ⟨same, whole⟩ => wrong.elim (· same) (· whole)

theorem numOf_pair (hi lo : Byte) : numOf [hi, lo] = hi.toNat * 256 + lo.toNat := by
  simp [numOf]

/-- SDO carries 00H through an ignored transfer (R192). -/
theorem ignoredBytes_eq {why : IgnoredTransfer} {n : Nat}
    (whole : n = (match why with
      | .badDirection _ more => more + 1
      | .cutShort => 0
      | .selectHeld clocked => clocked)) : ignoredBytes why = List.replicate n 0 := by
  subst whole
  cases why <;> rfl

theorem writePacket_short {packet : List Byte} (short : packet.length < 3) (s : State) :
    writePacket packet s = s.driveWrite packet.length := by
  match packet, short with
  | [], _ => rfl
  | [_], _ => rfl
  | [_, _], _ => rfl

/-- A step with nothing waiting and nothing gathered ends the processing of a refused packet. -/
theorem step_malformed {s : State} {code : Byte} {lost : Bool} (released : s.resetAsserted = false)
    (empty : s.pending = []) (none_gathered : s.gathered = [])
    (port : s.port = .working (.malformed code) lost) :
    step s = .next (s.refusePacket code lost) := by
  rw [step, empty]
  simp only
  rw [idle, State.due_refusal none_gathered port, released]
  rfl

/-- Settles O4. -/
theorem transfersThatTakeNoRequest : Obligations.TransfersThatTakeNoRequest := by
  unfold Obligations.TransfersThatTakeNoRequest
  refine ⟨fun packet s released short => ?_, fun why n s released whole => ?_,
    fun code hi lo args s released free fails => ?_⟩
  · refine ⟨s.driveWrite packet.length, ?_, rfl, rfl, sdoPin_driveWrite s _ s.port⟩
    rw [← writePacket_short short]
    exact congrArg _ (unlessReset_released released _)
  · refine ⟨{ s with sdoTrace := sdoOver (ignoredBytes why) },
      congrArg _ (unlessReset_released released _), rfl, ?_, State.sdoPin_over rfl⟩
    simp [sdoOver, ignoredBytes_eq whole]
  · refine ⟨_, exec_writeTransfer released .., ?_, sdoPin_driveWrite ..,
      fun empty none_gathered => ?_⟩
    all_goals
      rw [Port.write_of_free free, takeRequest, numOf_pair, checkEnvelope_eq_none fails]
    · rfl
    · exact step_malformed released empty none_gathered rfl

/-! ### Read transfers (R195, R212) -/

theorem exec_readTransfer {s : State} (released : s.resetAsserted = false) (n : Nat) :
    exec (.readTransfer n) s = .next (readPacket n s) :=
  congrArg Host.Outcome.next (unlessReset_released released _)

@[simp] theorem length_filled (n : Nat) (bytes : List Byte) : (filled n bytes).length = n := by
  simp [filled]; omega

/-- A transfer sends the bytes there are, and 00H after them. -/
theorem getElem_filled {n k : Nat} (inside : k < n) (bytes : List Byte) :
    (filled n bytes)[k]? = some (bytes.getD k 0) := by
  unfold filled
  rw [List.getElem?_take_of_lt inside]
  by_cases given : k < bytes.length
  · rw [List.getElem?_append_left given, List.getD_eq_getElem?_getD, List.getElem?_eq_getElem given,
      Option.getD_some]
  · rw [List.getElem?_append_right (by omega), List.getElem?_replicate, if_pos (by omega),
      List.getD_eq_default _ _ (by omega)]

/-- What SDO carries in a read transfer, byte by byte. -/
theorem readPacket_get {n k : Nat} (inside : k < n) (s : State) :
    (readPacket n s).sdoTrace[k]? =
      some (.driven ((0 :: s.port.marker :: (s.port.response s.freeIndex).1).getD k 0)) := by
  show (sdoOver (filled n _))[k]? = _
  rw [sdoOver_get, length_filled, if_pos inside, getElem_filled inside]
  rfl

theorem readPacket_marker {n : Nat} (two : 2 ≤ n) (s : State) :
    (readPacket n s).sdoTrace[1]? = some (.driven s.port.marker) := readPacket_get (by omega) s

theorem readPacket_response {n j : Nat} (inside : j + 2 < n) (s : State) :
    (readPacket n s).sdoTrace[j + 2]? =
      some (.driven ((s.port.response s.freeIndex).1.getD j 0)) := readPacket_get inside s

theorem readPacket_port {n : Nat} (two : 2 ≤ n) (s : State) :
    (readPacket n s).port = s.port.afterRead := if_pos two

/-- A response packet after the marker (R212). -/
theorem Response.bytes_eq (r : Response) (i : Nat) :
    (r.bytes i).1 = r.code :: BitVec.ofNat 8 r.status.code ::
      (bytesOf 2 (fieldsBytes i r.results).1.length ++ (fieldsBytes i r.results).1) := by
  simp [Response.bytes, bytesOf]

/-- Settles O6: the marker and the bytes of the port state. -/
theorem readTransferReportsThePort : Obligations.ReadTransferReportsThePort := by
  unfold Obligations.ReadTransferReportsThePort
  intro n s released two
  refine ⟨readPacket n s, exec_readTransfer released n, rfl, ?_, readPacket_get (by omega) s, ?_,
    State.sdoPin_over rfl, ?_⟩
  · show (sdoOver (filled n _)).length = _
    simp [sdoOver]
  · show (sdoOver (filled n _))[n]? = _
    simp [sdoOver_get]
  · have port := readPacket_port two s
    have marker := readPacket_marker two s
    have bytes := fun j (inside : j + 2 < n) => readPacket_response inside s
    cases state : s.port with
    | idle =>
      rw [state] at port marker bytes
      exact ⟨port, marker, bytes⟩
    | working inHand lost =>
      rw [state] at port marker bytes
      exact ⟨port, marker, bytes⟩
    | holding r lost =>
      rw [state] at port marker bytes
      refine ⟨port, marker.trans ?_, _, rfl, fun j inside => ?_⟩
      · cases lost <;> rfl
      · rw [← Response.bytes_eq]
        exact bytes j inside

/-! ### A request lost (R196) -/

/-- A response held with the lost flag is delivered with READY_LOST. -/
theorem readPacket_lost {s : State} {r : Response} (port : s.port = .holding r true)
    (released : s.resetAsserted = false) {n : Nat} (two : 2 ≤ n) :
    ∃ z, exec (.readTransfer n) s = .next z ∧ z.sdoTrace[1]? = some (.driven 0x0B) := by
  refine ⟨readPacket n s, exec_readTransfer released n, ?_⟩
  rw [readPacket_marker two, port]
  rfl

/-- The state after a write transfer of a head and `n` argument bytes that the port refuses. -/
def State.writeLost (s : State) (inHand : InHand) (n : Nat) : State :=
  { s.driveWrite (n + 3) with port := .working inHand true }

theorem exec_writeTransfer_lost {s : State} {inHand : InHand} {lost : Bool}
    (released : s.resetAsserted = false) (port : s.port = .working inHand lost) (code hi lo : Byte)
    (args : List Byte) :
    exec (.writeTransfer (code :: hi :: lo :: args)) s = .next
    (s.writeLost inHand args.length) := by
  rw [exec_writeTransfer released, port]
  rfl

/-- Settles O5: the port keeps what it has in hand, and its response the lost flag. -/
theorem writeWhileWorkingIsLost : Obligations.WriteWhileWorkingIsLost := by
  unfold Obligations.WriteWhileWorkingIsLost
  intro inHand lost code hi lo args s released port
  refine ⟨s.writeLost inHand args.length, exec_writeTransfer_lost released port .., rfl, ?_⟩
  cases inHand with
  | request r =>
    intro is_request
    obtain ⟨packet, is_packet⟩ := Option.isSome_iff_exists.mp is_request
    have serves : (s.writeLost (.request r) args.length).Serves r :=
      State.serves_of_working released rfl
    obtain ⟨carried, code, _, -, holds⟩ := answers_request is_packet serves
    have still := (requestBody_queues r (s.writeLost (.request r) args.length)).resetAsserted
    refine ⟨_, _, carried, holds, fun n two => readPacket_lost holds (still.trans released) two⟩
  | malformed c =>
    intro ⟨empty, none_gathered⟩
    refine ⟨(s.writeLost (.malformed c) args.length).refusePacket c true, _,
      ⟨step_malformed released empty none_gathered rfl, rfl⟩, rfl, fun n two => ?_⟩
    have held : ((s.writeLost (.malformed c) args.length).refusePacket c true).port =
      .holding ⟨c, .badRequest, []⟩ true := rfl
    exact readPacket_lost held released two

end Sys2Proof.Machine

/-! # Proofs: refused requests, the device reset and RESET asserted -/

namespace Sys2Proof.Machine

/-! ### What a refused request changes (R194, R197) -/

/-- A reply carries out the request, or it has no results and leaves the state. -/
def Reply.Fair (r : Reply) (s : State) : Prop :=
  r.status = .done ∨ r.status = .clamped ∨ r.results = [] ∧ r.state = s

@[simp] theorem State.refuse_fair (s : State) (st : Status) : (s.refuse st).Fair s :=
  .inr (.inr ⟨rfl, rfl⟩)

@[simp] theorem State.done_fair (s u : State) (results : List Field) : (u.done results).Fair s :=
  .inl rfl

@[simp] theorem State.doneClamped_fair (s u : State) (clamped : Bool) (results : List Field) :
    (u.doneClamped clamped results).Fair s := by
  cases clamped
  · exact .inl rfl
  · exact .inr (.inl rfl)

@[simp] theorem Reply.ite_fair {p : Prop} [Decidable p] {a b : Reply} {s : State} (ha : a.Fair s)
    (hb : b.Fair s) : (if p then a else b).Fair s := by
  split
  · exact ha
  · exact hb

theorem onWatch_fair {body : WatchId → WatchEntry → State → Reply}
    (fair : ∀ i e s, (body i e s).Fair s) (x : Nat) (s : State) : (onWatch x body s).Fair s := by
  unfold onWatch
  split
  · exact s.refuse_fair _
  · exact fair _ _ s

theorem onKinds_fair (k : BitVec 16) (former : EventUnit → KindSet)
    (write : KindSet → EventUnit → EventUnit) (s : State) : (onKinds k former write s).Fair s := by
  unfold onKinds
  split <;> simp

/-- Every request is carried out or refused without a trace. -/
theorem requestBody_fair (i : Instr) (s : State) : (requestBody i s).Fair s := by
  cases i
  case watchSet => exact onWatch_fair (fun _ _ _ => State.doneClamped_fair ..) _ s
  case watchClear => exact onWatch_fair (fun _ _ _ => State.done_fair ..) _ s
  case watchRead => exact onWatch_fair (fun _ _ _ => State.done_fair ..) _ s
  case watchAck => exact onWatch_fair (fun _ _ _ => State.done_fair ..) _ s
  case evtClear k => exact onKinds_fair k _ _ s
  case evtForce k => exact onKinds_fair k _ _ s
  case evtEnable k => exact onKinds_fair k _ _ s
  case evtRoute k => exact onKinds_fair k _ _ s
  case revOpen S =>
    show (revOpenBody S s).Fair s
    unfold revOpenBody
    repeat' split
    all_goals simp
  case revInsert S k t circ =>
    show (revInsertBody S k t circ s).Fair s
    unfold revInsertBody
    repeat' split
    all_goals simp
  case revRetire t =>
    show (revRetireBody t s).Fair s
    unfold revRetireBody
    repeat' split
    all_goals simp
  case revAdopt t S k =>
    show (revAdoptBody t S k s).Fair s
    unfold revAdoptBody
    repeat' split
    all_goals simp
  case revClose S =>
    show (revCloseBody S s).Fair s
    unfold revCloseBody
    repeat' split
    all_goals simp
  case secUnload S =>
    show (secUnloadBody S s).Fair s
    unfold secUnloadBody
    repeat' split
    all_goals simp
  case itemDrop t =>
    show (itemDropBody t s).Fair s
    unfold itemDropBody
    repeat' split
    all_goals simp
  case itemRead t =>
    show (itemReadBody t s).Fair s
    unfold itemReadBody
    repeat' split
    all_goals simp
  case secSet S tol lamp mark endMarker =>
    show (secSetBody S tol lamp mark endMarker s).Fair s
    unfold secSetBody
    repeat' split
    all_goals simp
  case walkAbandon S =>
    show (walkAbandonBody S s).Fair s
    unfold walkAbandonBody
    repeat' split
    all_goals simp
  case walkRead x =>
    show (walkReadBody x s).Fair s
    unfold walkReadBody
    repeat' split
    all_goals simp
  case claimqRead => exact State.done_fair ..
  case attNext => exact State.done_fair ..
  case attAck S =>
    show (attAckBody S s).Fair s
    unfold attAckBody
    repeat' split
    all_goals simp
  case secRead S =>
    show (secReadBody S s).Fair s
    unfold secReadBody
    repeat' split
    all_goals simp
  case secList S list start =>
    show (secListBody S list start s).Fair s
    unfold secListBody
    repeat' split
    all_goals simp
  case secReset S =>
    show (secResetBody S s).Fair s
    unfold secResetBody
    repeat' split
    all_goals simp
  case circOut t =>
    show (circOutBody t s).Fair s
    unfold circOutBody
    repeat' split
    all_goals simp
  case circIn t =>
    show (circInBody t s).Fair s
    unfold circInBody
    repeat' split
    all_goals simp
  case itemClear t =>
    show (itemClearBody t s).Fair s
    unfold itemClearBody
    repeat' split
    all_goals simp
  case campStart =>
    show (campStartBody s).Fair s
    unfold campStartBody
    repeat' split
    all_goals simp
  case campPause =>
    show (campPauseBody s).Fair s
    unfold campPauseBody
    repeat' split
    all_goals simp
  case campResume =>
    show (campResumeBody s).Fair s
    unfold campResumeBody
    repeat' split
    all_goals simp
  case campClose =>
    show (campCloseBody s).Fair s
    unfold campCloseBody
    repeat' split
    all_goals simp
  case campRead => exact State.done_fair ..
  case watchNext =>
    show (watchNextBody s).Fair s
    unfold watchNextBody
    all_goals simp
  case lampForce m pattern =>
    show (lampForceBody m pattern s).Fair s
    unfold lampForceBody
    repeat' split
    all_goals simp
  case wandRead w =>
    show (wandReadBody w s).Fair s
    unfold wandReadBody
    repeat' split
    all_goals simp
  case evtRead => exact State.done_fair ..
  case setWrite key v =>
    show (setWriteBody key v s).Fair s
    unfold setWriteBody
    simp
  case setRead => exact State.done_fair ..
  all_goals exact s.refuse_fair _

/-- Settles O7. -/
theorem refusedRequestsChangeNoState : Obligations.RefusedRequestsChangeNoState := by
  unfold Obligations.RefusedRequestsChangeNoState
  intro i code args s packet serves
  refine ⟨_, _, _, answers_request packet serves, ?_⟩
  rcases requestBody_fair i s with done | clamped | ⟨no_results, same⟩
  · exact .inl done
  · exact .inr (.inl clamped)
  · refine .inr (.inr ⟨no_results, ?_⟩)
    rw [Reply.hold, no_results, same]

/-! ### While RESET is asserted (R171, R191, R198, R200) -/

theorem carryOut_reset {s : State} (reset : s.resetAsserted = true) (i : Instr) (code : Byte)
    (body : State → Reply) : carryOut i code body s = s := if_pos reset

theorem takeFrame_reset {s : State} (reset : s.resetAsserted = true) (i : Instr) (w : Wand)
    (kind : Byte) (body : State → Answer) : takeFrame i w kind body s = s := if_pos reset

/-- While RESET is asserted every command but the reset and its release changes nothing. -/
theorem exec_reset {c : Instr} {s : State} (reset : s.resetAsserted = true)
    (not_reset : ∀ cause, c ≠ .deviceReset cause) (not_release : c ≠ .resetRelease) :
    exec c s = .next s := by
  rcases request : requestPacket c with _ | ⟨code, args⟩
  · rcases frame : wandFrame c with _ | ⟨w, kind, payload⟩
    · cases c
      case deviceReset cause => exact absurd rfl (not_reset cause)
      case resetRelease => exact absurd rfl not_release
      case writeTransfer | readTransfer | ignoredTransfer | byteReceived | framingError
        | receiverGap | frameReceived | frameSent | decayTick | leaseExpiry | revisionExpiry
        | campaignClockSecond | lampPhaseWrap =>
        exact congrArg _ (unlessReset_reset reset _)
      all_goals cases request <;> cases frame
    · rw [exec_frame frame, takeFrame_reset reset]
  · rw [exec_request request, carryOut_reset reset]

/-- Settles O9. -/
theorem inResetOnlyTheReleaseActs : Obligations.InResetOnlyTheReleaseActs := by
  unfold Obligations.InResetOnlyTheReleaseActs
  refine ⟨fun c s reset => exec_reset reset, fun s => rfl, fun s reset => ?_⟩
  refine ⟨?_, ?_, State.sdoPin_reset reset, State.ltxPin_reset reset, fun m => ?_⟩
  · simp [State.attnAsserted, reset]
  · simp [State.urgentAsserted, reset]
  · simp [State.lampLit, reset]

/-! ### The device reset (R148, R191) -/

/-- A reset cuts a frame being sent off before its last byte. -/
theorem State.cutFrame_sending {s : State} {f : PartFrame} (sending : s.ltxPin = .sending f) :
    ∃ n < (f.bytes s.freeIndex).1.length,
      s.cutFrame.1 = some (.cutOff ((f.bytes s.freeIndex).1.take n)) := by
  refine ⟨_, Nat.mod_lt (Config.cutAfter (f.bytes s.freeIndex).2)
    (f.bytes_length_pos s.freeIndex), ?_⟩
  rw [State.cutFrame, sending]

/-- No section stands on a lamp after a reset, and no lamp is forced. -/
theorem lampLit_of_dark {s : State} {m : LampId} (none_forced : s.forces[m] = none)
    (none_on : ∀ S, (s.sec S).lamp = none) : s.lampLit m = false := by
  have derived : s.derivedPattern m = .off := by
    simp [State.derivedPattern, State.onLamp, none_on]
  simp [State.lampLit, State.shownPattern, none_forced, derived, Pattern.litAt]

theorem State.forces_reset (m : LampId) : State.reset.forces[m] = none := by
  show (Vector.replicate 48 none)[(m : Nat)] = none
  simp

theorem State.watch_reset (i : WatchId) : State.reset.watch[i] = WatchEntry.blank := by
  show (Vector.replicate 16 WatchEntry.blank)[(i : Nat)] = WatchEntry.blank
  simp

theorem State.lastFrame_reset (w : Wand) : State.reset.lastFrame[w] = none := by
  show (Vector.replicate 16 none)[(w : Nat)] = none
  simp

/-- The kinds that the reset routes to URGENT (R204). -/
theorem urgent_reset (k : EventKind) : State.reset.events.urgent.getLsbD k.bit = true ↔
    k = .leaseExpired ∨ k = .revisionExpired ∨ k = .tableFull ∨ k = .filterSaturated := by
  show BitVec.getLsbD 0b111100000#9 k.bit = true ↔ _
  cases k <;> decide

/-- What a device reset makes of the state and of LTX. -/
theorem deviceReset_takes (cause : ResetCause) (s : State) :
    ∃ u, exec (.deviceReset cause) s = .next u ∧
    u = { State.reset with
      pending := s.pending
      ltxSent := u.ltxSent
      freeIndex := u.freeIndex
      resetAsserted := s.resetAsserted || decide (cause = .pinAsserted) } ∧
    u.ltxPin = .idleHigh ∧
    (s.resetAsserted = true ∨ s.sendQueue = [] →
      u.ltxSent = s.ltxSent ∧ u.freeIndex = s.freeIndex) ∧
    ∀ (f : PartFrame) (rest : List PartFrame), s.resetAsserted = false → s.sendQueue = f :: rest →
      ∃ n whole, whole = (f.bytes s.freeIndex).1 ∧ n < whole.length ∧
        u.ltxSent = some (.cutOff (whole.take n)) := by
  refine ⟨resetPart cause s, rfl, rfl, State.ltxPin_idle rfl, fun quiet => ?_,
    fun f rest released queue => ?_⟩
  · have idle : s.ltxPin = .idleHigh := quiet.elim State.ltxPin_reset State.ltxPin_idle
    have kept := State.cutFrame_idle idle
    exact ⟨congrArg Prod.fst kept, congrArg Prod.snd kept⟩
  · obtain ⟨n, before, cut⟩ := State.cutFrame_sending (State.ltxPin_sending released queue)
    exact ⟨n, _, rfl, before, cut⟩

/-- Settles O8. -/
theorem deviceResetGivesTheResetValues : Obligations.DeviceResetGivesTheResetValues := by
  unfold Obligations.DeviceResetGivesTheResetValues
  have free (w : Wand) (i : Fin 24) : (State.reset.table w).entries[i] = .free := by
    rw [State.table_reset, candTable_blank_entry]
  have dark (m : LampId) : State.reset.lampLit m = false :=
    lampLit_of_dark (State.forces_reset m) fun S => by rw [State.sec_reset]; rfl
  exact ⟨deviceReset_takes, rfl, State.sec_reset, free, rfl, rfl, State.ctx_reset,
    State.watch_reset,
    rfl, rfl, rfl, fun m => ⟨State.forces_reset m, dark m⟩, rfl, rfl, rfl, rfl,
      State.lastFrame_reset,
    State.ltxPin_idle rfl, rfl, rfl, rfl, rfl, urgent_reset, rfl⟩

end Sys2Proof.Machine

/-! # Proofs: the stack link -/

namespace Sys2Proof.Machine

/-! ### The receiver (R172, R173) -/

theorem exec_byteReceived {s : State} (released : s.resetAsserted = false) (b : Byte) :
    exec (.byteReceived b) s = .next (receiveByte b s) :=
  congrArg Host.Outcome.next (unlessReset_released released _)

theorem receiveByte_hunt {s : State} (hunts : s.receiver = .hunt) (b : Byte) :
    receiveByte b s = huntByte b s := by
  rw [receiveByte, hunts]

theorem receiveByte_gap {s : State} {bytes : List Byte} {gap : Nat}
    (gathers : s.receiver = .gather bytes gap)
    (late : 1 < gap) (b : Byte) : receiveByte b s = huntByte b s := by
  rw [receiveByte, gathers]
  exact if_pos late

/-- A frame's bytes after the sync byte: envelope, payload, CRC (R210). -/
def frameBytes (f : RawFrame) : List Byte := frameCovered f ++ bytesOf 2 f.crc.toNat

theorem length_frameBytes (f : RawFrame) : (frameBytes f).length = f.payload.length + 5 := by
  simp [frameBytes, frameCovered]

/-- The bytes of a frame make that frame. -/
theorem gatheredFrame_frameBytes {f : RawFrame} (fits : f.payload.length ≤ 255) :
    gatheredFrame (frameBytes f) = some f := by
  have whole : (BitVec.ofNat 8 f.payload.length).toNat = f.payload.length := by
    rw [BitVec.toNat_ofNat, Nat.mod_eq_of_lt (by omega)]
  have crc : BitVec.ofNat 16 (numOf (bytesOf 2 f.crc.toNat)) = f.crc := by
    rw [numOf_bytesOf]
    exact ofNat_kinds_mod f.crc
  simp [gatheredFrame, frameBytes, frameCovered, whole, crc]

/-- Fewer bytes than a whole frame's make none. -/
theorem gatheredFrame_short {f : RawFrame} (fits : f.payload.length ≤ 255) {bytes : List Byte}
    (short : bytes <+: frameBytes f) (more : bytes ≠ frameBytes f) :
    gatheredFrame bytes = none := by
  have less : bytes.length < f.payload.length + 5 := by
    rw [← length_frameBytes]
    exact lt_of_le_of_ne short.length_le fun same => more (short.eq_of_length same)
  unfold gatheredFrame
  split
  next w k len rest =>
    have len_eq : len = BitVec.ofNat 8 f.payload.length := by
      obtain ⟨tail, whole⟩ := short
      simp only [frameBytes, frameCovered, List.cons_append, List.cons.injEq] at whole
      exact whole.2.2.1
    rw [len_eq, BitVec.toNat_ofNat, Nat.mod_eq_of_lt (by omega : f.payload.length < 2 ^ 8)]
    simp only [List.length_cons] at less
    exact if_neg (by omega)
  · rfl

/-- One more byte of a frame being gathered. -/
theorem exec_gatherByte {s : State} (released : s.resetAsserted = false) (bytes : List Byte)
    (b : Byte) :
    exec (.byteReceived b) { s with receiver := .gather bytes 0 } =
      .next (gatherByte bytes b { s with receiver := .gather bytes 0 }) :=
  exec_byteReceived (s := { s with receiver := .gather bytes 0 }) released b

/-- The rest of a frame, byte by byte, completes it. -/
theorem runAll_gathers {f : RawFrame} {s : State} (fits : f.payload.length ≤ 255)
    (released : s.resetAsserted = false) (todo : List Byte) : ∀ bytes : List Byte,
    bytes ++ todo = frameBytes f → todo ≠ [] →
    runAll (todo.map Instr.byteReceived) { s with receiver := .gather bytes 0 } =
      { s with receiver := .hunt, gathered := s.gathered ++ [f] } := by
  induction todo with
  | nil => exact fun _ _ some_left => absurd rfl some_left
  | cons b rest ih =>
    intro bytes whole _
    rw [List.map_cons, runAll, exec_gatherByte released]
    simp only [gatherByte]
    have whole : (bytes ++ [b]) ++ rest = frameBytes f := by simpa using whole
    by_cases last : rest = []
    · subst last
      rw [List.append_nil] at whole
      rw [whole, gatheredFrame_frameBytes fits]
      rfl
    · rw [gatheredFrame_short fits ⟨rest, whole⟩ fun same => last (by simpa [same] using whole)]
      exact ih _ whole last

/-- Settles O11. -/
theorem receiverGathersWholeFrames : Obligations.ReceiverGathersWholeFrames := by
  unfold Obligations.ReceiverGathersWholeFrames
  refine ⟨fun f s fits released hunts => ?_, fun b s released hunts => ?_,
    fun b bytes gap s released gathers late => ?_, fun s released => ⟨?_, fun hunts => ?_, ?_⟩⟩
  · have sync : receiveByte 0x7E s = { s with receiver := .gather [] 0 } := receiveByte_hunt hunts _
    show runAll (.byteReceived 0x7E :: (frameBytes f).map Instr.byteReceived) s = _
    rw [runAll, exec_byteReceived released, sync]
    have nonempty : frameBytes f ≠ [] :=
      List.ne_nil_of_length_pos (by rw [length_frameBytes]; omega)
    refine (runAll_gathers fits released _ [] rfl nonempty).trans ?_
    rw [← hunts]
  · rw [exec_byteReceived released, receiveByte_hunt hunts, huntByte]
  · rw [exec_byteReceived released, receiveByte_gap gathers late]
    exact (exec_byteReceived (s := { s with receiver := .hunt }) released b).symm
  · exact congrArg _ (unlessReset_released released _)
  · have no_gap : s.gapOver = false := by rw [State.gapOver, hunts]
    show Host.Outcome.next (unlessReset (atEnd s.gapOver abandonFrame) s) = _
    rw [no_gap, unlessReset_released released, atEnd_false]
  · intro bytes gap gathers
    have gap_eq : s.gapOver = decide (1 < gap) := by rw [State.gapOver, gathers]
    show Host.Outcome.next (unlessReset (atEnd s.gapOver abandonFrame) s) = _
    rw [gap_eq, unlessReset_released released, atEnd]
    by_cases late : 1 < gap
    · simp [late, abandonFrame]
    · simp [late]

end Sys2Proof.Machine

/-! # Proofs: the checks of wand frames, and sending -/

namespace Sys2Proof.Machine

/-! ### Bytes written back (R209) -/

theorem foldl_bytes (bytes : List Byte) (acc : Nat) :
    bytes.foldl (fun n b => n * 256 + b.toNat) acc = acc * 256 ^ bytes.length + numOf bytes := by
  induction bytes generalizing acc with
  | nil => simp [numOf]
  | cons b rest ih =>
    have head : numOf (b :: rest) = (0 * 256 + b.toNat) * 256 ^ rest.length + numOf rest := ih _
    rw [List.foldl_cons, ih, head, List.length_cons, pow_succ]
    ring

theorem numOf_cons (b : Byte) (rest : List Byte) :
    numOf (b :: rest) = b.toNat * 256 ^ rest.length + numOf rest := by
  rw [numOf, List.foldl_cons, foldl_bytes, Nat.zero_mul, Nat.zero_add]

theorem numOf_lt (bytes : List Byte) : numOf bytes < 256 ^ bytes.length := by
  induction bytes with
  | nil => simp [numOf]
  | cons b rest ih =>
    rw [numOf_cons, List.length_cons, pow_succ]
    have : b.toNat * 256 ^ rest.length ≤ 255 * 256 ^ rest.length :=
      Nat.mul_le_mul_right _ (Nat.le_of_lt_succ b.isLt)
    omega

/-- A number's last bytes do not depend on what stands before them. -/
theorem bytesOf_add_mul (n v high : Nat) : bytesOf n (high * 256 ^ n + v) = bytesOf n v := by
  induction n generalizing high with
  | zero => rfl
  | succ n ih =>
    have shift : high * 256 ^ (n + 1) = (high * 256) * 256 ^ n := by ring
    have byte : (high * 256 * 256 ^ n + v) / 256 ^ n = high * 256 + v / 256 ^ n := by
      rw [Nat.mul_comm (high * 256), Nat.mul_add_div (by positivity)]
    rw [bytesOf, bytesOf, shift, ih, byte]
    congr 1
    apply BitVec.eq_of_toNat_eq
    simp only [BitVec.toNat_ofNat]
    omega

/-- Bytes are written as they were read. -/
theorem bytesOf_numOf (bytes : List Byte) : bytesOf bytes.length (numOf bytes) = bytes := by
  induction bytes with
  | nil => rfl
  | cons b rest ih =>
    have byte : numOf (b :: rest) / 256 ^ rest.length = b.toNat := by
      rw [numOf_cons, Nat.mul_comm, Nat.mul_add_div (by positivity),
        Nat.div_eq_of_lt (numOf_lt rest), Nat.add_zero]
    rw [List.length_cons, bytesOf, byte, numOf_cons, bytesOf_add_mul, ih, BitVec.ofNat_toNat,
      BitVec.setWidth_eq]

theorem bytesOf_argNum {p : List Byte} {n : Nat} (whole : p.length = n) :
    bytesOf n (argNum p 0 n) = p := by
  subst whole
  rw [argNum, slice, List.drop_zero, List.take_length, bytesOf_numOf]

theorem tagBytes_argTag {p : List Byte} (whole : p.length = 8) : tagBytes (argTag p 0) = p := by
  have fits : argNum p 0 8 < 2 ^ 64 := by
    rw [argNum, slice, List.drop_zero, List.take_of_length_le whole.le]
    exact (numOf_lt p).trans_eq (by rw [whole]; norm_num)
  rw [tagBytes, argTag, BitVec.toNat_ofNat, Nat.mod_eq_of_lt fits, bytesOf_argNum whole]

/-- The bytes of the reads of a SIGHT (R211). -/
def readBytes (reads : List TagRead) : List Byte :=
  reads.flatMap fun r => tagBytes r.tag ++ [r.strength]

theorem length_readsOf (n : Nat) (a : List Byte) : (readsOf n a).length = n := by
  induction n generalizing a with
  | zero => rfl
  | succ n ih => rw [readsOf, List.length_cons, ih]

theorem readBytes_readsOf {n : Nat} {a : List Byte} (whole : a.length = 9 * n) :
    readBytes (readsOf n a) = a := by
  induction n generalizing a with
  | zero => rw [List.length_eq_zero_iff.mp whole]; rfl
  | succ n ih =>
    have tag : tagBytes (argTag a 0) = a.take 8 := by
      have whole : (a.take 8).length = 8 := by simp; omega
      have same : argTag a 0 = argTag (a.take 8) 0 := by
        simp [argTag, argNum, slice, List.take_take]
      rw [same, tagBytes_argTag whole]
    have strength : [argByte a 8] = (a.drop 8).take 1 := by
      have one : ((a.drop 8).take 1).length = 1 := by simp; omega
      obtain ⟨b, single⟩ := List.length_eq_one_iff.mp one
      simp [argByte, argNum, slice, single, numOf]
    have rest : readBytes (readsOf n (a.drop 9)) = a.drop 9 := ih (by simp; omega)
    show tagBytes (argTag a 0) ++ [argByte a 8] ++ readBytes (readsOf n (a.drop 9)) = a
    rw [tag, strength, rest, List.append_assoc,
      show a.drop 9 = (a.drop 8).drop 1 by rw [List.drop_drop], List.take_append_drop,
      List.take_append_drop]

theorem readsOf_readBytes (reads : List TagRead) :
    readsOf reads.length (readBytes reads) = reads := by
  induction reads with
  | nil => rfl
  | cons r rest ih =>
    have bytes : readBytes (r :: rest) = tagBytes r.tag ++ (r.strength :: readBytes rest) := by
      simp [readBytes]
    have skip : (tagBytes r.tag ++ (r.strength :: readBytes rest)).drop 9 = readBytes rest := by
      simp [List.drop_append]
    rw [List.length_cons, readsOf, bytes, skip, ih, argTag_tagBytes_append, argByte_skip (by simp)]
    simp

theorem length_readBytes (reads : List TagRead) : (readBytes reads).length = 9 * reads.length := by
  induction reads with
  | nil => rfl
  | cons r rest ih =>
    have cons : readBytes (r :: rest) = tagBytes r.tag ++ [r.strength] ++ readBytes rest := rfl
    rw [cons, List.length_append, ih]
    simp
    omega

/-! ### The payload of each kind (R175, R210) -/

/-- A frame of a wand kind whose payload has the length its kind requires is taken as itself. -/
theorem frameOf_reads (w : Wand) {kind : Byte} {p : List Byte}
    (whole : requiredLength kind p = some p.length) :
    ∃ i, frameOf w kind p = some i ∧ wandFrame i = some (w, kind, p) := by
  have is_kind {k : Byte} (h : kind.toNat = k.toNat) : kind = k := BitVec.eq_of_toNat_eq h
  unfold requiredLength at whole
  split at whole
  next h =>
    obtain rfl := is_kind (k := 1) h
    obtain rfl := List.eq_nil_of_length_eq_zero (Option.some.inj whole).symm
    exact ⟨.hello w, rfl, rfl⟩
  next h =>
    obtain rfl := is_kind (k := 2) h
    obtain whole := Option.some.inj whole
    cases p with
    | nil => cases whole
    | cons r reads =>
      have count : reads.length = 9 * r.toNat := by
        simp only [List.headD_cons, List.length_cons] at whole
        omega
      refine ⟨.sight w (readsOf r.toNat reads), if_pos whole.symm, ?_⟩
      have bytes : bytesOf 1 r.toNat = [r] := by simp [bytesOf]
      show some (w, (2 : Byte), bytesOf 1 _ ++ readBytes _) = _
      rw [length_readsOf, readBytes_readsOf count, bytes]
      rfl
  next h =>
    obtain rfl := is_kind (k := 3) h
    have whole : p.length = 2 := (Option.some.inj whole).symm
    refine ⟨.claim w (argNum p 0 2), if_pos whole, ?_⟩
    rw [wandFrame, bytesOf_argNum whole]
  next h =>
    obtain rfl := is_kind (k := 4) h
    obtain ⟨mode, rfl⟩ := List.length_eq_one_iff.mp (Option.some.inj whole).symm
    have decoded : frameOf w 4 [mode] =
        if argByte [mode] 0 = 1 then some (Instr.walkendComplete w)
        else if argByte [mode] 0 = 2 then some (Instr.walkendBreak w)
        else some (Instr.walkendOtherMode w (argByte [mode] 0)) := by simp [frameOf]
    rw [decoded, argByte_cons_zero]
    by_cases complete : mode = 1
    · exact ⟨_, if_pos complete, by rw [complete]; rfl⟩
    · by_cases pause : mode = 2
      · exact ⟨_, (if_neg complete).trans (if_pos pause), by rw [pause]; rfl⟩
      · exact ⟨_, (if_neg complete).trans (if_neg pause), rfl⟩
  next h =>
    obtain rfl := is_kind (k := 5) h
    have whole : p.length = 8 := (Option.some.inj whole).symm
    refine ⟨.whereIs w (argTag p 0), if_pos whole, ?_⟩
    rw [wandFrame, tagBytes_argTag whole]
  next h =>
    obtain rfl := is_kind (k := 6) h
    have whole : p.length = 8 := (Option.some.inj whole).symm
    refine ⟨.shelved w (argTag p 0), if_pos whole, ?_⟩
    rw [wandFrame, tagBytes_argTag whole]
  next h =>
    obtain rfl := is_kind (k := 7) h
    obtain rfl := List.eq_nil_of_length_eq_zero (Option.some.inj whole).symm
    exact ⟨.keep w, rfl, rfl⟩
  next => cases whole

/-- A frame of a kind that is not a wand frame kind is taken, whatever its payload. -/
theorem frameOf_other (w : Wand) {kind : Byte} {p : List Byte}
    (other : requiredLength kind p = none) :
    frameOf w kind p = some (.badFrame w kind) := by
  unfold requiredLength at other
  split at other
  case h_8 => unfold frameOf; split <;> simp_all
  all_goals cases other

/-- A frame of a wand kind with another length is discarded. -/
theorem frameOf_wrong (w : Wand) {kind : Byte} {p : List Byte} {n : Nat}
    (required : requiredLength kind p = some n) (wrong : p.length ≠ n) :
    frameOf w kind p = none := by
  unfold requiredLength at required
  split at required <;> cases required
  all_goals
    unfold frameOf
    simp_all
  cases p <;> simp_all

end Sys2Proof.Machine

/-! # Proofs: checked frames join the receive queue, and the send queue is sent -/

namespace Sys2Proof.Machine

/-! ### Checks (R175, R176) -/

theorem State.checkedIn_eq (s : State) (f : RawFrame) :
    s.checkedIn f = { s with rxQueue := (s.checkedIn f).rxQueue } := by
  unfold State.checkedIn
  split
  · rfl
  · split <;> rfl

theorem State.checkedIn_of_none {f : RawFrame} (discarded : checkedFrame f = none) (s : State) :
    s.checkedIn f = s := by
  rw [State.checkedIn, discarded]

theorem State.checkedIn_of_some {f : RawFrame} {i : Instr} (passes : checkedFrame f = some i)
    (s : State) :
    (s.checkedIn f).rxQueue = if s.rxQueue.length < 8 then s.rxQueue ++ [i] else s.rxQueue := by
  rw [State.checkedIn, passes]
  exact apply_ite State.rxQueue _ _ _

/-- The frame gathered first is checked. -/
theorem exec_frameReceived_first {f : RawFrame} {rest : List RawFrame} {s : State}
    (released : s.resetAsserted = false) (first : s.gathered = f :: rest) :
    exec (.frameReceived f) s = .next (({ s with gathered := rest } : State).checkedIn f) := by
  refine congrArg Host.Outcome.next ((unlessReset_released released _).trans ?_)
  unfold receiveFrame
  simp [first]

/-- With nothing gathered, the frame handed in is checked (notes/assumptions/15.md). -/
theorem exec_frameReceived_new {f : RawFrame} {s : State} (released : s.resetAsserted = false)
    (none_gathered : s.gathered = []) : exec (.frameReceived f) s = .next (s.checkedIn f) := by
  refine congrArg Host.Outcome.next ((unlessReset_released released _).trans ?_)
  unfold receiveFrame
  simp only [none_gathered, List.not_mem_nil, if_false, List.nil_append, if_true]
  rw [← none_gathered]

theorem checkedFrame_of_badCrc {f : RawFrame} (wrong : crc16 (frameCovered f) ≠ f.crc) :
    checkedFrame f = none := by
  simp [checkedFrame, frameCrcGood, wrong]

theorem checkedFrame_of_goodCrc {f : RawFrame} (good : crc16 (frameCovered f) = f.crc) :
    checkedFrame f = (idOf f.wand.toNat).bind fun w => frameOf w f.kind f.payload := by
  simp [checkedFrame, frameCrcGood, good]

theorem idOf_of_le {n : Nat} (fits : ¬ 15 < n) : ∃ w : Wand, idOf n = some w ∧ w.val = n :=
  ⟨⟨n, by omega⟩, dif_pos (by omega), rfl⟩

/-- Settles O12. -/
theorem frameChecksDecideItsFate : Obligations.FrameChecksDecideItsFate := by
  unfold Obligations.FrameChecksDecideItsFate
  intro f rest s released first
  refine ⟨_, exec_frameReceived_first released first, State.checkedIn_eq _ f, ?_⟩
  split
  next wrong => rw [State.checkedIn_of_none (checkedFrame_of_badCrc wrong)]
  next good =>
  have checked := checkedFrame_of_goodCrc (not_not.mp good)
  split
  next beyond =>
    rw [idOf_none beyond] at checked
    rw [State.checkedIn_of_none checked]
  next fits =>
  obtain ⟨w, is_wand, w_val⟩ := idOf_of_le fits
  rw [is_wand, Option.bind_some] at checked
  split
  next wrong =>
    obtain ⟨n, required, wrong⟩ := (Option.any_eq_true ..).mp wrong
    rw [frameOf_wrong w required (of_decide_eq_true wrong)] at checked
    rw [State.checkedIn_of_none checked]
  next right =>
  cases required : requiredLength f.kind f.payload with
  | none =>
    rw [frameOf_other w required] at checked
    exact ⟨.badFrame w f.kind, w, rfl, w_val, State.checkedIn_of_some checked _⟩
  | some n =>
    have whole : f.payload.length = n := by simpa [required] using right
    obtain ⟨i, decoded, frame⟩ := frameOf_reads w (required.trans (congrArg some whole.symm))
    rw [decoded] at checked
    exact ⟨i, w, frame, w_val, State.checkedIn_of_some checked _⟩

/-! ### Encode and decode of wand frames (R210, R211) -/

theorem requiredLength_other {kind : Byte} (other : ¬ isWandKind kind) (p : List Byte) :
    requiredLength kind p = none := by
  unfold requiredLength
  split
  case h_8 => rfl
  all_goals exact absurd (by unfold isWandKind; omega) other

/-- Encode and decode agree: the payload of a wand frame is read as that frame. -/
theorem frameOf_wandFrame {i : Instr} {w : Wand} {kind : Byte} {payload : List Byte}
    (fits : i.WellFormed) (frame : wandFrame i = some (w, kind, payload)) :
    frameOf w kind payload = some i := by
  cases i <;> cases frame
  case badFrame => exact frameOf_other w (requiredLength_other (of_decide_eq_true fits) [])
  case sight reads =>
    have few : reads.length ≤ 28 := of_decide_eq_true fits
    have count : (BitVec.ofNat 8 reads.length).toNat = reads.length := by
      rw [BitVec.toNat_ofNat, Nat.mod_eq_of_lt (by omega)]
    have bytes : bytesOf 1 reads.length ++ readBytes reads =
        BitVec.ofNat 8 reads.length :: readBytes reads := by simp [bytesOf]
    have decoded : frameOf w 2 (BitVec.ofNat 8 reads.length :: readBytes reads) =
        some (.sight w (readsOf (BitVec.ofNat 8 reads.length).toNat (readBytes reads))) :=
      if_pos (by rw [List.length_cons, length_readBytes, count]; omega)
    show frameOf w 2 (bytesOf 1 reads.length ++ readBytes reads) = _
    rw [bytes, decoded, count, readsOf_readBytes]
  case claim S =>
    have fits : S < 65536 := of_decide_eq_true fits
    have decoded : frameOf w 3 (bytesOf 2 S) = some (.claim w (argNum (bytesOf 2 S) 0 2)) :=
      if_pos (e := none) (length_bytesOf 2 S)
    rw [argNum_bytesOf, Nat.mod_eq_of_lt (b := 256 ^ 2) fits] at decoded
    exact decoded
  case walkendOtherMode mode =>
    obtain ⟨not_complete, not_break⟩ := of_decide_eq_true fits
    have decoded : frameOf w 4 [mode] =
        if mode = 1 then some (.walkendComplete w)
        else if mode = 2 then some (.walkendBreak w) else some (.walkendOtherMode w mode) := by
      simp [frameOf]
    exact decoded.trans ((if_neg not_complete).trans (if_neg not_break))
  case whereIs t =>
    have decoded : frameOf w 5 (tagBytes t) = some (.whereIs w (argTag (tagBytes t) 0)) :=
      if_pos (e := none) (length_tagBytes t)
    rw [argTag_tagBytes] at decoded
    exact decoded
  case shelved t =>
    have decoded : frameOf w 6 (tagBytes t) = some (.shelved w (argTag (tagBytes t) 0)) :=
      if_pos (e := none) (length_tagBytes t)
    rw [argTag_tagBytes] at decoded
    exact decoded
  all_goals rfl

theorem checkedFrame_rawFrame {i : Instr} {w : Wand} {kind : Byte} {payload : List Byte}
    (fits : i.WellFormed) (frame : wandFrame i = some (w, kind, payload)) :
    checkedFrame (rawFrame w kind payload) = some i := by
  have wand : (BitVec.ofNat 8 w.val).toNat = w.val := by
    rw [BitVec.toNat_ofNat, Nat.mod_eq_of_lt (by omega)]
  have checked := checkedFrame_of_goodCrc (f := rawFrame w kind payload) rfl
  rw [checked]
  show (idOf (BitVec.ofNat 8 w.val).toNat).bind _ = _
  rw [wand, idOf_val, Option.bind_some]
  exact frameOf_wandFrame fits frame

/-- Settles O13. -/
theorem everyWandFrameJoinsTheReceiveQueue : Obligations.EveryWandFrameJoinsTheReceiveQueue := by
  unfold Obligations.EveryWandFrameJoinsTheReceiveQueue
  intro i w kind payload s fits frame released none_gathered room
  have joins := State.checkedIn_of_some (checkedFrame_rawFrame fits frame) s
  rw [if_pos room] at joins
  rw [exec_frameReceived_new released none_gathered, State.checkedIn_eq, joins]

/-! ### Sending (R172, R177, R210) -/

/-- A part frame as sent, by its payload. -/
theorem PartFrame.bytes_eq (f : PartFrame) (i : Nat) {covered : List Byte}
    (envelope : covered = BitVec.ofNat 8 f.wand.val :: BitVec.ofNat 8 f.kind ::
      BitVec.ofNat 8 (f.payload i).1.length :: (f.payload i).1) :
    (f.bytes i).1 = 0x7E :: (covered ++ bytesOf 2 (crc16 covered).toNat) := by
  subst envelope
  simp [PartFrame.bytes, bytesOf]

/-- Settles O14. -/
theorem headOfTheSendQueueIsSent : Obligations.HeadOfTheSendQueueIsSent := by
  unfold Obligations.HeadOfTheSendQueueIsSent
  refine ⟨fun s released empty => ⟨?_, State.ltxPin_idle empty⟩, fun f rest s released queue => ?_⟩
  · refine congrArg Host.Outcome.next ((unlessReset_released released _).trans ?_)
    rw [sendFrame, empty]
  · have sent : exec .frameSent s = .next { s with
        sendQueue := rest
        ltxSent := some (.whole (f.bytes s.freeIndex).1)
        freeIndex := (f.bytes s.freeIndex).2 } := by
      refine congrArg Host.Outcome.next ((unlessReset_released released _).trans ?_)
      rw [sendFrame, queue]
    refine ⟨_, (f.payload s.freeIndex).1, sent, rfl, ⟨_, rfl, ?_⟩,
      State.ltxPin_sending released queue, ?_, ?_⟩
    · exact congrArg (some ∘ LtxFrame.whole) (f.bytes_eq s.freeIndex rfl)
    · cases rest with
      | nil => exact State.ltxPin_idle rfl
      | cons next _ => exact State.ltxPin_sending released rfl
    · cases f with
      | answer w kind code fields => simp [PartFrame.payload, bytesOf]
      | grant w S resumed x => cases resumed <;> simp [PartFrame.payload, bytesOf]
      | suspended w S => rfl
      | drop w S closed => cases closed <;> simp [PartFrame.payload, bytesOf]

end Sys2Proof.Machine

/-! # Proofs: taken frames, their answers and their notices -/

namespace Sys2Proof.Machine

/-! ### Notices (R54, R177) -/

/-- From `s` to `u` only notices are made ready. -/
def Sends (s u : State) : Prop :=
  ∃ notices, u.sendQueue = s.sendQueue ++ notices ∧ ∀ n ∈ notices, n.isNotice = true

theorem Sends.of_eq {s u : State} (h : u.sendQueue = s.sendQueue) : Sends s u :=
  ⟨[], by rw [h, List.append_nil], by simp⟩

theorem Sends.refl (s : State) : Sends s s := .of_eq rfl

theorem Sends.trans {s t u : State} (h : Sends s t) (k : Sends t u) : Sends s u := by
  obtain ⟨first, h, first_notices⟩ := h
  obtain ⟨second, k, second_notices⟩ := k
  refine ⟨first ++ second, by rw [k, h, List.append_assoc], fun n member => ?_⟩
  exact (List.mem_append.mp member).elim (first_notices n) (second_notices n)

theorem State.grantNext_sends (s : State) (S : SecId) : Sends s (s.grantNext S) := by
  unfold State.grantNext
  split
  · exact .refl s
  next q _ =>
    split
    · split
      next x _ =>
        exact ⟨[.grant q.wand S true x], rfl, by simp [PartFrame.isNotice]⟩
      next => exact .refl s
    · split
      next x _ =>
        exact ⟨[.grant q.wand S false x], rfl, by simp [PartFrame.isNotice]⟩
      next => exact .refl s

theorem State.completeWalk_sends (s : State) (x : CtxId) (c : Context) :
    Sends s (s.completeWalk x c) := by
  unfold State.completeWalk
  exact (Sends.of_eq (by simp)).trans (State.grantNext_sends _ _)

theorem judgeWalk_sends {s : State} {x : CtxId} {c : Context} (walk : s.ctx x = some c) (t : Tag) :
    Sends s (judgeWalk x c t s).state := by
  by_cases marker : (s.sec c.sec).endMarker = some t
  · rw [judgeWalk, if_pos marker]
    exact s.completeWalk_sends x c
  · have kept := judge_kept walk marker
    rw [judge, walk] at kept
    exact .of_eq kept.sendQueue

theorem State.deliver_sends (s : State) (w : Wand) (i : Fin 24) (tag : Tag) :
    Sends s (s.deliver w i tag).state := by
  unfold State.deliver
  split
  · exact .refl s
  · split
    · exact .refl s
    next walk =>
      split
      · exact judgeWalk_sends walk tag
      · split <;> exact .of_eq rfl

theorem State.matchWatch_sendQueue (s : State) (w : Wand) (tag : Tag) :
    (s.matchWatch w tag).1.sendQueue = s.sendQueue := by
  unfold State.matchWatch
  split <;> rfl

theorem State.confirmEntry_sends (s : State) (w : Wand) (i : Fin 24) (tag : Tag) (alloc : Nat) :
    Sends s (s.confirmEntry w i tag alloc).state := by
  let t := s.setTable w ((s.table w).confirm i tag alloc s.settings.holdTicks)
  have matched : Sends s (t.matchWatch w tag).1 := .of_eq (t.matchWatch_sendQueue w tag)
  exact matched.trans (State.deliver_sends _ w i tag)

theorem readHeld_sends (s : State) (w : Wand) (i : Fin 24) (weight : Nat) :
    Sends s (readHeld w i weight s).state := by
  unfold readHeld
  simp only
  split
  · split
    · exact s.confirmEntry_sends _ _ _ _
    · exact .of_eq (s.setTable_sendQueue _ _)
  · exact .of_eq (s.setTable_sendQueue _ _)
  · exact .refl s
  · exact .refl s

theorem readNew_sends (s : State) (w : Wand) (tag : Tag) (weight : Nat) :
    Sends s (readNew w tag weight s).state := by
  unfold readNew
  simp only
  split
  · exact .of_eq (s.raise_sendQueue _)
  next i _ =>
    have allocated : Sends s (s.setTable w ((s.table w).allocate i tag weight)) :=
      .of_eq (s.setTable_sendQueue _ _)
    split
    · exact allocated.trans (State.confirmEntry_sends _ _ _ _ _)
    · exact allocated

theorem readOne_sends (s : State) (w : Wand) (r : TagRead) : Sends s (readOne w r s).state := by
  unfold readOne
  simp only
  split
  · exact .refl s
  · split
    · exact readHeld_sends s w _ _
    · exact readNew_sends s w _ _

theorem readAll_sends (w : Wand) (reads : List TagRead) :
    ∀ s : State, Sends s (readAll w reads s).state := by
  induction reads with
  | nil => exact Sends.refl
  | cons r rest ih => exact fun s => (readOne_sends s w r).trans (ih _)

theorem State.suspend_grant_sends (s : State) (x : CtxId) (c : Context) (w : Wand) :
    Sends s ((s.suspend x c w).grantNext c.sec) :=
  (Sends.of_eq (s.suspend_sendQueue x c w)).trans (State.grantNext_sends _ _)

/-! ### Answers (R178, R179) -/

/-- An answer accepts the frame and makes only notices ready, or it leaves the state. -/
def Answer.Fair (a : Answer) (s : State) : Prop :=
  (a.code = .ok ∨ a.code = .granted ∨ a.code = .queued) ∧ Sends s a.state ∨ a.state = s

@[simp] theorem State.reply_fair (s : State) (code : FrameCode) (fields : List Field) :
    (s.reply code fields).Fair s := .inr rfl

theorem Answer.Fair.of_ok {a : Answer} {s : State} (accepts : a.code = .ok)
    (sends : Sends s a.state) :
    a.Fair s := .inl ⟨.inl accepts, sends⟩

theorem unlessPaused_fair {body : State → Answer} {s : State} (fair : (body s).Fair s) :
    (unlessPaused body s).Fair s := by
  unfold unlessPaused
  split
  · exact s.reply_fair _ _
  · exact fair

theorem helloBody_fair (w : Wand) (s : State) : (helloBody w s).Fair s := by
  have freed : Sends s (s.freeTable w) := .of_eq rfl
  unfold helloBody
  simp only
  split
  · split
    · exact .of_ok rfl (freed.trans (State.suspend_grant_sends _ _ _ _))
    · exact .of_ok rfl freed
  · split <;> exact .of_ok rfl freed

theorem sightBody_fair (w : Wand) (reads : List TagRead) (s : State) :
    (sightBody w reads s).Fair s := by
  unfold sightBody
  split
  · exact s.reply_fair _ _
  · exact Answer.Fair.of_ok rfl (readAll_sends w reads s)

theorem claimSec_fair (w : Wand) (S : SecId) (s : State) : (claimSec w S s).Fair s := by
  have enqueued : Sends s (s.enqueue w S) := by
    unfold State.enqueue
    split <;> exact .of_eq rfl
  unfold claimSec
  split
  · exact s.reply_fair _ _
  · exact .inl ⟨.inr (.inr rfl), enqueued⟩
  all_goals
    split
    · exact .inl ⟨.inr (.inl rfl), .of_eq rfl⟩
    · exact s.reply_fair _ _

theorem claimBody_fair (w : Wand) (S : Nat) (s : State) : (claimBody w S s).Fair s := by
  unfold claimBody
  split
  · split
    · exact s.reply_fair _ _
    · split
      · exact claimSec_fair w _ s
      · exact s.reply_fair _ _
  · exact s.reply_fair _ _

theorem walkendCompleteBody_fair (w : Wand) (s : State) : (walkendCompleteBody w s).Fair s := by
  unfold walkendCompleteBody
  split
  · exact s.reply_fair _ _
  · split
    · exact s.reply_fair _ _
    · split
      · exact s.reply_fair _ _
      · exact .of_ok rfl (s.completeWalk_sends _ _)

theorem walkendBreakBody_fair (w : Wand) (s : State) : (walkendBreakBody w s).Fair s := by
  unfold walkendBreakBody
  split
  · exact s.reply_fair _ _
  · split
    · exact s.reply_fair _ _
    · exact .of_ok rfl (s.suspend_grant_sends _ _ w)

theorem State.shelve_sendQueue (s : State) (H : SecId) (r : Item) :
    (s.shelve H r).sendQueue = s.sendQueue := by
  unfold State.shelve
  simp [(s.leavePlace_kept r).sendQueue]

theorem shelvedBody_fair (t : Tag) (s : State) : (shelvedBody t s).Fair s := by
  unfold shelvedBody
  split
  · exact s.reply_fair _ _
  · split
    · exact s.reply_fair _ _
    · split
      · exact s.reply_fair _ _
      · split
        · exact s.reply_fair _ _
        · exact .of_ok rfl (.of_eq (s.shelve_sendQueue _ _))

/-- Every frame is accepted, with only notices made ready, or refused without a trace. -/
theorem frameBody_fair (i : Instr) (s : State) : (frameBody i s).Fair s := by
  cases i
  case hello w => exact helloBody_fair w s
  case sight w reads => exact unlessPaused_fair (sightBody_fair w reads s)
  case claim w S => exact unlessPaused_fair (claimBody_fair w S s)
  case walkendComplete w => exact unlessPaused_fair (walkendCompleteBody_fair w s)
  case walkendBreak w => exact unlessPaused_fair (walkendBreakBody_fair w s)
  case walkendOtherMode => exact unlessPaused_fair (s.reply_fair _ _)
  case whereIs w t => exact .inr (whereBody_state t s)
  case shelved w t => exact unlessPaused_fair (shelvedBody_fair t s)
  case keep w => exact unlessPaused_fair (.inr (keepBody_state w s))
  all_goals exact s.reply_fair _ _

end Sys2Proof.Machine

/-! # Proofs: answers to frames, and their refusals -/

namespace Sys2Proof.Machine

/-! ### A taken frame by what its processing gives (R176 to R178) -/

/-- A taken frame answers what its processing gives, its notices behind. -/
theorem taken_body {i : Instr} {w : Wand} {kind : Byte} {payload : List Byte} {s : State}
    {a : Answer}
    (frame : wandFrame i = some (w, kind, payload)) (takes : s.Takes i)
    (body : frameBody i (s.begun w) = a) :
    Taken s i (a.state.sending (s.sendQueue ++ .answer w kind a.code a.fields :: a.state.sendQueue))
      a.code a.fields a.state.sendQueue := body ▸ taken_frame frame takes

/-- What the taking of a frame of a wand changes, the send queue included (R57, R176). -/
def Taking (s : State) (w : Wand) (u : State) : Prop :=
  u = { s with
    contexts := u.contexts
    lastFrame := u.lastFrame
    rxQueue := u.rxQueue
    sendQueue := u.sendQueue } ∧
  ∀ x : CtxId, u.ctx x = s.leaseLoaded w x

theorem State.begun_sending (s : State) (w : Wand) (q : List PartFrame) :
    Taking s w ((s.begun w).sending q) := by
  refine ⟨?_, fun x => State.ctx_begun s w x⟩
  apply State.eq_of_fields <;> simp [State.sending]

/-- A frame that is only answered changes nothing beyond the taking. -/
theorem taken_reply {i : Instr} {w : Wand} {kind : Byte} {payload : List Byte} {s : State}
    {code : FrameCode} {fields : List Field} (frame : wandFrame i = some (w, kind, payload))
    (takes : s.Takes i) (body : frameBody i (s.begun w) = (s.begun w).reply code fields) :
    ∃ u, Taken s i u code fields [] ∧ Taking s w u :=
  ⟨_, taken_body frame takes body, s.begun_sending w _⟩

/-- With 32 frames to send, the frame at the head of the receive queue stays there (R176). -/
theorem takeFrame_waits {i : Instr} {rest : List Instr} {s : State} (head : s.rxQueue = i :: rest)
    (full : 32 ≤ s.sendQueue.length) (w : Wand) (kind : Byte) (body : State → Answer) :
    takeFrame i w kind body s = s := by
  have queued : s.queuedFrame i = i :: rest := by
    rw [State.queuedFrame, head]
    exact if_pos List.mem_cons_self
  unfold takeFrame
  split
  · rfl
  · rw [queued]
    simp only
    rw [if_neg fun both => absurd both.2 (Nat.not_lt.mpr full), ← head]

/-- Settles O15. -/
theorem takenFrameIsAnsweredOnce : Obligations.TakenFrameIsAnsweredOnce := by
  unfold Obligations.TakenFrameIsAnsweredOnce
  refine ⟨fun i w kind payload s frame takes => ?_, fun i rest s is_frame head full => ?_⟩
  · refine ⟨_, _, _, _, taken_frame frame takes, ?_, ?_⟩
    all_goals rcases frameBody_fair i (s.begun w) with ⟨accepts, notices, sent, are_notices⟩ | same
    · rw [sent]
      exact are_notices
    · rw [same]
      simp
    · intro not_ok not_granted not_queued
      rcases accepts with ok | granted | queued
      · exact absurd ok not_ok
      · exact absurd granted not_granted
      · exact absurd queued not_queued
    · intro _ _ _
      rw [same]
      obtain ⟨only, ctx⟩ := s.begun_sending w (s.sendQueue ++ .answer w kind
        (frameBody i (s.begun w)).code (frameBody i (s.begun w)).fields :: (s.begun w).sendQueue)
      exact ⟨only, rfl, ctx⟩
  · obtain ⟨⟨w, kind, payload⟩, frame⟩ := Option.isSome_iff_exists.mp is_frame
    rw [exec_frame frame, takeFrame_waits head full]

/-! ### Refusals (R50, R60, R179, R181) -/

theorem unlessPaused_of_paused {s : State} (paused : s.campaign = .paused) (body : State → Answer) :
    unlessPaused body s = s.reply .paused [] := if_pos paused

theorem unlessPaused_of_not {s : State} (going : s.campaign ≠ .paused) (body : State → Answer) :
    unlessPaused body s = body s := if_neg going

section Begun
variable {s : State}

theorem State.begun_going (going : s.campaign ≠ .paused) (w : Wand) :
    (s.begun w).campaign ≠ .paused := by rwa [State.begun_campaign]

/-- A frame processed unless PAUSED is processed in a campaign that is not. -/
theorem unlessPaused_begun (going : s.campaign ≠ .paused) (w : Wand) (body : State → Answer) :
    unlessPaused body (s.begun w) = body (s.begun w) :=
  unlessPaused_of_not (State.begun_going going w) body

/-- The walk of a wand, with its lease loaded. -/
theorem State.begun_walk {w : Wand} {x : CtxId} {c : Context} (walks : s.walkOf w = some x)
    (walk : s.ctx x = some c) :
    (s.begun w).ctx x = some { c with lease := some (s.settings.leaseInterval * 1000) } := by
  rw [State.ctx_begun, State.leaseLoaded, if_pos walks, walk]
  rfl

theorem State.begun_walkedSec {w : Wand} {x : CtxId} {c : Context} (walks : s.walkOf w = some x)
    (walk : s.ctx x = some c) : (s.begun w).walkedSec w = some c.sec := by
  rw [State.walkedSec, State.walkOf_begun, walks, Option.bind_some, State.begun_walk walks walk]
  rfl

theorem State.begun_walkedSec_none {w : Wand} (idle : s.walkOf w = none) :
    (s.begun w).walkedSec w = none := by
  rw [State.walkedSec, State.walkOf_begun, idle]
  rfl

end Begun

/-- A frame of a wand kind other than HELLO and WHERE is answered PAUSED while PAUSED. -/
theorem frameBody_paused {i : Instr} {w : Wand} {kind : Byte} {payload : List Byte} {s : State}
    (fits : i.WellFormed) (frame : wandFrame i = some (w, kind, payload)) (not_hello : kind ≠ 0x01)
    (not_where : kind ≠ 0x05) (is_kind : isWandKind kind) (paused : s.campaign = .paused) :
    frameBody i s = s.reply .paused [] := by
  cases i <;> cases frame
  case badFrame => exact absurd is_kind (of_decide_eq_true fits)
  case hello => exact absurd rfl not_hello
  case whereIs => exact absurd rfl not_where
  case walkendOtherMode => exact unlessPaused_of_paused paused fun s => s.reply .badFrame []
  all_goals exact unlessPaused_of_paused paused _

/-- The refusals of CLAIM in their order. -/
theorem claim_refusals (w : Wand) (S : Nat) (s : State) (takes : s.Takes (.claim w S))
    (going : s.campaign ≠ .paused) :
    (s.campaign ≠ .running → ∃ u, Taken s (.claim w S) u .notRunning [.num16 S] []) ∧
    (s.campaign = .running →
      (∀ x c, s.walkOf w = some x → s.ctx x = some c →
        ∃ u, Taken s (.claim w S) u .holding [.num16 c.sec.val] []) ∧
      (s.walkOf w = none →
        (511 < S → ∃ u, Taken s (.claim w S) u .noSection [.num16 S] []) ∧
        ∀ T : SecId, S = T.val →
          ((s.sec T).state = .empty →
            ∃ u, Taken s (.claim w S) u .noSection [.num16 S] []) ∧
          ((s.sec T).state = .ready ∨ (s.sec T).state = .tallied →
            (∀ x : CtxId, s.ctx x ≠ none) →
            ∃ u, Taken s (.claim w S) u .noContext [.num16 S] []))) := by
  have answers {code : FrameCode} {fields : List Field}
      (body : claimBody w S (s.begun w) = (s.begun w).reply code fields) :
      ∃ u, Taken s (.claim w S) u code fields [] := by
    obtain ⟨u, taken, -⟩ := taken_reply (i := .claim w S) rfl takes
      ((unlessPaused_begun going w _).trans body)
    exact ⟨u, taken⟩
  refine ⟨fun stopped => answers ?_, fun running => ⟨fun x c walks walk => answers ?_, fun idle =>
    ⟨fun beyond => answers ?_, fun T is_sec =>
      ⟨fun empty => answers ?_, fun still busy => answers ?_⟩⟩⟩⟩
  · simp [claimBody, stopped]
  · simp [claimBody, running, State.begun_walkedSec walks walk, Field.sec]
  · simp [claimBody, running, State.begun_walkedSec_none idle, secOf_none beyond]
  · simp [claimBody, running, State.begun_walkedSec_none idle, is_sec, claimSec, empty, Field.sec]
  · have none_free : s.freeCtx = none := s.freeCtx_eq_none.mpr busy
    rcases still with still | still <;>
      simp [claimBody, running, State.begun_walkedSec_none idle, is_sec, claimSec, still, none_free,
        Field.sec]

/-- The refusals of WALKEND in their order. -/
theorem walkend_refusals (i : Instr) (w : Wand) (s : State)
    (walkend : i = .walkendComplete w ∨ i = .walkendBreak w) (takes : s.Takes i)
    (going : s.campaign ≠ .paused) :
    (s.walkOf w = none → ∃ u, Taken s i u .notWalking [] []) ∧
    (i = .walkendComplete w → ∀ x c, s.walkOf w = some x → s.ctx x = some c →
      (s.sec c.sec).revision ≠ none → ∃ u, Taken s i u .revising [.num16 c.sec.val] []) := by
  refine ⟨fun idle => ?_, fun complete x c walks walk revising => ?_⟩
  · rcases walkend with rfl | rfl
    · obtain ⟨u, taken, -⟩ := taken_reply (i := .walkendComplete w) (code := .notWalking)
        (fields := [])
        rfl takes ((unlessPaused_begun going w _).trans (by simp [walkendCompleteBody, idle]))
      exact ⟨u, taken⟩
    · obtain ⟨u, taken, -⟩ := taken_reply (i := .walkendBreak w) (code := .notWalking)
        (fields := [])
        rfl takes ((unlessPaused_begun going w _).trans (by simp [walkendBreakBody, idle]))
      exact ⟨u, taken⟩
  · subst complete
    obtain ⟨u, taken, -⟩ := taken_reply (i := .walkendComplete w) (code := .revising)
      (fields := [.num16 c.sec.val]) rfl takes ((unlessPaused_begun going w _).trans (by
        simp [walkendCompleteBody, walks, -State.ctx_begun, State.begun_walk walks walk,
          Option.isSome_iff_ne_none, revising, Field.sec]))
    exact ⟨u, taken⟩

/-- Settles O16. -/
theorem frameRefusalsComeInOrder : Obligations.FrameRefusalsComeInOrder := by
  unfold Obligations.FrameRefusalsComeInOrder
  refine ⟨fun i w kind payload s fits frame takes paused not_hello not_where low high => ?_,
    fun w kind s takes => ?_, fun w mode s takes going => ?_, fun w reads s takes going wrong => ?_,
    claim_refusals, walkend_refusals⟩
  · have body := frameBody_paused fits frame not_hello not_where ⟨low, high⟩
      ((s.begun_campaign w).trans paused)
    obtain ⟨u, taken, -⟩ := taken_reply frame takes body
    exact ⟨u, taken⟩
  · obtain ⟨u, taken, -⟩ := taken_reply (i := .badFrame w kind) rfl takes rfl
    exact ⟨u, taken⟩
  · obtain ⟨u, taken, -⟩ := taken_reply (i := .walkendOtherMode w mode) rfl takes
      (unlessPaused_begun going w fun s => s.reply .badFrame [])
    exact ⟨u, taken⟩
  · obtain ⟨u, taken, -⟩ := taken_reply (i := .sight w reads) rfl takes
      ((unlessPaused_begun going w _).trans (if_pos wrong))
    exact ⟨u, taken⟩

end Sys2Proof.Machine

/-! # Proofs: HELLO of an idle wand, KEEP, WHERE and SHELVED -/

namespace Sys2Proof.Machine

/-! ### HELLO from a wand that walks nothing (R42, R63) -/

/-- A wand that walks nothing has no lease to load. -/
theorem State.begun_contexts_idle {s : State} {w : Wand} (idle : s.walkOf w = none) :
    (s.begun w).contexts = s.contexts := by
  have still : ({ s with
      rxQueue := s.rxQueue.tail, lastFrame := s.lastFrame.set w (some s.clock) } : State).walkOf w =
      none := (State.walkOf_of_contexts rfl w).trans idle
  simp only [State.begun, State.frameTaken, State.loadLeaseOf, still]

/-- A wand that is no waiter leaves nothing in the claim queue. -/
theorem State.unclaim_of_not_waiting {s : State} {w : Wand} (free : s.waitsFor w = none) :
    s.unclaim w = s := by
  have none_waits : ∀ q ∈ s.claims, q.wand ≠ w := by simpa [State.waitsFor] using free
  have same : s.claims.filter (fun q => q.wand ≠ w) = s.claims :=
    List.filter_eq_self.mpr (by simpa using none_waits)
  rw [State.unclaim, same]

/-- The standing of a wand that walks nothing, as HELLO answers it (R180). -/
def State.helloFields (s : State) (w : Wand) : List Field :=
  (s.claims.find? fun q => q.wand = w).elim [.standing .none] fun q =>
    [.standing .waiting, .num16 q.sec.val]

theorem helloBody_idle {s : State} {w : Wand} (idle : s.walkOf w = none) :
    helloBody w s = ⟨(s.freeTable w).unclaim w, .ok, s.helloFields w⟩ := by
  rw [helloBody, idle]
  cases waits : s.claims.find? fun q => q.wand = w with
  | none =>
    have free : s.waitsFor w = none := by rw [State.waitsFor, waits]; rfl
    have free' : (s.freeTable w).waitsFor w = none := free
    simp only [free, State.unclaim_of_not_waiting free', State.helloFields, waits, Option.elim_none]
  | some q =>
    have waiting : s.waitsFor w = some q.sec := by rw [State.waitsFor, waits]; rfl
    simp only [waiting, State.helloFields, waits, Option.elim_some, Field.sec]

theorem State.table_freeTable (s : State) (w v : Wand) : (s.freeTable w).table v =
    if v = w then { s.table w with entries := Vector.replicate 24 .free } else s.table v := by
  rw [State.freeTable, State.table_setTable]

theorem freed_entry (t : CandTable) (i : Fin 24) :
    ({ t with entries := Vector.replicate 24 .free } : CandTable).entries[i] = .free := by
  show (Vector.replicate 24 Entry.free)[(i : Nat)] = .free
  simp

/-- Settles O17. -/
theorem helloFreesTheTableAndTheClaim : Obligations.HelloFreesTheTableAndTheClaim := by
  unfold Obligations.HelloFreesTheTableAndTheClaim
  intro w s takes idle
  have body : frameBody (.hello w) (s.begun w) =
      ⟨((s.begun w).freeTable w).unclaim w, .ok, (s.begun w).helloFields w⟩ :=
    helloBody_idle (by rw [State.walkOf_begun, idle])
  have tables (v : Wand) (q : List PartFrame) :
      ((((s.begun w).freeTable w).unclaim w).sending q).table v =
        if v = w then { s.table w with entries := Vector.replicate 24 .free } else s.table v := by
    show ((s.begun w).freeTable w).table v = _
    simp [State.table_freeTable]
  refine ⟨_, _, taken_body rfl takes body, ?_, fun i => ?_, ?_, fun v other => ?_, ?_⟩
  · apply State.eq_of_fields <;>
      simp [State.sending, State.freeTable, State.begun_contexts_idle idle]
  · rw [tables, if_pos rfl, freed_entry]
  · rw [tables, if_pos rfl]
  · rw [tables, if_neg other]
  · rw [State.helloFields, State.begun_claims]
    cases s.claims.find? fun q => q.wand = w with
    | none => rfl
    | some q => rfl

/-! ### KEEP and WHERE (R132, R185, R187) -/

theorem keepBody_walks {s : State} {w : Wand} {x : CtxId} {c : Context}
    (walks : s.walkOf w = some x)
    (walk : s.ctx x = some c) : keepBody w s = s.reply .ok (s.walkerFields x c) := by
  simp only [keepBody, walks, walk]

theorem keepBody_idle {s : State} {w : Wand} (idle : s.walkOf w = none) :
    keepBody w s = s.reply .ok (s.waiterFields w) := by
  simp only [keepBody, idle]

/-- A waiter's place is one more than the number of waiters before it. -/
theorem State.place_eq {s : State} {w : Wand} {n : Nat} {q : Waiter}
    (stands : s.claims[n]? = some q)
    (its : q.wand = w) (first : ∀ m p, m < n → s.claims[m]? = some p → p.wand ≠ w) :
    s.place w = n + 1 := by
  obtain ⟨inside, at_n⟩ := List.getElem?_eq_some_iff.mp stands
  have index : s.claims.findIdx (fun q => q.wand = w) = n := by
    rw [List.findIdx_eq inside]
    refine ⟨by simp [at_n, its], fun m before => ?_⟩
    simpa using first m _ before (List.getElem?_eq_getElem (before.trans inside))
  rw [State.place, index]

theorem State.waitsFor_eq {s : State} {w : Wand} {n : Nat} {q : Waiter}
    (stands : s.claims[n]? = some q)
    (its : q.wand = w) (first : ∀ m p, m < n → s.claims[m]? = some p → p.wand ≠ w) :
    s.waitsFor w = some q.sec := by
  obtain ⟨inside, at_n⟩ := List.getElem?_eq_some_iff.mp stands
  have found : s.claims.find? (fun q => q.wand = w) = some q := by
    rw [List.find?_eq_some_iff_getElem]
    refine ⟨by simp [its], n, inside, at_n, fun m before => ?_⟩
    simpa using first m _ before (List.getElem?_eq_getElem (before.trans inside))
  rw [State.waitsFor, found]
  rfl

/-- The answer of KEEP (R187). -/
theorem keep_answers (w : Wand) (s : State) (takes : s.Takes (.keep w))
    (going : s.campaign ≠ .paused) :
    ∃ u fields, Taken s (.keep w) u .ok fields [] ∧ Taking s w u ∧
      (∀ x c, s.walkOf w = some x → s.ctx x = some c →
        fields = [.standing .walking, .num16 c.sec.val, .num8 x.val, .num16 c.cursor,
          .num16 (s.sec c.sec).expected.length, .num8 c.run.length, .num8 c.park.length,
          .flag (s.sec c.sec).revision.isSome]) ∧
      (s.walkOf w = none → fields = s.waiterFields w) := by
  have answers {fields : List Field} (body : keepBody w (s.begun w) =
    (s.begun w).reply .ok fields) :
      ∃ u, Taken s (.keep w) u .ok fields [] ∧ Taking s w u :=
    taken_reply (i := .keep w) rfl takes ((unlessPaused_begun going w _).trans body)
  cases walks : s.walkOf w with
  | none =>
    obtain ⟨u, taken, only⟩ := answers (keepBody_idle (by rw [State.walkOf_begun, walks]))
    refine ⟨u, _, taken, only, nofun, fun _ => ?_⟩
    simp [State.waiterFields]
  | some x =>
    obtain ⟨c, walk, -⟩ := s.walkOf_eq_some walks
    obtain ⟨u, taken, only⟩ := answers
      (keepBody_walks (by rw [State.walkOf_begun, walks]) (State.begun_walk walks walk))
    refine ⟨u, _, taken, only, fun x' c' same walk' => ?_, nofun⟩
    cases same
    cases walk.symm.trans walk'
    simp [State.walkerFields, State.length, Field.sec]

/-- Settles O19. -/
theorem keepAndWhereAnswerAndChangeNothing : Obligations.KeepAndWhereAnswerAndChangeNothing := by
  unfold Obligations.KeepAndWhereAnswerAndChangeNothing
  refine ⟨fun w s takes going => ?_, fun w t s takes => ?_⟩
  · obtain ⟨u, fields, taken, ⟨only, ctx⟩, walks, idle⟩ := keep_answers w s takes going
    refine ⟨u, fields, taken, only, ctx, walks, fun n q not_walking stands its first => ?_,
      fun not_walking none_waits => ?_⟩
    · rw [idle not_walking, State.waiterFields, State.waitsFor_eq stands its first,
        State.place_eq stands its first]
      rfl
    · have free : s.waitsFor w = none := by simpa [State.waitsFor] using none_waits
      rw [idle not_walking, State.waiterFields, free]
  · have answers {code : FrameCode} {fields : List Field}
        (body : whereBody t (s.begun w) = (s.begun w).reply code fields) :
        ∃ u, Taken s (.whereIs w t) u code fields [] ∧ Taking s w u :=
      taken_reply (i := .whereIs w t) rfl takes body
    cases found : s.item? t with
    | none =>
      obtain ⟨u, taken, only, ctx⟩ := answers (code := .noItem) (fields := [])
        (by simp [whereBody, found])
      exact ⟨u, _, _, taken, only, ctx, rfl, rfl⟩
    | some r =>
      cases home : r.home with
      | none =>
        obtain ⟨u, taken, only, ctx⟩ := answers (code := .noHome) (fields := [.secOpt r.foundIn])
          (by simp [whereBody, found, home])
        refine ⟨u, _, _, taken, only, ctx, ?_⟩
        simp [home, Field.secOpt, Item.foundIn, Function.comp_def]
      | some H =>
        obtain ⟨u, taken, only, ctx⟩ := answers (code := .ok)
          (fields := [.sec H, .num16 (s.ordinal H t),
            .count r.count, .tagOpt (s.tagBelow H (s.ordinal H t)),
            .tagOpt (s.sec H).expected[s.ordinal H t + 1]?])
          (by simp [whereBody, found, home, State.tagBelow])
        refine ⟨u, _, _, taken, only, ctx, ?_⟩
        dsimp only
        rw [home]
        exact ⟨_, rfl, rfl, rfl⟩

end Sys2Proof.Machine

/-! # Proofs: SHELVED, and CLAIM by a wand that walks nothing -/

namespace Sys2Proof.Machine

/-! ### SHELVED (R129, R130) -/

/-- What SHELVED makes of a section: a stray leaves its chain, and the sections concerned are
bumped. -/
theorem State.sec_shelve_of_home (s : State) (H : SecId) {r : Item} (known : r.count ≠ .unlisted)
    (X : SecId) : (s.shelve H r).sec X =
      if r.count = .elsewhere ∧ r.foundIn = some X then
        { s.sec X with
          chain := (s.sec X).chain.filter fun t => t ≠ r.tag
          generation := (s.sec X).generation + 1 }
      else if X = H ∧ r.count ≠ .inPlace then
        { s.sec X with generation := (s.sec X).generation + 1 }
      else s.sec X := by
  have on_chain : r.chainSec = some X ↔ r.count = .elsewhere ∧ r.foundIn = some X := by
    simp [Item.chainSec, known]
  rw [State.sec_shelve]
  by_cases stray : r.count = .elsewhere ∧ r.foundIn = some X
  · simp [on_chain, stray]
  · by_cases moves : X = H ∧ r.count ≠ .inPlace
    · rw [if_neg stray, if_pos moves, if_neg (mt on_chain.mp stray), if_pos (.inl moves)]
    · simp only [on_chain, stray, moves, if_false, or_self, add_zero]

theorem State.shelve_only (s : State) (H : SecId) (r : Item) : ListsOnly s (s.shelve H r) :=
  ((State.leavePlace_only r).trans (State.modItem_only _ _)).trans (State.bumpWhere_only _)

/-- A frame that changes only records, sections and walks changes nothing else beyond the taking. -/
theorem ListsOnly.taken {s v : State} {w : Wand} (only : ListsOnly (s.begun w) v)
    (q : List PartFrame) :
    v.sending q = { s with
      items := v.items
      sections := v.sections
      contexts := v.contexts
      lastFrame := v.lastFrame
      rxQueue := v.rxQueue
      sendQueue := q } := by
  unfold ListsOnly at only
  rw [only]
  apply State.eq_of_fields <;> simp [State.sending]

theorem shelvedBody_found {s : State} {t : Tag} {r : Item} {H : SecId}
    (running : s.campaign = .running)
    (found : s.item? t = some r) (home : r.home = some H) (free : r.count ≠ .held) :
    shelvedBody t s = ⟨s.shelve H r, .ok, [.sec H, .num16 (s.ordinal H t), .count r.count]⟩ := by
  simp [shelvedBody, running, found, home, free]

/-- Settles O20. -/
theorem shelvedPutsTheVolumeInPlace : Obligations.ShelvedPutsTheVolumeInPlace := by
  unfold Obligations.ShelvedPutsTheVolumeInPlace
  intro w t s takes going
  have answers {code : FrameCode} {fields : List Field}
      (body : shelvedBody t (s.begun w) = (s.begun w).reply code fields) :
      ∃ u, Taken s (.shelved w t) u code fields [] := by
    obtain ⟨u, taken, -⟩ := taken_reply (i := .shelved w t) rfl takes
      ((unlessPaused_begun going w _).trans body)
    exact ⟨u, taken⟩
  by_cases running : s.campaign = .running
  case neg =>
    obtain ⟨u, taken⟩ := answers (code := .notRunning) (fields := []) (by
      cases st : s.campaign <;> simp_all [shelvedBody])
    exact ⟨u, _, _, taken, by rw [if_pos running]; exact ⟨rfl, rfl⟩⟩
  have is_running : ¬ s.campaign ≠ .running := not_not.mpr running
  cases found : s.item? t with
  | none =>
    obtain ⟨u, taken⟩ := answers (code := .noItem) (fields := [])
      (by simp [shelvedBody, running, found])
    exact ⟨u, _, _, taken, by rw [if_neg is_running]; exact ⟨rfl, rfl⟩⟩
  | some r =>
    cases home : r.home with
    | none =>
      obtain ⟨u, taken⟩ := answers (code := .noHome) (fields := [])
        (by simp [shelvedBody, running, found, home])
      refine ⟨u, _, _, taken, ?_⟩
      rw [if_neg is_running]
      dsimp only
      rw [home]
      exact ⟨rfl, rfl⟩
    | some H =>
      by_cases held : r.count = .held
      · obtain ⟨u, taken⟩ := answers (code := .heldItem) (fields := [])
          (by simp [shelvedBody, running, found, home, held])
        refine ⟨u, _, _, taken, ?_⟩
        rw [if_neg is_running]
        dsimp only
        rw [home]
        exact (if_pos held).mpr ⟨rfl, rfl⟩
      · have body := shelvedBody_found (s := s.begun w) (by simpa using running)
          (by simpa using found)
          home held
        have contexts := State.shelve_contexts (s := s.begun w) H held
        have queue := State.shelve_sendQueue (s.begun w) H r
        have taken := taken_body (i := .shelved w t) rfl takes
          ((unlessPaused_begun going w _).trans body)
        dsimp only at taken
        rw [queue, State.begun_sendQueue] at taken
        obtain rfl := s.item_tag found
        refine ⟨_, _, _, taken, ?_⟩
        rw [if_neg is_running]
        dsimp only
        rw [home]
        refine (if_neg held).mpr ?_
        refine ⟨rfl, by simp [Field.sec], ?_, fun x => ?_, ?_, fun t' other => ?_,
          fun known X => ?_⟩
        · exact (State.shelve_only _ H r).taken _
        · exact (State.ctx_of_contexts contexts x).trans (State.ctx_begun s w x)
        · show ((s.begun w).shelve H r).item? r.tag = _
          rw [State.item_shelve, if_pos rfl]
          simp [found, home]
        · show ((s.begun w).shelve H r).item? t' = _
          rw [State.item_shelve, if_neg other, State.begun_item_eq]
        · show ((s.begun w).shelve H r).sec X = _
          rw [State.sec_shelve_of_home _ H known, State.begun_sec_eq]

end Sys2Proof.Machine

/-! # Proofs: CLAIM, and a walk suspended and resumed -/

namespace Sys2Proof.Machine

/-! ### CLAIM by a wand that walks nothing (R50 to R52) -/

theorem claimBody_idle {s : State} {w : Wand} (running : s.campaign = .running)
    (idle : s.walkOf w = none) (S : SecId) : claimBody w S.val s = claimSec w S s := by
  simp [claimBody, running, State.walkedSec, idle]

theorem taken_claim {w : Wand} {S : SecId} {s : State} {a : Answer}
    (takes : s.Takes (.claim w S.val))
    (running : s.campaign = .running) (idle : s.walkOf w = none)
    (body : claimSec w S (s.begun w) = a) :
    Taken s (.claim w S.val)
      (a.state.sending (s.sendQueue ++ .answer w 0x03 a.code a.fields :: a.state.sendQueue))
      a.code a.fields a.state.sendQueue := by
  refine taken_body (i := .claim w S.val) rfl takes ?_
  refine (unlessPaused_begun (by rw [running]; exact nofun) w _).trans ?_
  rw [claimBody_idle (by rw [State.begun_campaign, running])
    (by rw [State.walkOf_begun, idle]), body]

/-- The first of a wand's places in a queue that it has just joined at the tail. -/
theorem joined_place {claims : List Waiter} {w : Wand} {S : SecId} :
    ((claims.filter fun q => q.wand ≠ w) ++ [⟨w, S⟩])[(claims.filter fun q => q.wand ≠ w).length]? =
      some ⟨w, S⟩ ∧
    ∀ m q, m < (claims.filter fun q => q.wand ≠ w).length →
      ((claims.filter fun q => q.wand ≠ w) ++ [⟨w, S⟩])[m]? = some q → q.wand ≠ w := by
  refine ⟨by simp, fun m q before stands => ?_⟩
  rw [List.getElem?_append_left before] at stands
  simpa using (List.mem_filter.mp (List.mem_of_getElem? stands)).2

/-- A waiter stands at the first of its places. -/
theorem exists_place {claims : List Waiter} {w : Wand} {S : SecId}
    (waits : (claims.find? fun q => q.wand = w).map Waiter.sec = some S) :
    ∃ n : Nat, claims[n]? = some ⟨w, S⟩ ∧ ∀ m q, m < n → claims[m]? = some q → q.wand ≠ w := by
  obtain ⟨⟨v, T⟩, found, rfl⟩ := Option.map_eq_some_iff.mp waits
  obtain ⟨its, n, inside, at_n, first⟩ := List.find?_eq_some_iff_getElem.mp found
  obtain rfl : v = w := by simpa using its
  refine ⟨n, List.getElem?_eq_some_iff.mpr ⟨inside, at_n⟩, fun m q before stands => ?_⟩
  obtain ⟨_, rfl⟩ := List.getElem?_eq_some_iff.mp stands
  simpa using first m before

/-- A wand that claims a WALKING section stands in the queue, once (R52). -/
theorem State.enqueue_place (s : State) (w : Wand) (S : SecId) :
    ∃ n : Nat, (s.enqueue w S).claims[n]? = some ⟨w, S⟩ ∧
      ∀ m q, m < n → (s.enqueue w S).claims[m]? = some q → q.wand ≠ w := by
  unfold State.enqueue
  split
  next waits => exact exists_place waits
  next => exact ⟨_, joined_place⟩

theorem State.enqueue_eq (s : State) (w : Wand) (S : SecId) : s.enqueue w S = { s with
    claims := if s.waitsFor w = some S then s.claims
      else (s.claims.filter fun q => q.wand ≠ w) ++ [⟨w, S⟩] } := by
  unfold State.enqueue
  split <;> rfl

theorem State.leaseLoaded_idle {s : State} {w : Wand} (idle : s.walkOf w = none) (x : CtxId) :
    s.leaseLoaded w x = s.ctx x := by
  rw [State.leaseLoaded, idle]
  exact if_neg nofun

/-- Settles O21. -/
theorem claimGrantsResumesOrQueues : Obligations.ClaimGrantsResumesOrQueues := by
  unfold Obligations.ClaimGrantsResumesOrQueues
  intro w S s takes running idle
  have same_ctx (x : CtxId) : (s.begun w).ctx x = s.ctx x := by
    rw [State.ctx_begun, State.leaseLoaded_idle idle]
  have contexts := State.begun_contexts_idle idle
  refine ⟨fun still x free least => ?_, fun suspended x c names walk => ?_, fun walking => ?_⟩
  · have free_ctx : s.freeCtx = some x := s.freeCtx_eq_some.mpr ⟨free, least⟩
    have body : claimSec w S (s.begun w) = ⟨((s.begun w).unclaim w).startWalk x S w, .granted,
        [.num16 S.val, .num8 x.val, .flag false]⟩ := by
      rcases still with still | still <;> simp [claimSec, still, free_ctx, Field.sec]
    refine ⟨_, taken_claim takes running idle body, ?_, ?_, fun y other => ?_, ?_,
      fun X other => ?_⟩
    · apply State.eq_of_fields <;> simp [State.sending]
    · show (((s.begun w).unclaim w).startWalk x S w).ctx x = _
      rw [State.ctx_startWalk, if_pos rfl]
      simp [State.newContext, State.fullLease]
    · show (((s.begun w).unclaim w).startWalk x S w).ctx y = _
      rw [State.ctx_startWalk, if_neg other]
      exact same_ctx y
    · show (((s.begun w).unclaim w).startWalk x S w).sec S = _
      simp
    · show (((s.begun w).unclaim w).startWalk x S w).sec X = _
      simp [other]
  · have body : claimSec w S (s.begun w) = ⟨((s.begun w).unclaim w).resumeWalk x S w, .granted,
        [.num16 S.val, .num8 x.val, .flag true]⟩ := by
      simp [claimSec, suspended, names, Field.sec]
    refine ⟨_, taken_claim takes running idle body, ?_, ?_, fun y other => ?_, ?_,
      fun X other => ?_⟩
    · apply State.eq_of_fields <;> simp [State.sending]
    · show (((s.begun w).unclaim w).resumeWalk x S w).ctx x = _
      rw [State.ctx_resumeWalk, if_pos rfl, State.unclaim_ctx_eq, same_ctx, walk]
      simp [State.fullLease]
    · show (((s.begun w).unclaim w).resumeWalk x S w).ctx y = _
      rw [State.ctx_resumeWalk, if_neg other]
      exact same_ctx y
    · show (((s.begun w).unclaim w).resumeWalk x S w).sec S = _
      simp
    · show (((s.begun w).unclaim w).resumeWalk x S w).sec X = _
      simp [other]
  · obtain ⟨n, stands, first⟩ := (s.begun w).enqueue_place w S
    have place : ((s.begun w).enqueue w S).place w = n + 1 := State.place_eq stands rfl first
    have body : claimSec w S (s.begun w) = ⟨(s.begun w).enqueue w S, .queued,
        [.num16 S.val, .num8 (n + 1)]⟩ := by
      simp [claimSec, walking, place, Field.sec]
    have sent : ((s.begun w).enqueue w S).sendQueue = [] := by rw [State.enqueue_eq]; rfl
    have taken := taken_claim takes running idle body
    dsimp only at taken
    rw [sent] at taken
    refine ⟨_, n, taken, ?_, stands, first⟩
    rw [State.enqueue_eq]
    apply State.eq_of_fields <;> simp [State.sending, contexts]

end Sys2Proof.Machine

/-! # Proofs: suspended walks, and the waiter that resumes one -/

namespace Sys2Proof.Machine

/-! ### The grant of a suspended walk (R54) -/

/-- What the release of the suspended walk `c` in `x` makes of the state, and the notices it makes
ready: nothing with no waiter, and otherwise a resume by the oldest one. -/
structure Resumed (v : State) (x : CtxId) (c : Context) (u : State)
    (notices : List PartFrame) : Prop where
  only : u = { v with
    sections := u.sections
    contexts := u.contexts
    claims := u.claims
    sendQueue := v.sendQueue ++ notices }
  ctx : ∀ y : CtxId, y ≠ x → u.ctx y = v.ctx y
  sec : ∀ S : SecId, S ≠ c.sec → u.sec S = v.sec S
  grant : match v.claims.find? fun q => q.sec = c.sec with
    | none => notices = [] ∧ u.claims = v.claims ∧ u.ctx x = v.ctx x ∧ u.sec c.sec = v.sec c.sec
    | some q =>
      notices = [.grant q.wand c.sec true x] ∧
      u.claims = v.claims.filter (fun p => p.wand ≠ q.wand) ∧
      u.ctx x = (v.ctx x).map
        (fun d => { d with walker := some q.wand, lease := some v.fullLease }) ∧
      u.sec c.sec = { v.sec c.sec with
        state := .walking, generation := (v.sec c.sec).generation + 1 }

theorem State.grantNext_resumed {v : State} {x : CtxId} {c : Context}
    (suspended : (v.sec c.sec).state = .suspended)
    (names : (v.sec c.sec).context = some x ∨ ∀ q ∈ v.claims, q.sec ≠ c.sec) :
    ∃ notices, Resumed v x c (v.grantNext c.sec) notices := by
  cases waits : v.claims.find? fun q => q.sec = c.sec with
  | none =>
    have none_waits : ∀ q ∈ v.claims, q.sec ≠ c.sec := by simpa using waits
    rw [v.grantNext_none none_waits]
    refine ⟨[], ?_, fun _ _ => rfl, fun _ _ => rfl, ?_⟩
    · rw [List.append_nil]
    · rw [waits]
      exact ⟨rfl, rfl, rfl, rfl⟩
  | some q =>
    have names : (v.sec c.sec).context = some x := by
      refine names.resolve_right fun none_waits => none_waits q (List.mem_of_find?_eq_some waits) ?_
      simpa using List.find?_some waits
    rw [v.grantNext_resume waits suspended names]
    refine ⟨[.grant q.wand c.sec true x], ?_, fun y other => ?_, fun S other => ?_, ?_⟩
    · apply State.eq_of_fields <;> simp
    · simp [other]
    · simp [other]
    · rw [waits]
      refine ⟨rfl, by simp, ?_, by simp⟩
      rw [State.makeReady_ctx_eq, State.ctx_resumeWalk, if_pos rfl, State.unclaim_ctx_eq]
      rfl

/-! ### WALKEND BREAK and HELLO from a walker (R58, R61, R63) -/

/-- The answer fields of a frame that suspends its walker's walk (R180, R184). -/
def suspendFields (i : Instr) (S : SecId) : List Field :=
  match i with
  | .hello _ => [.standing .walking, .num16 S.val]
  | _ => [.num16 S.val, .num8 2]

/-- The state in which a frame suspends its walker's walk: HELLO frees the wand's table first. -/
def State.suspending (s : State) (i : Instr) (w : Wand) : State :=
  match i with
  | .hello _ => (s.begun w).freeTable w
  | _ => s.begun w

theorem frameBody_suspends {i : Instr} {w : Wand} {x : CtxId} {c : Context} {s : State}
    (frame : (i = .walkendBreak w ∧ s.campaign ≠ .paused) ∨ i = .hello w)
    (walks : s.walkOf w = some x) (walk : s.ctx x = some c) :
    ∃ d : Context, (s.begun w).ctx x = some d ∧ d = { c with lease := d.lease } ∧
      frameBody i (s.begun w) = ⟨((s.suspending i w).suspend x d w).grantNext d.sec, .ok,
        suspendFields i c.sec⟩ := by
  refine ⟨_, State.begun_walk walks walk, rfl, ?_⟩
  have begun := State.begun_walk walks walk
  rcases frame with ⟨rfl, going⟩ | rfl
  · refine (unlessPaused_begun going w _).trans ?_
    simp only [walkendBreakBody, State.walkOf_begun, walks, begun]
    rfl
  · show helloBody w (s.begun w) = _
    simp only [helloBody, State.walkOf_begun, walks, begun]
    rfl

/-- Entries after the release of a wand's WAITING entries (R41). -/
theorem State.entry_releaseWaiting (s : State) (w : Wand) (k : Fin 24) :
    ((s.releaseWaiting w).table w).entries[k] =
      (s.table w).entries[k].release s.settings.holdTicks := by
  rw [State.table_releaseWaiting, if_pos rfl]
  exact getElem_tabulate _ _ _

section Suspending
variable {s : State} {i : Instr} {w : Wand}

theorem State.suspending_eq (frame : i = .walkendBreak w ∨ i = .hello w) :
    s.suspending i w = { s.begun w with tables := (s.suspending i w).tables } := by
  rcases frame with rfl | rfl <;> rfl

/-- Suspending a walk changes no table but its walker's. -/
theorem State.table_suspending_of_ne (frame : i = .walkendBreak w ∨ i = .hello w) {v : Wand}
    (other : v ≠ w) : ((s.suspending i w).releaseWaiting w).table v = s.table v := by
  rw [State.table_releaseWaiting, if_neg other]
  rcases frame with rfl | rfl
  · exact s.begun_table_eq w v
  · show ((s.begun w).freeTable w).table v = _
    rw [State.table_freeTable, if_neg other, State.begun_table_eq]

theorem State.table_suspending (frame : i = .walkendBreak w ∨ i = .hello w) :
    ((s.suspending i w).releaseWaiting w).table w = { s.table w with
      entries := (((s.suspending i w).releaseWaiting w).table w).entries } := by
  rw [State.table_releaseWaiting, if_pos rfl]
  rcases frame with rfl | rfl
  · show ({ (s.begun w).table w with entries := _ } : CandTable) = _
    rw [State.begun_table_eq]
  · show ({ ((s.begun w).freeTable w).table w with entries := _ } : CandTable) = _
    rw [State.table_freeTable, if_pos rfl, State.begun_table_eq]

theorem State.entry_suspending_hello (k : Fin 24) :
    (((s.suspending (.hello w) w).releaseWaiting w).table w).entries[k] = .free := by
  rw [State.entry_releaseWaiting]
  show (((s.begun w).freeTable w).table w).entries[k].release _ = _
  rw [State.table_freeTable, if_pos rfl, freed_entry]
  rfl

theorem State.entry_suspending_break (k : Fin 24) :
    (((s.suspending (.walkendBreak w) w).releaseWaiting w).table w).entries[k] =
      (s.table w).entries[k].release s.settings.holdTicks := by
  rw [State.entry_releaseWaiting]
  show ((s.begun w).table w).entries[k].release (s.begun w).settings.holdTicks = _
  rw [State.begun_table_eq, State.begun_settings]

end Suspending

/-- A frame changes only the engine's parts of the state beyond the taking. -/
theorem SameOutside.taken {s v : State} {w : Wand} (same : SameOutside (s.begun w) v)
    (q : List PartFrame) : v.sending q = { s with
      items := v.items
      sections := v.sections
      tables := v.tables
      claims := v.claims
      contexts := v.contexts
      watch := v.watch
      events := v.events
      lastFrame := v.lastFrame
      rxQueue := v.rxQueue
      sendQueue := q } := by
  rw [same.eq]
  apply State.eq_of_fields <;> simp [State.sending]

/-- Settles O18. -/
theorem breakAndHelloSuspendTheWalk : Obligations.BreakAndHelloSuspendTheWalk := by
  unfold Obligations.BreakAndHelloSuspendTheWalk
  intro i w x c s frame takes walks walk names
  have kind : i = .walkendBreak w ∨ i = .hello w := frame.imp And.left id
  obtain ⟨d, begun, d_eq, body⟩ := frameBody_suspends frame walks walk
  have d_sec : d.sec = c.sec := by rw [d_eq]
  have packet : ∃ code payload, wandFrame i = some (w, code, payload) := by
    rcases kind with rfl | rfl <;> exact ⟨_, _, rfl⟩
  obtain ⟨code, payload, packet⟩ := packet
  let t := s.suspending i w
  have t_eq : t = { s.begun w with tables := t.tables } := State.suspending_eq kind
  have t_ctx (y : CtxId) : t.ctx y = s.leaseLoaded w y :=
    (State.ctx_of_contexts (congrArg State.contexts t_eq) y).trans (s.ctx_begun w y)
  have t_sec (X : SecId) : t.sec X = s.sec X :=
    (State.sec_of_sections (congrArg State.sections t_eq) X).trans (s.begun_sec_eq w X)
  have t_claims : t.claims = s.claims := (congrArg State.claims t_eq).trans (s.begun_claims w)
  obtain ⟨notices, granted⟩ := State.grantNext_resumed (v := t.suspend x d w) (x := x) (c := d)
    (by simp) (by simpa [t_sec, t_claims, d_sec] using names)
  have taken := taken_body packet takes body
  dsimp only at taken
  have same := frameBody_same i (s.begun w)
  rw [body] at same
  dsimp only at same
  obtain ⟨u, is_u⟩ : ∃ u, u = (t.suspend x d w).grantNext d.sec := ⟨_, rfl⟩
  change SameOutside _ ((t.suspend x d w).grantNext d.sec) at same
  change Taken s i (((t.suspend x d w).grantNext d.sec).sending _) _ _ _ at taken
  rw [← is_u] at same taken granted
  obtain ⟨only, ctx, sec, grant⟩ := granted
  have queue : u.sendQueue = notices := by
    rw [only]
    show (t.suspend x d w).sendQueue ++ notices = notices
    rw [State.suspend_sendQueue, t_eq]
    rfl
  have items : u.items = s.items := by
    rw [only]
    exact (congrArg State.items t_eq).trans (s.begun_items w)
  have watch : u.watch = s.watch := by
    rw [only]
    exact (congrArg State.watch t_eq).trans (s.begun_watch w)
  have events : u.events = s.events := by
    rw [only]
    exact (congrArg State.events t_eq).trans (s.begun_events w)
  have tables : u.tables = (t.releaseWaiting w).tables := by rw [only]; rfl
  have table (v : Wand) : u.table v = (t.releaseWaiting w).table v := by
    rw [State.table, tables]; rfl
  rw [queue] at taken
  refine ⟨_, _, _, taken, ?_, fun y other => ?_, fun S other => ?_, fun v other => ?_, ?_,
    fun hello => ?_, fun isBreak => ?_, ?_⟩
  · refine (same.taken _).trans ?_
    rw [items, watch, events]
    rfl
  · refine (ctx y other).trans ?_
    rw [State.ctx_suspend, if_neg other, t_ctx, State.leaseLoaded, walks, if_neg]
    exact fun same => other (Option.some.inj same).symm
  · refine (sec S (d_sec ▸ other)).trans ?_
    rw [State.sec_suspend, if_neg (d_sec ▸ other), t_sec]
  · exact (table v).trans (State.table_suspending_of_ne kind other)
  · show u.table w = { s.table w with entries := (u.table w).entries }
    rw [table]
    exact State.table_suspending kind
  · subst hello
    refine ⟨rfl, fun k => ?_⟩
    show (u.table w).entries[k] = _
    rw [table]
    exact State.entry_suspending_hello k
  · subst isBreak
    refine ⟨rfl, fun k => ?_⟩
    show (u.table w).entries[k] = _
    rw [table]
    refine (State.entry_suspending_break k).trans ?_
    cases (s.table w).entries[k] <;> rfl
  · have lease : t.fullLease = s.settings.leaseInterval * 1000 :=
      congrArg (fun k => k.leaseInterval * 1000)
        ((congrArg State.settings t_eq).trans (s.begun_settings w))
    have suspended_ctx : (t.suspend x d w).ctx x =
      some { c with walker := none, lease := none } := by
      rw [State.ctx_suspend, if_pos rfl, t_ctx, ← State.ctx_begun, begun, d_eq]
      rfl
    rw [State.suspend_claims, t_claims, d_sec] at grant
    revert grant
    cases s.claims.find? fun q => q.sec = c.sec with
    | none =>
      rintro ⟨none_sent, claims, ctx_x, sec_c⟩
      refine ⟨none_sent, claims, ctx_x.trans suspended_ctx, sec_c.trans ?_⟩
      rw [State.sec_suspend, d_sec, if_pos rfl, t_sec]
    | some q =>
      rintro ⟨sent, claims, ctx_x, sec_c⟩
      refine ⟨sent, claims, ctx_x.trans ?_, sec_c.trans ?_⟩
      · rw [suspended_ctx]
        exact congrArg (fun l => some { c with walker := some q.wand, lease := some l }) lease
      · rw [State.sec_suspend, d_sec, if_pos rfl, t_sec, BitVec.add_assoc]
        rfl

end Sys2Proof.Machine

/-! # Proofs: the expiry of a lease -/

namespace Sys2Proof.Machine

theorem exec_leaseExpiry {s : State} (released : s.resetAsserted = false) (x : CtxId) :
    exec (.leaseExpiry x) s = .next (atEnd (s.leaseOver x) (expireLease x) s) :=
  congrArg Host.Outcome.next (unlessReset_released released _)

/-- A walk suspended by its lease, its walker told, before the grant (R58, steps 1 to 4). -/
def State.leaseEnded (s : State) (x : CtxId) (c : Context) (w : Wand) : State :=
  ((s.suspend x c w).makeReady (.suspended w c.sec)).raise .leaseExpired

theorem expireLease_eq {s : State} {x : CtxId} {c : Context} {w : Wand} (walk : s.ctx x = some c)
    (walker : c.walker = some w) : expireLease x s = (s.leaseEnded x c w).grantNext c.sec := by
  rw [expireLease, walk]
  simp only [walker]
  rfl

section LeaseEnded
variable (s : State) (x y : CtxId) (c : Context) (w : Wand) (X : SecId)

theorem State.sec_leaseEnded : (s.leaseEnded x c w).sec X =
    if X = c.sec then
      { s.sec c.sec with state := .suspended, generation := (s.sec c.sec).generation + 1 }
    else s.sec X := s.sec_suspend x c w X

theorem State.ctx_leaseEnded : (s.leaseEnded x c w).ctx y =
    if y = x then (s.ctx x).map fun d => { d with walker := none, lease := none } else s.ctx y :=
  s.ctx_suspend x y c w

end LeaseEnded

/-- Settles O33. -/
theorem leaseExpirySuspendsAndGrants : Obligations.LeaseExpirySuspendsAndGrants := by
  unfold Obligations.LeaseExpirySuspendsAndGrants
  refine ⟨fun x s released still => ?_, fun x c w s released running walk walker out names => ?_⟩
  · have not_out : s.leaseOver x = false := by
      refine Bool.eq_false_iff.mpr fun out => ?_
      obtain ⟨running, c, walk, held, zero⟩ := (s.leaseOver_iff x).mp out
      rcases still with stopped | still
      · exact stopped running
      · rcases still c walk with idle | time
        · rw [idle] at held
          cases held
        · exact time zero
    rw [exec_leaseExpiry released, not_out, atEnd_false]
  · have is_out : s.leaseOver x = true :=
      (s.leaseOver_iff x).mpr ⟨running, c, walk, by rw [walker]; rfl, out⟩
    obtain ⟨notices, only, ctx, sec, grant⟩ := State.grantNext_resumed (v := s.leaseEnded x c w)
      (x := x) (c := c) (by rw [State.sec_leaseEnded, if_pos rfl])
      (.inl (by rw [State.sec_leaseEnded, if_pos rfl]; exact names))
    refine ⟨(s.leaseEnded x c w).grantNext c.sec, ?_, ?_, ?_⟩
    · rw [exec_leaseExpiry released, is_out, atEnd_true, expireLease_eq walk walker]
    · rw [only]
      rfl
    have table (v : Wand) : ((s.leaseEnded x c w).grantNext c.sec).table v =
        (s.releaseWaiting w).table v := by
      rw [only]
      exact s.table_suspend x c w v
    have queue : ((s.leaseEnded x c w).grantNext c.sec).sendQueue =
        s.sendQueue ++ [.suspended w c.sec] ++ notices := by
      rw [only]
      rfl
    have suspended_ctx : (s.leaseEnded x c w).ctx x =
      some { c with walker := none, lease := none } := by
      rw [State.ctx_leaseEnded, if_pos rfl, walk]
      rfl
    have suspended_sec : (s.leaseEnded x c w).sec c.sec = { s.sec c.sec with
        state := .suspended, generation := (s.sec c.sec).generation + 1 } := by
      rw [State.sec_leaseEnded, if_pos rfl]
    refine ⟨fun k => ?_, fun v other => ?_, ?_, fun y other => ?_, fun S other => ?_, ?_⟩
    · rw [table, State.entry_releaseWaiting]
      cases (s.table w).entries[k] <;> rfl
    · rw [table, State.table_releaseWaiting, if_neg other]
    · rw [table, State.table_releaseWaiting, if_pos rfl]
    · rw [ctx y other, State.ctx_leaseEnded, if_neg other]
    · rw [sec S other, State.sec_leaseEnded, if_neg other]
    · have claims : (s.leaseEnded x c w).claims = s.claims := rfl
      rw [claims] at grant
      revert grant
      cases s.claims.find? fun q => q.sec = c.sec with
      | none =>
        rintro ⟨none_sent, kept, ctx_x, sec_c⟩
        refine ⟨?_, kept, ctx_x.trans suspended_ctx, sec_c.trans suspended_sec⟩
        rw [queue, none_sent, List.append_nil]
      | some q =>
        rintro ⟨sent, kept, ctx_x, sec_c⟩
        refine ⟨?_, kept, ctx_x.trans ?_, sec_c.trans ?_⟩
        · rw [queue, sent, List.append_assoc]
          rfl
        · rw [suspended_ctx]
          rfl
        · rw [suspended_sec, BitVec.add_assoc]
          rfl

end Sys2Proof.Machine

/-! # Proofs: completions, and the waiter that begins a new walk -/

namespace Sys2Proof.Machine

/-! ### The grant of a new walk (R48, R54) -/

/-- The context of a new walk of a section by a wand (R48). -/
def beginning (s : State) (S : SecId) (w : Wand) : Context :=
  { sec := S, walker := some w, cursor := 0, run := [], park := [],
    lease := some (s.settings.leaseInterval * 1000), markHit := false }

/-- What the release of a section whose walk has ended makes of the state `v`, and the notices it
makes ready: nothing with no waiter, and otherwise a new walk by the oldest one. -/
structure Regranted (v : State) (S : SecId) (u : State) (notices : List PartFrame) : Prop where
  only : u = { v with
    sections := u.sections
    contexts := u.contexts
    claims := u.claims
    sendQueue := v.sendQueue ++ notices }
  sec : ∀ X : SecId, X ≠ S → u.sec X = v.sec X
  none_waits : (∀ q ∈ v.claims, q.sec ≠ S) → notices = [] ∧ u = v
  granted : ∀ q, (v.claims.find? fun q => q.sec = S) = some q →
    ∃ y : CtxId, v.ctx y = none ∧ (∀ z : CtxId, z < y → v.ctx z ≠ none) ∧
      notices = [.grant q.wand S false y] ∧
      u.claims = v.claims.filter (fun p => p.wand ≠ q.wand) ∧
      (∀ z : CtxId, u.ctx z = if z = y then some (beginning v S q.wand) else v.ctx z) ∧
      u.sec S = { v.sec S with
        state := .walking, context := some y, generation := (v.sec S).generation + 1 }

theorem State.grantNext_regranted {v : State} {x : CtxId} {S : SecId}
    (free : v.ctx x = none) (ended : (v.sec S).state ≠ .suspended) :
    ∃ notices, Regranted v S (v.grantNext S) notices := by
  cases waits : v.claims.find? fun q => q.sec = S with
  | none =>
    have none_waits : ∀ q ∈ v.claims, q.sec ≠ S := by simpa using waits
    rw [v.grantNext_none none_waits]
    refine ⟨[], ?_, fun _ _ => rfl, fun _ => ⟨rfl, rfl⟩, fun q found => ?_⟩
    · rw [List.append_nil]
    · rw [waits] at found
      cases found
  | some q =>
    obtain ⟨y, lowest, free, least⟩ := v.freeCtx_exists free
    rw [v.grantNext_fresh waits ended lowest]
    refine ⟨[.grant q.wand S false y], ?_, fun X other => by simp [other], fun none_waits => ?_,
      fun p found => ?_⟩
    · apply State.eq_of_fields <;> simp
    · exact absurd (by simpa using List.find?_some waits)
        (none_waits q (List.mem_of_find?_eq_some waits))
    · obtain rfl : q = p := Option.some.inj (waits.symm.trans found)
      refine ⟨y, free, least, rfl, by simp, fun z => ?_, by simp⟩
      rw [State.makeReady_ctx_eq, State.ctx_startWalk, State.unclaim_ctx_eq]
      rfl

/-! ### The release of a walker (R41) -/

section Release
variable {s v : State} {o : Option Wand}

/-- The candidate tables of `v` are those of `s` with the walker's WAITING entries released. -/
def ReleasedOnly (s : State) (o : Option Wand) (v : State) : Prop :=
  ∀ w, v.table w = (s.releaseWalker o).table w

theorem ReleasedOnly.entry (h : ReleasedOnly s o v) {w : Wand} (walker : o = some w) (k : Fin 24) :
    (v.table w).entries[k] = (s.table w).entries[k].release s.settings.holdTicks := by
  subst walker
  rw [h]
  exact s.entry_releaseWaiting w k

theorem ReleasedOnly.of_ne (h : ReleasedOnly s o v) {w : Wand} (other : o ≠ some w) :
    v.table w = s.table w := by
  rw [h]
  cases o with
  | none => rfl
  | some w' =>
    show (s.releaseWaiting w').table w = _
    rw [State.table_releaseWaiting, if_neg fun same => other (congrArg some same.symm)]

theorem ReleasedOnly.counters (h : ReleasedOnly s o v) (w : Wand) :
    v.table w = { s.table w with entries := (v.table w).entries } := by
  by_cases walker : o = some w
  · subst walker
    have released : v.table w = (s.releaseWaiting w).table w := h w
    rw [State.table_releaseWaiting, if_pos rfl] at released
    rw [released]
  · rw [h.of_ne walker]

end Release

/-! ### The completion of a walk (R102, R103) -/

section Completion
variable (s : State) (x : CtxId) (c : Context)

theorem State.completed_released : ReleasedOnly s c.walker (s.completed x c) := by
  intro w
  unfold State.completed
  cases c.walker with
  | none => simp [State.releaseWalker]
  | some v => simp [State.releaseWalker]

theorem State.completed_events : (s.completed x c).events = { s.events with
    raw := s.events.raw |||
      (if (s.items.any fun r => r.isHomeOf c.sec && r.tallyAttends) && !(s.sec c.sec).attention then
        EventKind.attention.set else 0) ||| EventKind.walkDone.set } := by
  unfold State.completed
  simp [State.raise]

theorem State.completed_sendQueue : (s.completed x c).sendQueue = s.sendQueue := by
  simp [State.completed]

/-- The tally of an item, case by case (R102). -/
theorem Item.tally_eq (r : Item) (S : SecId) :
    (if r.isHomeOf S then r.tallied else r) =
      if r.home = some S then
        match r.count with
        | .held => { r with count := .disordered, prior := none }
        | .unseen | .passed =>
          { r with
            count := if r.circ = some .loan then .desk else .notFound
            found := none }
        | _ => r
      else r := by
  by_cases home : r.home = some S
  · cases count : r.count <;> simp [Item.isHomeOf, Item.tallied, home, count]
  · simp [Item.isHomeOf, home]

end Completion

theorem tallyAttends_iff (s : State) (S : SecId) :
    (s.items.any fun r => r.isHomeOf S && r.tallyAttends) = true ↔
      ∃ r ∈ s.items, r.home = some S ∧ (r.count = .held ∨
        ((r.count = .unseen ∨ r.count = .passed) ∧ r.circ ≠ some .loan)) := by
  simp [Item.isHomeOf, Item.tallyAttends]

theorem openAtTally_iff (s : State) (S : SecId) :
    (s.items.any fun r => r.isHomeOf S && r.openAtTally) = true ↔
      ∃ r ∈ s.items, r.home = some S ∧
        (r.count = .held ∨ r.count = .unseen ∨ r.count = .passed) := by
  simp [Item.isHomeOf, Item.openAtTally, or_assoc]

/-- The completion of a walk does what `CompletionOf` says (R102, R103). -/
theorem State.completeWalk_completes {s : State} {x : CtxId} {c : Context} :
    ∃ notices, (s.completeWalk x c).sendQueue = s.sendQueue ++ notices ∧
      CompletionOf s x c (s.completeWalk x c) notices := by
  obtain ⟨notices, only, sec, none_waits, granted⟩ :=
    State.grantNext_regranted (v := s.completed x c) (x := x) (S := c.sec)
      (by rw [State.ctx_completed, if_pos rfl])
        (by rw [State.sec_completed, if_pos rfl]; exact nofun)
  rw [← State.completeWalk_eq] at only sec none_waits granted
  have tables : ReleasedOnly s c.walker (s.completeWalk x c) := fun w => by
    refine Eq.trans ?_ (s.completed_released x c w)
    rw [only]
    rfl
  rw [State.completed_claims] at none_waits granted
  refine ⟨notices, ?_, ?_, fun S other => ?_, fun w walker k => ?_, fun v other =>
    tables.of_ne other,
    tables.counters, _, _, tallyAttends_iff s c.sec, openAtTally_iff s c.sec, ?_,
      fun none_wait => ?_,
    fun q found => ?_⟩
  · rw [only]
    exact congrArg (· ++ notices) (s.completed_sendQueue x c)
  · rw [State.completeWalk_items]
    exact List.map_congr_left fun r _ => r.tally_eq c.sec
  · rw [sec S other, State.sec_completed, if_neg other]
  · rw [tables.entry walker]
    cases (s.table w).entries[k] <;> rfl
  · rw [only]
    exact s.completed_events x c
  · obtain ⟨none_sent, same⟩ := none_waits none_wait
    rw [same]
    refine ⟨none_sent, s.completed_claims x c, ?_, fun y other => ?_, ?_⟩
    · rw [State.ctx_completed, if_pos rfl]
    · rw [State.ctx_completed, if_neg other]
    · rw [State.sec_completed, if_pos rfl]
      split <;> simp [BitVec.add_assoc]
  · obtain ⟨y, free, least, sent, claims, ctx, sec_c⟩ := granted q found
    refine ⟨y, ?_, fun z below => ?_, sent, claims, fun z => ?_, ?_⟩
    · rw [State.ctx_completed] at free
      by_cases same : y = x
      · exact .inl same
      · exact .inr (by rwa [if_neg same] at free)
    · have taken := least z below
      rw [State.ctx_completed] at taken
      by_cases same : z = x
      · exact absurd (if_pos same) taken
      · exact ⟨same, by rwa [if_neg same] at taken⟩
    · have settings : (s.completed x c).settings = s.settings := by simp [State.completed]
      rw [ctx z, State.ctx_completed, beginning, settings]
    · rw [sec_c, State.sec_completed, if_pos rfl]
      split <;> simp [BitVec.add_assoc]

theorem State.grantNext_watch (s : State) (S : SecId) : (s.grantNext S).watch = s.watch := by
  unfold State.grantNext
  split
  · rfl
  · split <;> split <;> rfl

theorem State.completeWalk_watch (s : State) (x : CtxId) (c : Context) :
    (s.completeWalk x c).watch = s.watch := by
  rw [State.completeWalk_eq, State.grantNext_watch]
  simp [State.completed]

/-- A completion in the state in which its frame is processed is one in the state before the taking.
-/
theorem CompletionOf.of_begun {s u : State} {w : Wand} {x : CtxId} {c d : Context}
    {notices : List PartFrame} (walks : s.walkOf w = some x)
    (same : d = { c with lease := d.lease })
    (h : CompletionOf (s.begun w) x d u notices) : CompletionOf s x c u notices := by
  have sec : d.sec = c.sec := by rw [same]
  have walker : d.walker = c.walker := by rw [same]
  have ctx (y : CtxId) (other : y ≠ x) : (s.begun w).ctx y = s.ctx y := by
    rw [State.ctx_begun, State.leaseLoaded, walks, if_neg fun same =>
      other (Option.some.inj same).symm]
  unfold CompletionOf at h ⊢
  simp only [sec, walker, State.begun_items, State.begun_sec_eq, State.begun_table_eq,
    State.begun_settings, State.begun_events, State.begun_claims] at h
  obtain ⟨items, secs, released, tables, counters, attends, changed, attends_iff,
    changed_iff, events,
    none_waits, granted⟩ := h
  refine ⟨items, secs, released, tables, counters, attends, changed, attends_iff,
    changed_iff, events,
    fun none_wait => ?_, fun q found => ?_⟩
  · obtain ⟨none_sent, claims, freed, others, sec_c⟩ := none_waits none_wait
    exact ⟨none_sent, claims, freed, fun y other => (others y other).trans (ctx y other), sec_c⟩
  · obtain ⟨y, free, least, sent, claims, ctxs, sec_c⟩ := granted q found
    refine ⟨y, ?_, fun z below => ?_, sent, claims, fun z => ?_, sec_c⟩
    · by_cases is_x : y = x
      · exact .inl is_x
      · exact .inr ((ctx y is_x).symm.trans (free.resolve_left is_x))
    · obtain ⟨other, taken⟩ := least z below
      exact ⟨other, ctx z other ▸ taken⟩
    · rw [ctxs z]
      by_cases is_x : z = x
      · simp only [is_x, if_true]
      · simp only [is_x, if_false, ctx z is_x]

/-- The tag of a walk's end marker completes it (R75). -/
theorem judge_endMarker {s : State} {x : CtxId} {c : Context} {t : Tag} (walk : s.ctx x = some c)
    (marker : (s.sec c.sec).endMarker = some t) :
    judge x t s = ⟨s.completeWalk x c, ⟨t, .marker, false, false, false, false, some c.sec⟩⟩ := by
  rw [judge, walk]
  simp only [judgeWalk, marker, if_true]
  rfl

/-- Settles O22. -/
theorem walkendCompleteTalliesTheSection : Obligations.WalkendCompleteTalliesTheSection := by
  unfold Obligations.WalkendCompleteTalliesTheSection
  refine ⟨fun w x c s takes going walks walk closed => ?_, fun x c t s walk marker => ?_⟩
  · have begun := State.begun_walk walks walk
    obtain ⟨d, is_d⟩ : ∃ d : Context, d =
      { c with lease := some (s.settings.leaseInterval * 1000) } :=
      ⟨_, rfl⟩
    rw [← is_d] at begun
    have same_d : d = { c with lease := d.lease } := by rw [is_d]
    have d_sec : d.sec = c.sec := by rw [is_d]
    have body : frameBody (.walkendComplete w) (s.begun w) =
        ⟨(s.begun w).completeWalk x d, .ok, [.sec d.sec, .num8 1]⟩ := by
      refine (unlessPaused_begun going w _).trans ?_
      simp only [walkendCompleteBody, State.walkOf_begun, walks, begun, State.begun_sec_eq,
        d_sec, closed]
      rfl
    obtain ⟨notices, sent, completes⟩ :=
      State.completeWalk_completes (s := s.begun w) (x := x) (c := d)
    have taken := taken_body (i := .walkendComplete w) rfl takes body
    dsimp only at taken
    rw [sent, d_sec] at taken
    refine ⟨_, notices, taken, ?_, completes.of_begun walks same_d⟩
    have watch : ((s.begun w).completeWalk x d).watch = s.watch :=
      (State.completeWalk_watch _ x d).trans (s.begun_watch w)
    refine ((State.completeWalk_same _ x d).taken _).trans ?_
    rw [watch]
    rfl
  · obtain ⟨notices, sent, completes⟩ := State.completeWalk_completes (s := s) (x := x) (c := c)
    refine ⟨_, notices, judge_endMarker walk marker, ?_, completes⟩
    rw [← sent]
    exact (s.completeWalk_same x c).eq.trans (by rw [s.completeWalk_watch x c])

end Sys2Proof.Machine

/-! # Proofs: walks abandoned -/

namespace Sys2Proof.Machine

section Abandoned
variable (s : State) (x : CtxId) (c : Context)

theorem State.abandoned_released : ReleasedOnly s c.walker (s.abandoned x c) := by
  intro w
  unfold State.abandoned
  cases c.walker <;> by_cases broken : c.run = [] <;> simp [broken, State.releaseWalker]

theorem State.abandoned_sendQueue : (s.abandoned x c).sendQueue =
    s.sendQueue ++ (c.walker.map fun w => PartFrame.drop w c.sec false).toList := by
  unfold State.abandoned
  cases c.walker <;> by_cases broken : c.run = [] <;> simp [broken]

theorem State.abandoned_watch : (s.abandoned x c).watch = s.watch := by
  unfold State.abandoned
  cases c.walker <;> by_cases broken : c.run = [] <;> simp [broken]

theorem State.abandoned_events : (s.abandoned x c).events = s.events := by
  unfold State.abandoned
  cases c.walker <;> by_cases broken : c.run = [] <;> simp [broken]

theorem State.abandoned_settings : (s.abandoned x c).settings = s.settings := by
  unfold State.abandoned
  cases c.walker <;> by_cases broken : c.run = [] <;> simp [broken]

/-- The section of an abandoned walk returns to READY or TALLIED. -/
theorem State.abandoned_ended : ((s.abandoned x c).sec c.sec).state ≠ .suspended := by
  rw [State.sec_abandoned, if_pos rfl]
  dsimp only
  split <;> exact nofun

end Abandoned

/-- A request that changes only the engine's parts of the state, as its response is held. -/
theorem SameOutside.held {s : State} {r : Reply} (same : SameOutside s r.state) (code : Byte)
    (lost : Bool) :
    r.hold code lost = { s with
      items := r.state.items
      sections := r.state.sections
      tables := r.state.tables
      claims := r.state.claims
      contexts := r.state.contexts
      watch := r.state.watch
      events := r.state.events
      sendQueue := r.state.sendQueue
      port := (r.hold code lost).port } := by
  rw [Reply.hold, same.eq]

/-- Answers with what the body is known to give. -/
theorem answers_eq {i : Instr} {code : Byte} {args : List Byte} {s : State} {r : Reply}
    (packet : requestPacket i = some (code, args)) (serves : s.Serves i)
    (body : requestBody i s = r) :
    Answers s i (r.hold code s.lost) r.status r.results :=
  body ▸ answers_request packet serves

/-- Answers of a refused request. -/
theorem answers_refuse {i : Instr} {code : Byte} {args : List Byte} {s : State} {status : Status}
    (packet : requestPacket i = some (code, args)) (serves : s.Serves i)
    (body : requestBody i s = s.refuse status) : ∃ u, Answers s i u status [] :=
  ⟨_, answers_eq packet serves body⟩

theorem walkAbandonBody_walk {s : State} {S : SecId} {x : CtxId} {c : Context}
    (walked : (s.sec S).state = .walking ∨ (s.sec S).state = .suspended)
    (names : (s.sec S).context = some x) (walk : s.ctx x = some c) :
    walkAbandonBody S.val s = (s.abandon x c).done [.num8 c.run.length, .num8 c.park.length] := by
  simp only [walkAbandonBody, secOf_val, walked, if_true, names, walk]

/-- Settles O43. -/
theorem walkAbandonEndsTheWalk : Obligations.WalkAbandonEndsTheWalk := by
  unfold Obligations.WalkAbandonEndsTheWalk
  refine ⟨fun S s serves beyond => answers_refuse rfl serves ?_, fun S x c s serves =>
    ⟨fun not_walking not_suspended => answers_refuse rfl serves ?_,
      fun walked names walk own => ?_⟩⟩
  · show walkAbandonBody S s = _
    rw [walkAbandonBody, secOf_none beyond]
  · show walkAbandonBody S.val s = _
    simp only [walkAbandonBody, secOf_val, not_walking, not_suspended, or_self, if_false]
  subst own
  have body : requestBody (.walkAbandon c.sec.val) s = _ := walkAbandonBody_walk walked names walk
  obtain ⟨notices, only, sec, none_waits, granted⟩ :=
    State.grantNext_regranted (v := s.abandoned x c) (x := x) (S := c.sec)
      (by rw [State.ctx_abandoned, if_pos rfl]) (s.abandoned_ended x c)
  rw [← State.abandon_eq] at only sec none_waits granted
  rw [State.abandoned_claims] at none_waits granted
  have tables : ReleasedOnly s c.walker (s.abandon x c) := fun w => by
    refine Eq.trans ?_ (s.abandoned_released x c w)
    rw [only]
    rfl
  have queue : (s.abandon x c).sendQueue = s.sendQueue ++
      (c.walker.map fun w => PartFrame.drop w c.sec false).toList ++ notices := by
    rw [only]
    exact congrArg (· ++ notices) (s.abandoned_sendQueue x c)
  have watch : (s.abandon x c).watch = s.watch := by
    rw [only]
    exact s.abandoned_watch x c
  have events : (s.abandon x c).events = s.events := by
    rw [only]
    exact s.abandoned_events x c
  refine ⟨_, answers_eq rfl serves body, ?_, s.abandon_items x c, fun X other => ?_,
    fun w walker k => ?_, fun v other => tables.of_ne other, tables.counters, fun none_wait => ?_,
    fun q found => ?_⟩
  · refine ((s.abandon_same x c).held (r := (s.abandon x c).done _) _ _).trans ?_
    show _ = _
    dsimp only [State.done]
    rw [watch, events]
    rfl
  · refine (sec X other).trans ?_
    rw [State.sec_abandoned, if_neg other]
  · refine (tables.entry walker k).trans ?_
    cases (s.table w).entries[k] <;> rfl
  · obtain ⟨none_sent, same⟩ := none_waits none_wait
    show (s.abandon x c).sendQueue = _ ∧ (s.abandon x c).claims = _ ∧ (s.abandon x c).ctx x = _ ∧
      (∀ y : CtxId, y ≠ x → (s.abandon x c).ctx y = _) ∧ (s.abandon x c).sec c.sec = _
    rw [queue, none_sent, same]
    refine ⟨List.append_nil _, s.abandoned_claims x c, ?_, fun y other => ?_, ?_⟩
    · rw [State.ctx_abandoned, if_pos rfl]
    · rw [State.ctx_abandoned, if_neg other]
    · rw [State.sec_abandoned, if_pos rfl]
      by_cases broken : c.run = [] <;> simp [broken, BitVec.add_assoc]
  · obtain ⟨y, free, least, sent, claims, ctx, sec_c⟩ := granted q found
    refine ⟨y, ?_, fun z below => ?_, queue.trans (by rw [sent]), claims, fun z => ?_, ?_⟩
    · rw [State.ctx_abandoned] at free
      by_cases same : y = x
      · exact .inl same
      · exact .inr (by rwa [if_neg same] at free)
    · have taken := least z below
      rw [State.ctx_abandoned] at taken
      by_cases same : z = x
      · exact absurd (if_pos same) taken
      · exact ⟨same, by rwa [if_neg same] at taken⟩
    · refine (ctx z).trans ?_
      rw [State.ctx_abandoned, beginning, State.abandoned_settings]
    · refine sec_c.trans ?_
      rw [State.sec_abandoned, if_pos rfl]
      by_cases broken : c.run = [] <;> simp [broken, BitVec.add_assoc]

end Sys2Proof.Machine

/-! # Proofs: reads of the catalogue port -/

namespace Sys2Proof.Machine

/-- A read answers its fields, and changes the port alone. -/
theorem answers_read {i : Instr} {code : Byte} {args : List Byte} {s : State} {fields : List Field}
    (packet : requestPacket i = some (code, args)) (serves : s.Serves i)
    (body : requestBody i s = s.done fields) :
    ∃ u, Answers s i u .done fields ∧ u = { s with port := u.port } :=
  ⟨_, answers_eq packet serves body, rfl⟩

theorem Settings.get_all (k : Settings) :
    ([1, 2, 3, 4, 5, 6, 7, 8, 9].map fun key => Field.num16 (k.get key)) =
      [.num16 k.readFloor, .num16 k.confirmThreshold, .num16 k.decayTick, .num16 k.holdTicks,
        .num16 k.leaseInterval, .num16 k.revisionLimit, .num16 k.defaultTolerance,
        .num16 k.resyncLength, .num16 k.adoptThreshold] := rfl

/-- The lowest index at which a test holds. -/
theorem finRange_find?_eq_some {n : Nat} {p : Fin n → Bool} {i : Fin n}
    (found : (List.finRange n).find? p = some i) : p i = true ∧ ∀ j, j < i → p j = false := by
  obtain ⟨holds, k, inside, at_k, before⟩ := List.find?_eq_some_iff_getElem.mp found
  have here : k = i.val := by rw [← at_k, List.getElem_finRange]; rfl
  refine ⟨holds, fun j below => ?_⟩
  have fails := before j.val (by omega)
  rw [List.getElem_finRange] at fails
  simpa using fails

theorem finRange_find?_eq_none {n : Nat} {p : Fin n → Bool}
    (found : (List.finRange n).find? p = none) (j : Fin n) : p j = false := by
  simpa using List.find?_eq_none.mp found j (List.mem_finRange j)

theorem WatchEntry.fields_eq (e : WatchEntry) : e.fields =
    [.flag e.valid, .tag e.value, .tag e.mask, .num8 e.cls.val, .flag e.oneShot, .num8 e.hits,
      .flag e.hitPending, .num8Opt (e.last.map fun l => l.wand.val),
      .num16Opt (e.last.bind fun l => l.sec.map Fin.val), .time (e.last.map fun l => l.time)] := by
  rw [WatchEntry.fields, Field.secOpt, Option.map_bind]
  rfl

/-- Settles O53. -/
theorem unitReadsReturnWhatStands : Obligations.UnitReadsReturnWhatStands := by
  unfold Obligations.UnitReadsReturnWhatStands
  refine fun s => ⟨fun serves => ?_, fun serves => answers_read rfl serves rfl, fun serves => ?_,
    fun i serves => ?_, fun serves => ?_⟩
  · obtain ⟨u, answers, only⟩ := answers_read (i := .evtRead) rfl serves rfl
    exact ⟨u, _, answers, rfl, only⟩
  · refine answers_read rfl serves ?_
    show claimqReadBody s = _
    rw [claimqReadBody, listFields, List.length_map, ← List.flatMap_def]
    rfl
  · have body : requestBody (.watchRead i.val) s = s.done s.watch[i].fields := by
      show watchReadBody i.val s = _
      rw [watchReadBody, onWatch, idOf_val]
    obtain ⟨u, answers, only⟩ := answers_read rfl serves body
    rw [WatchEntry.fields_eq] at answers
    exact ⟨u, _, rfl, answers, only⟩
  · obtain ⟨u, answers, only⟩ := answers_read (i := .watchNext) rfl serves rfl
    exact ⟨u, s.pendingHit, answers, only, fun i found => finRange_find?_eq_some found,
      fun none_pends => finRange_find?_eq_none none_pends⟩

section RecordReads
variable (s : State)

theorem State.itemFields_eq (r : Item) : s.itemFields r =
    [.tag r.tag,
      .num8 ((if r.home = none then 0 else 1) + (if r.found = none then 0 else 2) +
        if r.prior = none then 0 else 4),
      .num16Opt (r.home.map Fin.val), .num16Opt (r.home.map fun H => s.ordinal H r.tag),
      .circOpt r.circ, .count r.count, .num16Opt (r.found.map fun f => f.sec.val),
      .num16Opt (r.found.map fun f => f.pos), .foundTime (r.found.map fun f => f.time),
      .countOpt r.prior, .num8 r.sight,
      .num8 ((if r.moved then 1 else 0) + if r.conflict then 2 else 0)] := by
  have presence : r.presence = (if r.home = none then 0 else 1) + (if r.found =
    none then 0 else 2) +
      if r.prior = none then 0 else 4 := by
    unfold Item.presence
    cases r.home <;> cases r.found <;> cases r.prior <;> rfl
  have found : r.foundIn.map Fin.val = r.found.map fun f => f.sec.val := by
    unfold Item.foundIn
    cases r.found <;> rfl
  rw [State.itemFields, presence, Field.secOpt, Field.secOpt, found, Item.reviewFlags]

/-- The bytes of a part of a list are its entries' fields, after their number. -/
theorem State.listPart_eq (S : SecId) (tags : List Tag) (start : Nat) (entry : Tag → List Field) :
    s.listPart S tags start entry =
      .num32 tags.length :: .generation (s.sec S).generation ::
        .num8 (min 32 (tags.length - start)) ::
        ((tags.drop start).take (min 32 (tags.length - start))).flatMap entry := by
  have taken : (tags.drop start).take (min 32 (tags.length - start)) =
    (tags.drop start).take 32 := by
    rw [← List.length_drop, List.take_eq_take_iff]
    omega
  rw [State.listPart, listFields, List.length_map, List.length_take, List.length_drop, taken,
    ← List.flatMap_def]
  rfl

theorem State.foreignEntry_eq (t : Tag) : s.foreignEntry t =
    [.tag t, .num16Opt ((s.item? t).bind fun r => r.home.map Fin.val),
      .num16Opt ((s.item? t).bind fun r => r.found.map fun f => f.pos)] := by
  rw [State.foreignEntry, Field.secOpt]
  cases s.item? t <;> rfl

theorem State.contextFields_eq (c : Context) : s.contextFields c =
    .flag true :: .num16 c.sec.val :: .num8Opt (c.walker.map Fin.val) :: .num16 c.cursor ::
      .num16 (s.sec c.sec).expected.length :: .num8 c.run.length ::
      ((c.run.flatMap fun t => [Field.tag t, .num16 (s.ordinal c.sec t),
          .countOpt ((s.item? t).bind fun r => r.prior)]) ++
        .num8 c.park.length :: ((c.park.map fun t => Field.tag t) ++
          [.num16Opt (c.lease.map fun ms => (ms + 999) / 1000), .flag c.markHit])) := by
  have single : (c.park.map fun t => [Field.tag t]).flatten = c.park.map fun t => Field.tag t := by
    rw [← List.flatMap_def, List.map_eq_flatMap]
  rw [State.contextFields, listFields, listFields, List.length_map, List.length_map, single,
    ← List.flatMap_def]
  simp only [List.append_assoc, List.cons_append, List.nil_append]
  rfl

theorem State.wandFields_eq (w : Wand) : s.wandFields w =
    [.time s.lastFrame[w], .num16Opt ((s.walkedSec w).map Fin.val),
      .num8Opt ((s.walkOf w).map Fin.val),
      .num16Opt ((s.claims.find? fun q => q.wand = w).map fun q => q.sec.val),
      .num8Opt ((s.claims.find? fun q => q.wand = w).map fun _ =>
        s.claims.findIdx (fun q => q.wand = w) + 1),
      .num8 ((s.table w).entries.toList.countP Entry.isGathering),
      .num8 ((s.table w).entries.toList.countP Entry.isConfirmed),
      .num8 ((s.table w).entries.toList.countP Entry.isWaiting)] := by
  rw [State.wandFields]
  simp only [Field.secOpt, CandTable.occupancy, State.waitsFor, State.place, Option.map_map]
  rfl

end RecordReads

/-- A record as ITEM_READ sends it fills 26 bytes (R213). -/
theorem State.itemFields_length (s : State) (r : Item) (i : Nat) :
    (fieldsBytes i (s.itemFields r)).1.length = 26 := by
  simp [State.itemFields, fieldsBytes, Field.bytes, Field.secOpt]

theorem answers_secList {s : State} {S : SecId} {start : Nat} {list : Byte} {tags : List Tag}
    (serves : s.Serves (.secList S.val list start)) (entry : Tag → List Field)
    (body : secListBody S.val list start s = s.done (s.listPart S tags start entry)) :
    ∃ u : State, Answers s (.secList S.val list start) u .done
      (.num32 tags.length :: .generation (s.sec S).generation ::
        .num8 (min 32 (tags.length - start)) ::
        ((tags.drop start).take (min 32 (tags.length - start))).flatMap entry) ∧
      u = { s with port := u.port } := by
  rw [State.listPart_eq] at body
  exact answers_read rfl serves body

/-- Settles O54. -/
theorem recordReadsReturnWhatStands : Obligations.RecordReadsReturnWhatStands := by
  unfold Obligations.RecordReadsReturnWhatStands
  refine fun s => ⟨fun t r serves stands => ?_, fun S start list tags serves names => ?_,
    fun S serves => ?_, fun x serves => ?_, fun w serves => ?_, fun t absent serves => ?_,
    fun S list start beyond => ⟨fun serves => ?_, fun serves => ?_⟩,
    fun S list start not_expected not_foreign serves => ?_,
    fun x beyond => ⟨fun serves => ?_, fun serves => ?_, fun serves => ?_⟩⟩
  · have body : requestBody (.itemRead t) s = s.done (s.itemFields r) := by
      show itemReadBody t s = _
      rw [itemReadBody, stands]
    obtain ⟨u, answers, only⟩ := answers_read rfl serves body
    have its_tag : r.tag = t := s.item_tag stands
    refine ⟨u, _, rfl, ?_, only, fun i => ?_⟩
    · rwa [State.itemFields_eq, its_tag] at answers
    · rw [← its_tag, ← State.itemFields_eq]
      exact s.itemFields_length r i
  · obtain ⟨rfl, rfl⟩ | ⟨rfl, rfl⟩ := names
    · obtain ⟨u, answers, only⟩ := answers_secList serves
        (tags := (s.sec S).expected) s.expectedEntry
        (by simp only [secListBody, secOf_val, if_true])
      exact ⟨u, _, _, rfl, answers, only, rfl⟩
    · obtain ⟨u, answers, only⟩ := answers_secList serves (tags := (s.sec S).chain) s.foreignEntry
        (by simp [secListBody, secOf_val])
      refine ⟨u, _, _, rfl, answers, only, ?_⟩
      rw [funext s.foreignEntry_eq]
      rfl
  · have body : requestBody (.secRead S.val) s = s.done (s.sectionFields S) := by
      show secReadBody S.val s = _
      rw [secReadBody, secOf_val]
    obtain ⟨u, answers, only⟩ := answers_read rfl serves body
    exact ⟨u, _, rfl, answers, only⟩
  · cases walk : s.ctx x with
    | none =>
      obtain ⟨u, answers, only⟩ := answers_read (i := .walkRead x.val) (fields := [.flag false])
        rfl serves (by
          show walkReadBody x.val s = _
          simp only [walkReadBody, idOf_val, walk])
      exact ⟨u, only, fun _ => answers, nofun⟩
    | some c =>
      obtain ⟨u, answers, only⟩ := answers_read (i := .walkRead x.val) (fields := s.contextFields c)
        rfl serves (by
          show walkReadBody x.val s = _
          simp only [walkReadBody, idOf_val, walk])
      refine ⟨u, only, nofun, fun c' same => ?_⟩
      obtain rfl := Option.some.inj same
      rw [State.contextFields_eq] at answers
      exact ⟨_, _, rfl, rfl, answers⟩
  · have body : requestBody (.wandRead w.val) s = s.done (s.wandFields w) := by
      show wandReadBody w.val s = _
      rw [wandReadBody, idOf_val]
    obtain ⟨u, answers, only⟩ := answers_read rfl serves body
    rw [State.wandFields_eq] at answers
    exact ⟨u, _, _, _, _, _, answers, only, rfl, rfl, rfl, rfl, rfl⟩
  · refine answers_refuse rfl serves ?_
    show itemReadBody t s = _
    rw [itemReadBody, absent]
  · refine answers_refuse rfl serves ?_
    show secReadBody S s = _
    rw [secReadBody, secOf_none beyond]
  · refine answers_refuse rfl serves ?_
    show secListBody S list start s = _
    rw [secListBody, secOf_none beyond]
  · refine answers_refuse rfl serves ?_
    show secListBody S.val list start s = _
    simp only [secListBody, secOf_val, not_expected, not_foreign, if_false]
  · refine answers_refuse rfl serves ?_
    show walkReadBody x s = _
    rw [walkReadBody, idOf_none beyond]
  · refine answers_refuse rfl serves ?_
    show wandReadBody x s = _
    rw [wandReadBody, idOf_none beyond]
  · refine answers_refuse rfl serves ?_
    show watchReadBody x s = _
    rw [watchReadBody, onWatch, idOf_none beyond]

end Sys2Proof.Machine

/-! # Proofs: circulation notices, provisional records dropped, pause and resume -/

namespace Sys2Proof.Machine

/-- A request that changes only lists, as its response is held. -/
theorem ListsOnly.held {s : State} {r : Reply} (only : ListsOnly s r.state) (code : Byte)
    (lost : Bool) :
    r.hold code lost = { s with
      items := r.state.items
      sections := r.state.sections
      contexts := r.state.contexts
      port := (r.hold code lost).port } := by
  unfold ListsOnly at only
  rw [Reply.hold, only]

/-- Answers of a request that changes lists alone, no walk among them. -/
theorem answers_lists {i : Instr} {code : Byte} {args : List Byte} {s u : State}
    {results : List Field}
    (packet : requestPacket i = some (code, args)) (serves : s.Serves i) (only : ListsOnly s u)
    (contexts : u.contexts = s.contexts) (body : requestBody i s = u.done results) :
    ∃ v, Answers s i v .done results ∧
      v = { s with items := v.items, sections := v.sections, port := v.port } ∧
      v.items = u.items ∧ ∀ X : SecId, v.sec X = u.sec X := by
  refine ⟨_, answers_eq packet serves body, ?_, rfl, fun _ => rfl⟩
  refine (only.held (r := u.done results) _ _).trans ?_
  rw [show (u.done results).state.contexts = s.contexts from contexts]
  rfl

/-! ### A bump under a condition -/

section BumpIf
variable (s : State) (p : Bool) (H : SecId)

theorem State.sec_bumpIf (X : SecId) : (if p then s.bump H else s).sec X = { s.sec X with
    generation := (s.sec X).generation + if X = H ∧ p = true then 1 else 0 } := by
  cases p
  · simp
  · by_cases its : X = H
    · subst its
      simp
    · simp [its]

theorem State.item_bumpIf (t : Tag) : (if p then s.bump H else s).item? t = s.item? t := by
  cases p <;> rfl

theorem State.contexts_bumpIf : (if p then s.bump H else s).contexts = s.contexts := by
  cases p <;> rfl

theorem State.bumpIf_only : ListsOnly s (if p then s.bump H else s) :=
  ListsOnly.ite (State.modSec_only H _) (ListsOnly.refl s)

end BumpIf

section Notices
variable {s : State} {r : Item}

theorem State.noticeMoves_iff : s.noticeMoves r = true ↔ s.campaign ≠ .closed ∧
    (r.count = .unseen ∨ r.count = .passed ∨ r.count = .notFound) := by
  simp [State.noticeMoves, Item.openToNotice, or_assoc]

theorem State.noticeSettles_iff :
    s.noticeSettles r = true ↔ r.conflict = true ∧ s.campaign ≠ .closed := by
  simp [State.noticeSettles, and_comm]

theorem State.conflict_left : (r.conflict && !s.noticeSettles r) =
    (r.conflict && decide (s.campaign = .closed)) := by
  by_cases closed : s.campaign = .closed <;> simp [State.noticeSettles, closed]

/-- A record written, and its home bumped under a condition. -/
theorem answers_noted {i : Instr} {code : Byte} {args : List Byte} {t : Tag} {u : State} {H : SecId}
    {results : List Field} (packet : requestPacket i = some (code, args)) (serves : s.Serves i)
    (stands : s.item? t = some r) (f : Item → Item) (tag : ∀ q, (f q).tag = q.tag) (p : Bool)
    (effect : u = if p then (s.modItem t f).bump H else s.modItem t f)
    (body : requestBody i s = u.done results) :
    ∃ v, Answers s i v .done results ∧
      v = { s with items := v.items, sections := v.sections, port := v.port } ∧
      v.item? t = some (f r) ∧ (∀ t' : Tag, t' ≠ t → v.item? t' = s.item? t') ∧
      ∀ X : SecId, v.sec X = { s.sec X with
        generation := (s.sec X).generation + if X = H ∧ p = true then 1 else 0 } := by
  have only : ListsOnly s u := effect ▸ (State.modItem_only t f).trans (State.bumpIf_only _ p H)
  have contexts : u.contexts = s.contexts := by rw [effect, State.contexts_bumpIf]; rfl
  obtain ⟨v, answers, same, items, secs⟩ := answers_lists packet serves only contexts body
  refine ⟨v, answers, same, ?_, fun t' other => ?_, fun X => (secs X).trans ?_⟩
  · rw [State.item_of_items items, effect, State.item_bumpIf,
      State.item_modItem _ _ _ tag, if_pos rfl,
      stands]
    rfl
  · rw [State.item_of_items items, effect, State.item_bumpIf, State.item_modItem _ _ _ tag,
      if_neg other]
  · rw [effect, State.sec_bumpIf]
    rfl

end Notices

/-- Settles O45. -/
theorem noticesMoveTheItemToTheDesk : Obligations.NoticesMoveTheItemToTheDesk := by
  unfold Obligations.NoticesMoveTheItemToTheDesk
  refine fun t s => ⟨fun absent => ⟨fun serves => ?_, fun serves => ?_, fun serves => ?_⟩,
    fun r stands => ⟨fun homeless => ⟨fun serves => ?_, fun serves => ?_⟩,
      fun H moves count home moves_iff count_eq => ?_, fun serves => ?_⟩⟩
  · refine answers_refuse rfl serves ?_
    show circOutBody t s = _
    rw [circOutBody, absent]
  · refine answers_refuse rfl serves ?_
    show circInBody t s = _
    rw [circInBody, absent]
  · refine answers_refuse rfl serves ?_
    show itemClearBody t s = _
    rw [itemClearBody, absent]
  · refine answers_refuse rfl serves ?_
    show circOutBody t s = _
    simp only [circOutBody, stands, homeless]
  · refine answers_refuse rfl serves ?_
    show circInBody t s = _
    simp only [circInBody, stands, homeless]
  · obtain rfl : r.tag = t := s.item_tag stands
    obtain rfl : moves = s.noticeMoves r :=
      Bool.eq_iff_iff.mpr (moves_iff.trans State.noticeMoves_iff.symm)
    obtain rfl : count = s.noticeCount r := count_eq
    refine ⟨fun serves => ?_, fun serves => ?_⟩
    · refine answers_noted rfl serves stands (fun q =>
        { q with circ := some .loan, count := s.noticeCount r })
        (fun _ => rfl) (s.noticeMoves r) (u := s.lend H r) rfl ?_
      show circOutBody r.tag s = _
      simp only [circOutBody, stands, home]
      rfl
    · have effect := answers_noted rfl serves stands (i := .circIn r.tag)
        (results := [.sec H, .count (s.noticeCount r), .flag (s.noticeMoves r), .flag r.conflict])
        (fun q => { q with
          circ := some .shelf
          count := s.noticeCount r
          conflict := r.conflict && !s.noticeSettles r })
        (fun _ => rfl) (s.noticeMoves r || s.noticeSettles r) (u := s.takeBack H r) rfl
        (show circInBody r.tag s = _ by simp only [circInBody, stands, home])
      rw [State.conflict_left] at effect
      simpa only [Bool.or_eq_true, State.noticeSettles_iff, ne_eq, Field.sec] using effect
  · obtain rfl : r.tag = t := s.item_tag stands
    have body : requestBody (.itemClear r.tag) s =
      (s.clearFlags r).done [.flag r.moved, .flag r.conflict] := by
      show itemClearBody r.tag s = _
      rw [itemClearBody, stands]
    cases home : r.home with
    | none =>
      have effect := answers_noted rfl serves stands
        (fun q => { q with moved := false, conflict := false }) (fun _ => rfl) false (H := 0)
        (u := s.clearFlags r) (by rw [State.clearFlags, home]; rfl) body
      simpa [home] using effect
    | some H =>
      have effect := answers_noted rfl serves stands
        (fun q => { q with moved := false, conflict := false }) (fun _ => rfl)
        (r.moved || r.conflict) (u := s.clearFlags r) (by rw [State.clearFlags, home]) body
      simpa only [Bool.or_eq_true, Option.some.injEq, eq_comm (a := H), home] using effect

theorem itemDropBody_provisional {s : State} {t : Tag} {r : Item} (stands : s.item? t = some r)
    (homeless : r.home = none) : itemDropBody t s =
      (((s.leaveChainOf r.foundIn t).dropItems fun q => q.tag = t).bumpWhere fun X =>
        some X = r.foundIn).done [] := by
  simp only [itemDropBody, stands, homeless, Option.isSome_none, Bool.false_eq_true, if_false]

/-- Settles O41. -/
theorem itemDropRemovesAProvisionalRecord : Obligations.ItemDropRemovesAProvisionalRecord := by
  unfold Obligations.ItemDropRemovesAProvisionalRecord
  intro t s serves
  cases stands : s.item? t with
  | none =>
    refine answers_refuse rfl serves ?_
    show itemDropBody t s = _
    rw [itemDropBody, stands]
  | some r =>
    dsimp only
    obtain rfl : r.tag = t := s.item_tag stands
    split
    next housed =>
      refine answers_refuse rfl serves ?_
      show itemDropBody r.tag s = _
      simp only [itemDropBody, stands, Option.isSome_iff_ne_none, ne_eq, housed,
        not_false_eq_true, if_true]
    next housed =>
      have body : requestBody (.itemDrop r.tag) s = _ :=
        itemDropBody_provisional stands (not_ne_iff.mp housed)
      have only := ((State.leaveChainOf_only r.foundIn r.tag).trans
        (State.dropItems_only fun q => decide (q.tag = r.tag))).trans
        (State.bumpWhere_only (s := (s.leaveChainOf r.foundIn r.tag).dropItems _)
          fun X => decide (some X = r.foundIn))
      obtain ⟨v, answers, same, items, secs⟩ :=
        answers_lists rfl serves only (State.dropRecord_contexts r) body
      have item := fun t' => (State.item_of_items items t').trans (State.item_dropRecord r t')
      exact ⟨v, answers, same, (item r.tag).trans (if_pos rfl),
        fun t' other => (item t').trans (if_neg other), fun X =>
          (secs X).trans (State.sec_dropRecord r X)⟩

/-! ### Pause and resume -/

theorem State.anyRevision_iff {s : State} :
    (s.findSec fun x => x.revision.isSome).isSome = true ↔ ∃ S :
    SecId, (s.sec S).revision ≠ none := by
  rw [State.findSec, List.find?_isSome]
  simp [Option.isSome_iff_ne_none]

/-- Settles O47. -/
theorem pauseAndResumeKeepEveryTimer : Obligations.PauseAndResumeKeepEveryTimer := by
  unfold Obligations.PauseAndResumeKeepEveryTimer
  refine fun s => ⟨fun serves => ?_, fun serves => ?_, fun serves going => ?_,
    fun serves ended => ?_,
    fun serves going revised => ?_⟩
  · split
    next running =>
      have body : requestBody .campPause s = ({ s with campaign := .paused } : State).done [] :=
        if_pos running
      exact ⟨_, answers_eq rfl serves body, rfl⟩
    next other => exact answers_refuse (i := .campPause) rfl serves (if_neg other)
  · split
    next paused =>
      have body : requestBody .campResume s = ({ s with campaign := .running } : State).done [] :=
        if_pos paused
      exact ⟨_, answers_eq rfl serves body, rfl⟩
    next other => exact answers_refuse (i := .campResume) rfl serves (if_neg other)
  · refine answers_refuse (i := .campStart) rfl serves (if_neg ?_)
    rcases going with going | going <;> rw [going] <;> decide
  · refine answers_refuse (i := .campClose) rfl serves (if_neg ?_)
    rcases ended with ended | ended <;> rw [ended] <;> decide
  · refine answers_refuse (i := .campClose) rfl serves ((if_pos going).trans (if_pos ?_))
    exact State.anyRevision_iff.mpr revised

end Sys2Proof.Machine

/-! # Proofs: settings of sections, of the unit, and lamps -/

namespace Sys2Proof.Machine

/-- A clamped answer's status. -/
theorem doneClamped_status (s : State) (c : Bool) (results : List Field) :
    (s.doneClamped c results).status = if c then .clamped else .done := rfl

/-! ### SEC_SET -/

/-- The section settings written, and the mark-hit flag cleared if the mark changes (R66, R67). -/
def State.secSet (s : State) (T : SecId) (tol : Nat) (lamp : Option LampId) (mark : Option Nat)
    (endMarker : Option Tag) : State :=
  let t := s.setSec T { s.sec T with
    tolerance := min tol 15
    lamp := lamp
    mark := mark
    endMarker := endMarker
    generation := (s.sec T).generation + 1 }
  if mark = (s.sec T).mark then t
  else (s.sec T).context.elim t fun x => t.modCtx x fun c => { c with markHit := false }

section SecSet
variable {s : State} {T : SecId} {tol : Nat} {lamp : Option LampId} {mark : Option Nat}
  {endMarker : Option Tag}

theorem State.secSet_only : ListsOnly s (s.secSet T tol lamp mark endMarker) := by
  unfold State.secSet
  refine ListsOnly.ite rfl ?_
  cases (s.sec T).context <;> rfl

theorem State.secSet_items : (s.secSet T tol lamp mark endMarker).items = s.items := by
  unfold State.secSet
  split
  · rfl
  · cases (s.sec T).context <;> rfl

theorem State.sec_secSet (X : SecId) : (s.secSet T tol lamp mark endMarker).sec X =
    if X = T then { s.sec T with
      tolerance := min tol 15
      lamp := lamp
      mark := mark
      endMarker := endMarker
      generation := (s.sec T).generation + 1 }
    else s.sec X := by
  unfold State.secSet
  split
  · simp
  · cases (s.sec T).context <;> simp

theorem State.ctx_secSet (y : CtxId) : (s.secSet T tol lamp mark endMarker).ctx y =
    (s.ctx y).map fun c =>
      if (s.sec T).context = some y ∧ mark ≠ (s.sec T).mark then { c with markHit := false }
      else c := by
  unfold State.secSet
  split
  next same => simp [same]
  next other =>
    cases names : (s.sec T).context with
    | none => simp
    | some x =>
      by_cases its : y = x
      · simp [its, other]
      · simp [its, Ne.symm its]

theorem secSetBody_nonempty {lamp : Nat} (nonempty : (s.sec T).state ≠ .empty) :
    secSetBody T.val tol lamp mark endMarker s =
      (s.secSet T tol (lampOf lamp) (mark.map fun m => min m (s.length T)) endMarker).doneClamped
        (decide (15 < tol) || mark.any fun m => s.length T < m) [] := by
  simp only [secSetBody, secOf_val, if_neg nonempty, State.secSet]
  cases (s.sec T).context <;> simp

end SecSet

/-- Settles O42. -/
theorem secSetWritesTheFourSettings : Obligations.SecSetWritesTheFourSettings := by
  unfold Obligations.SecSetWritesTheFourSettings
  refine fun S tol lamp mark endMarker s serves => ⟨fun beyond => answers_refuse rfl serves ?_,
    fun T names => ?_⟩
  · show secSetBody S tol lamp mark endMarker s = _
    rw [secSetBody, secOf_none beyond]
  subst names
  split
  next empty =>
    refine answers_refuse rfl serves ?_
    show secSetBody T.val tol lamp mark endMarker s = _
    simp only [secSetBody, secOf_val, if_pos empty]
  next nonempty =>
    have body : requestBody (.secSet T.val tol lamp mark endMarker) s = _ :=
      secSetBody_nonempty nonempty
    have answers := answers_eq rfl serves body
    have clamped : ((decide (15 < tol) || mark.any fun m => s.length T < m) = true) ↔
        (15 < tol ∨ ∃ m, mark = some m ∧ s.length T < m) := by
      simp [Option.any_eq_true]
    rw [doneClamped_status, if_congr clamped rfl rfl] at answers
    refine ⟨_, _, _, rfl, rfl, answers, ?_, ?_, fun X other => ?_, fun y => ?_⟩
    · exact (ListsOnly.held (r := State.doneClamped _ _ _) State.secSet_only _ _).trans
        (by rw [show (State.doneClamped _ _ _).state.items = _ from State.secSet_items]; rfl)
    · exact (State.sec_secSet T).trans (if_pos rfl)
    · exact (State.sec_secSet X).trans (if_neg other)
    · exact State.ctx_secSet y

/-! ### SET_WRITE -/

theorem nearestTick_eq (v : Nat) : nearestTick v =
    if v ≤ 23 then 16 else if v ≤ 47 then 32 else if v ≤ 95 then 64 else 128 := by
  simp only [nearestTick, Nat.lt_succ_iff]

theorem clampTo_eq {lo hi : Nat} (range : lo ≤ hi) (v : Nat) :
    clampTo lo hi v = if v < lo then lo else if hi < v then hi else v := by
  unfold clampTo
  split_ifs <;> omega

theorem Settings.get_put_same (k : Settings) (key v : Nat) (named : 1 ≤ key ∧ key ≤ 9) :
    (k.put key v).get key = v := by
  obtain ⟨low, high⟩ := named
  interval_cases key <;> rfl

theorem Settings.get_put_of_ne (k : Settings) {key j : Nat} (v : Nat) (named : 1 ≤ key ∧ key ≤ 9)
    (low_j : 1 ≤ j) (high_j : j ≤ 9) (other : j ≠ key) : (k.put key v).get j = k.get j := by
  obtain ⟨low, high⟩ := named
  interval_cases key <;> interval_cases j <;> simp_all [Settings.put, Settings.get]

/-- Settles O52. -/
theorem settingsAreWrittenWithinRange : Obligations.SettingsAreWrittenWithinRange := by
  unfold Obligations.SettingsAreWrittenWithinRange
  refine ⟨fun key v s serves => ⟨fun unnamed => ?_, fun low high => ?_⟩, fun s serves => ?_⟩
  · exact answers_refuse (i := .setWrite key v) rfl serves (if_neg (by omega))
  · have body : requestBody (.setWrite key v) s =
        ({ s with settings := s.settings.put key (settingWritten key v) } : State).doneClamped
          (settingWritten key v ≠ v)
          [.num8 key, .num16 (settingWritten key v), .num16 (s.settings.get key)] :=
      if_pos ⟨low, high⟩
    have answers := answers_eq rfl serves body
    have status : (if decide (settingWritten key v ≠ v) = true then Status.clamped else .done) =
        if settingWritten key v = v then .done else .clamped := by
      simp only [decide_eq_true_eq, ne_eq, ite_not]
    rw [doneClamped_status, status] at answers
    refine ⟨_, settingWritten key v, answers, rfl, s.settings.get_put_same key _ ⟨low, high⟩,
      fun j low_j high_j other => s.settings.get_put_of_ne _ ⟨low, high⟩ low_j high_j other, ?_, ?_⟩
    · rintro rfl
      exact nearestTick_eq v
    · rintro lo hi (⟨rfl, rfl, rfl⟩ | ⟨rfl, rfl, rfl⟩ | ⟨rfl, rfl, rfl⟩ | ⟨rfl, rfl, rfl⟩ |
        ⟨rfl, rfl, rfl⟩ | ⟨rfl, rfl, rfl⟩ | ⟨rfl, rfl, rfl⟩ | ⟨rfl, rfl, rfl⟩)
      all_goals exact clampTo_eq (by decide) v
  · have body : requestBody .setRead s = _ := congrArg s.done s.settings.get_all
    exact answers_read rfl serves body

end Sys2Proof.Machine

/-! # Proofs: shelf-end lamps -/

namespace Sys2Proof.Machine

/-! ### The highest-ranked pattern -/

theorem Pattern.over_cases (p q : Pattern) : (p.over q = p ∨ p.over q = q) ∧
    p.rank ≤ (p.over q).rank ∧ q.rank ≤ (p.over q).rank := by
  unfold Pattern.over
  split
  · exact ⟨.inr rfl, by omega, le_refl _⟩
  · exact ⟨.inl rfl, le_refl _, by omega⟩

/-- The highest-ranked of some patterns is one of them, and none outranks it. -/
theorem Pattern.foldl_over (ps : List Pattern) : ∀ p : Pattern,
    p.rank ≤ (ps.foldl Pattern.over p).rank ∧ (∀ q ∈ ps, q.rank ≤ (ps.foldl Pattern.over p).rank) ∧
      (ps.foldl Pattern.over p = p ∨ ps.foldl Pattern.over p ∈ ps) := by
  induction ps with
  | nil => exact fun p => ⟨le_refl _, nofun, .inl rfl⟩
  | cons q ps ih =>
    intro p
    obtain ⟨one_of, keeps_p, keeps_q⟩ := p.over_cases q
    obtain ⟨first, each, found⟩ := ih (p.over q)
    refine ⟨keeps_p.trans first, fun r mem => ?_, ?_⟩
    · rcases List.mem_cons.mp mem with rfl | mem
      · exact keeps_q.trans first
      · exact each r mem
    · rw [List.foldl_cons]
      rcases found with found | found
      · rcases one_of with one | one
        · exact .inl (found.trans one)
        · exact .inr (List.mem_cons.mpr (.inl (found.trans one)))
      · exact .inr (List.mem_cons_of_mem _ found)

section Derived
variable (s : State) (m : LampId)

theorem State.mem_onLamp (S : SecId) : S ∈ s.onLamp m ↔ (s.sec S).lamp = some m := by
  simp [State.onLamp]

theorem State.rank_le_derivedPattern {S : SecId} (on : (s.sec S).lamp = some m) :
    (s.displayStatus S).rank ≤ (s.derivedPattern m).rank :=
  (Pattern.foldl_over _ _).2.1 _ (List.mem_map_of_mem ((s.mem_onLamp m S).mpr on))

theorem State.derivedPattern_found : s.derivedPattern m = .off ∨
    ∃ S : SecId, (s.sec S).lamp = some m ∧ s.displayStatus S = s.derivedPattern m := by
  obtain ⟨_, _, none_on | found⟩ := Pattern.foldl_over ((s.onLamp m).map s.displayStatus) .off
  · exact .inl none_on
  · obtain ⟨S, on, same⟩ := List.mem_map.mp found
    exact .inr ⟨S, (s.mem_onLamp m S).mp on, same⟩

theorem State.length_onLamp :
    (s.onLamp m).length = (List.finRange 512).countP fun S => (s.sec S).lamp = some m := by
  rw [State.onLamp, List.countP_eq_length_filter]

theorem State.displayStatus_eq (S : SecId) : s.displayStatus S =
    if (s.sec S).attention = true then .flicker
    else if (s.sec S).state = .suspended then .blinkLong
    else if (s.sec S).state = .walking then .blinkEven
    else if (s.sec S).state = .tallied then .on
    else .off := by
  unfold State.displayStatus SectionRec.displayStatus
  cases (s.sec S).state <;> simp

theorem State.lampLit_iff : s.lampLit m = true ↔
    s.resetAsserted = false ∧ (s.shownPattern m).litAt s.lampPhase = true := by
  simp [State.lampLit]

end Derived

/-! ### What LAMP_FORCE asks for -/

theorem forceOf_code {b : Byte} {p : Pattern} (code : b.toNat = p.code) :
    forceOf b = some (some p) := by
  unfold forceOf
  rw [code]
  cases p <;> rfl

theorem forceOf_unnamed {b : Byte} (high : 4 < b.toNat) (not_release : b ≠ 0x0F) :
    forceOf b = none := by
  have other : b.toNat ≠ 15 := fun same => not_release (BitVec.eq_of_toNat_eq same)
  unfold forceOf
  split
  case h_7 => rfl
  all_goals omega

/-- Settles O50. -/
theorem lampForceAndDerivedPattern : Obligations.LampForceAndDerivedPattern := by
  unfold Obligations.LampForceAndDerivedPattern
  refine ⟨fun m pattern s serves bad => answers_refuse rfl serves ?_,
    fun m pattern force s serves names => ?_, fun S s => s.displayStatus_eq S,
    fun m s phase => ?_, fun m s => ⟨fun S on => s.rank_le_derivedPattern m on,
      s.derivedPattern_found m⟩⟩
  · show lampForceBody m pattern s = _
    rcases bad with beyond | ⟨high, not_release⟩
    · simp only [lampForceBody, lampOf_none beyond]
    · rw [lampForceBody, forceOf_unnamed high not_release]
      cases lampOf m <;> rfl
  · have asks : forceOf pattern = some force := by
      rcases names with ⟨rfl, rfl⟩ | ⟨p, rfl, code⟩
      · rfl
      · exact forceOf_code code
    have body : requestBody (.lampForce m.val pattern) s =
        ({ s with forces := s.forces.set m force } : State).done
          [.patternOpt s.forces[m], .patternOpt (some (s.derivedPattern m)),
            .num16 (s.onLamp m).length] := by
      show lampForceBody m.val pattern s = _
      simp only [lampForceBody, lampOf_val, asks]
    rw [State.length_onLamp] at body
    have written : (s.forces.set m force)[m] = force := Vector.getElem_set_self _
    refine ⟨_, answers_eq rfl serves body, rfl, written, fun n other => ?_, ?_⟩
    · exact Vector.getElem_set_ne m.isLt n.isLt fun same => other (Fin.ext same.symm)
    · show ((s.forces.set m force)[m]).getD _ = _
      rw [written]
      rfl
  · rw [State.lampLit_iff, State.shownPattern]
    refine and_congr_right fun _ => ?_
    cases s.forces[m].getD (s.derivedPattern m) with
    | flicker =>
      simp only [Pattern.litAt, decide_eq_true_eq]
      exact ⟨fun lit => ⟨s.lampPhase / 250, by omega, by omega, by omega⟩,
        fun ⟨k, _, _, _⟩ => by omega⟩
    | blinkLong =>
      simp only [Pattern.litAt, decide_eq_true_eq]
      omega
    | blinkEven =>
      simp only [Pattern.litAt, decide_eq_true_eq]
      omega
    | on => exact iff_of_true rfl trivial
    | off => exact iff_of_false Bool.false_ne_true id

end Sys2Proof.Machine

/-! # Proofs: revisions opened, insertions, retirements and adoptions -/

namespace Sys2Proof.Machine

/-- Answers of a request that changes lists alone. -/
theorem answers_edit {i : Instr} {code : Byte} {args : List Byte} {s : State} {r : Reply}
    (packet : requestPacket i = some (code, args)) (serves : s.Serves i)
    (only : ListsOnly s r.state)
    (body : requestBody i s = r) :
    ∃ v, Answers s i v r.status r.results ∧
      v = { s with
        items := v.items, sections := v.sections, contexts := v.contexts, port := v.port } ∧
      (∀ t : Tag, v.item? t = r.state.item? t) ∧ (∀ X : SecId, v.sec X = r.state.sec X) ∧
      ∀ y : CtxId, v.ctx y = r.state.ctx y :=
  ⟨_, answers_eq packet serves body, only.held _ _, fun _ => rfl, fun _ => rfl, fun _ => rfl⟩

theorem insertIdx_eq_take_cons_drop {α : Type} (a : α) (l : List α) : ∀ k, k ≤ l.length →
    l.insertIdx k a = l.take k ++ a :: l.drop k := by
  induction l with
  | nil =>
    intro k within
    obtain rfl : k = 0 := Nat.le_zero.mp within
    rfl
  | cons b l ih =>
    intro k within
    cases k with
    | zero => rfl
    | succ k => simp [ih k (Nat.le_of_succ_le_succ within)]

theorem State.insertIdx_expected (s : State) (T : SecId) (k : Nat) (a : Tag) :
    (s.sec T).expected.insertIdx (min k (s.length T)) a =
      (s.sec T).expected.take (min k (s.sec T).expected.length) ++
        a :: (s.sec T).expected.drop (min k (s.sec T).expected.length) :=
  insertIdx_eq_take_cons_drop _ _ _ (min_le_right _ _)

/-! ### REV_INSERT -/

section Insert
variable {s : State} {T : SecId} {k : Nat} {t : Tag} {circ : Byte}

theorem circOf_eq_none (bad : circ ≠ 0 ∧ circ ≠ 1) : circOf circ = none := by
  rw [circOf, if_neg bad.1, if_neg bad.2]

theorem circOf_of_not_bad (good : ¬(circ ≠ 0 ∧ circ ≠ 1)) :
    circOf circ = some (if circ = 0 then .shelf else .loan) := by
  unfold circOf
  by_cases zero : circ = 0
  · rw [if_pos zero, if_pos zero]
  · have one : circ = 1 := by_contra fun other => good ⟨zero, other⟩
    rw [if_neg zero, if_pos one, if_neg zero]

theorem revInsertBody_eq (good : ¬(circ ≠ 0 ∧ circ ≠ 1)) : revInsertBody T.val k t circ s =
    if (s.sec T).revision = none then s.refuse .notRevising
    else if s.item? t ≠ none then s.refuse .duplicateTag
    else if 1024 ≤ (s.sec T).expected.length then s.refuse .sectionFull
    else if 131072 ≤ s.items.length then s.refuse .tableFull
    else
      (((s.addItem (homeRecord t T (if circ = 0 then .shelf else .loan))).insertAt T
        (min k (s.length T)) t).bump T).doneClamped (s.length T < k)
        [.num16 (min k (s.length T)), .num16 (s.length T + 1)] := by
  simp only [revInsertBody, secOf_val, circOf_of_not_bad good, Option.isNone_iff_eq_none,
    Option.isSome_iff_ne_none]
  rfl

end Insert

/-- Settles O36. -/
theorem revInsertStandsANewRecord : Obligations.RevInsertStandsANewRecord := by
  unfold Obligations.RevInsertStandsANewRecord
  refine fun S k t circ s serves => ⟨fun beyond => answers_refuse rfl serves ?_, fun T names => ?_⟩
  · show revInsertBody S k t circ s = _
    rw [revInsertBody, secOf_none beyond]
  subst names
  split
  next bad =>
    refine answers_refuse rfl serves ?_
    show revInsertBody T.val k t circ s = _
    simp only [revInsertBody, secOf_val, circOf_eq_none bad]
  next good =>
  have body : requestBody (.revInsert T.val k t circ) s = _ := revInsertBody_eq good
  split
  next closed => exact answers_refuse rfl serves (body.trans (if_pos closed))
  next revised =>
  rw [if_neg revised] at body
  split
  next known => exact answers_refuse rfl serves (body.trans (if_pos known))
  next unknown =>
  rw [if_neg unknown] at body
  split
  next full => exact answers_refuse rfl serves (body.trans (if_pos full))
  next room =>
  rw [if_neg room] at body
  split
  next full => exact answers_refuse rfl serves (body.trans (if_pos full))
  next spare =>
  rw [if_neg spare] at body
  obtain ⟨v, answers, only, item, sec, ctx⟩ :=
    answers_edit rfl serves (State.insert_only T _ _) body
  rw [doneClamped_status, if_congr decide_eq_true_iff rfl rfl] at answers
  have new := not_ne_iff.mp unknown
  refine ⟨v, _, _, rfl, rfl, answers, only, (item t).trans ?_, fun t' other => (item t').trans ?_,
    (sec T).trans ?_, fun X other => (sec X).trans ?_, fun y => (ctx y).trans ?_⟩
  · exact (State.item_insert T _ (r := homeRecord t T _) new t).trans (if_pos rfl)
  · exact (State.item_insert T _ (r := homeRecord t T _) new t').trans (if_neg other)
  · refine (State.sec_insert T _ (homeRecord t T _) T).trans ((if_pos rfl).trans ?_)
    rw [State.insertIdx_expected]
    rfl
  · exact (State.sec_insert T _ (homeRecord t T _) X).trans (if_neg other)
  · exact State.ctx_insert T _ (homeRecord t T _) y

/-! ### REV_RETIRE -/

section Retire
variable {s : State} {H : SecId} {r : Item}

theorem revRetireBody_home (stands : s.item? r.tag = some r) (home : r.home = some H) :
    revRetireBody r.tag s =
      if (s.sec H).revision = none then s.refuse .notRevising
      else (s.retire H r).done [.num16 H.val, .num16 (s.ordinal H r.tag)] := by
  simp only [revRetireBody, stands, home, Option.isNone_iff_eq_none]
  rfl

/-- A home item stands on a chain only as a stray of another section. -/
theorem State.sec_retire_stray (listed : r.count ≠ .unlisted)
    (away : r.foundIn ≠ some H ∨ r.count ≠ .elsewhere) (X : SecId) : (s.retire H r).sec X =
    if X = H then
      { s.sec H with
        expected := (s.sec H).expected.eraseIdx (s.ordinal H r.tag)
        mark := (s.sec H).mark.map fun m =>
          min m ((s.sec H).expected.eraseIdx (s.ordinal H r.tag)).length
        revision := some (s.settings.revisionLimit * 1000)
        generation := (s.sec H).generation + 1 }
    else if r.count = .elsewhere ∧ r.foundIn = some X then
      { s.sec X with
        chain := (s.sec X).chain.filter fun t' => t' ≠ r.tag
        generation := (s.sec X).generation + 1 }
    else s.sec X := by
  have chain : r.chainSec = if r.count = .elsewhere then r.foundIn else none := by
    simp only [Item.chainSec, listed, or_false]
  have not_here : r.chainSec ≠ some H := by
    rw [chain]
    split
    next stray => exact away.resolve_right (not_not.mpr stray)
    next => exact nofun
  rw [State.sec_retire]
  by_cases here : X = H
  · subst here
    simp only [not_here, if_true, if_false, true_or]
    rfl
  · by_cases there : r.count = .elsewhere ∧ r.foundIn = some X
    · simp [here, chain, there]
    · have other : r.chainSec ≠ some X := by
        rw [chain]
        split
        next stray => exact fun found => there ⟨stray, found⟩
        next => exact nofun
      simp [here, there, other]

theorem State.ctx_retire_home (home : r.home = some H) (y : CtxId) : (s.retire H r).ctx y =
    (s.ctx y).map fun c =>
      if (s.sec H).context = some y then
        { c with
          run := if r.count = .held then c.run.filter fun t' => t' ≠ r.tag else c.run
          cursor := if s.ordinal H r.tag < c.cursor then c.cursor - 1 else c.cursor }
      else c := by
  rw [State.ctx_retire, State.ctx_leavePlace, home, Option.map_map]
  congr 1
  funext c
  by_cases walked : (s.sec H).context = some y <;> by_cases held : r.count = .held <;>
    simp [walked, held]

end Retire

/-- Settles O37. -/
theorem revRetireWithdrawsTheRecord : Obligations.RevRetireWithdrawsTheRecord := by
  unfold Obligations.RevRetireWithdrawsTheRecord
  intro t s serves
  cases stands : s.item? t with
  | none =>
    refine answers_refuse rfl serves ?_
    show revRetireBody t s = _
    rw [revRetireBody, stands]
  | some r =>
    dsimp only
    obtain rfl : r.tag = t := s.item_tag stands
    cases home : r.home with
    | none =>
      refine answers_refuse rfl serves ?_
      show revRetireBody r.tag s = _
      simp only [revRetireBody, stands, home]
    | some H =>
      dsimp only
      have body : requestBody (.revRetire r.tag) s = _ := revRetireBody_home stands home
      split
      next closed => exact answers_refuse rfl serves (body.trans (if_pos closed))
      next revised =>
      rw [if_neg revised] at body
      obtain ⟨v, answers, only, item, sec, ctx⟩ :=
        answers_edit rfl serves (State.retire_only H r) body
      exact ⟨v, _, rfl, answers, only, (item _).trans ((s.item_retire H r _).trans (if_pos rfl)),
        fun t' other => (item t').trans ((s.item_retire H r t').trans (if_neg other)),
        fun listed away X => (sec X).trans (State.sec_retire_stray listed away X),
        fun y => (ctx y).trans (State.ctx_retire_home home y)⟩

/-! ### REV_ADOPT -/

theorem revAdoptBody_homeless {s : State} {T : SecId} {k : Nat} {r : Item}
    (stands : s.item? r.tag = some r) (homeless : r.home = none) : revAdoptBody r.tag T.val k s =
      if (s.sec T).revision = none then s.refuse .notRevising
      else if 1024 ≤ (s.sec T).expected.length then s.refuse .sectionFull
      else (s.adopt T (min k (s.length T)) r).doneClamped (s.length T < k)
        [.num16 (min k (s.length T)), .count (adoptedCount T r)] := by
  simp only [revAdoptBody, secOf_val, stands, homeless, Option.isNone_iff_eq_none,
    Option.isSome_none,
    Bool.false_eq_true, if_false]
  rfl

/-- Settles O38. -/
theorem revAdoptGivesARecordAHome : Obligations.RevAdoptGivesARecordAHome := by
  unfold Obligations.RevAdoptGivesARecordAHome
  refine fun t S k s serves => ⟨fun beyond => answers_refuse rfl serves ?_, fun T names => ?_⟩
  · show revAdoptBody t S k s = _
    rw [revAdoptBody, secOf_none beyond]
  subst names
  cases stands : s.item? t with
  | none =>
    refine answers_refuse rfl serves ?_
    show revAdoptBody t T.val k s = _
    simp only [revAdoptBody, secOf_val, stands]
  | some r =>
    dsimp only
    obtain rfl : r.tag = t := s.item_tag stands
    split
    next housed =>
      refine answers_refuse rfl serves ?_
      show revAdoptBody r.tag T.val k s = _
      simp only [revAdoptBody, secOf_val, stands, Option.isSome_iff_ne_none, ne_eq, housed,
        not_false_eq_true, if_true]
    next housed =>
    have body : requestBody (.revAdopt r.tag T.val k) s = _ :=
      revAdoptBody_homeless stands (not_ne_iff.mp housed)
    split
    next closed => exact answers_refuse rfl serves (body.trans (if_pos closed))
    next revised =>
    rw [if_neg revised] at body
    split
    next full => exact answers_refuse rfl serves (body.trans (if_pos full))
    next room =>
    rw [if_neg room] at body
    obtain ⟨v, answers, only, item, sec, ctx⟩ :=
      answers_edit rfl serves (State.adopt_only T _ r) body
    rw [doneClamped_status, if_congr decide_eq_true_iff rfl rfl] at answers
    refine ⟨v, _, _, _, rfl, rfl, rfl, answers, only, (item _).trans ?_, fun t' other =>
      (item t').trans ?_,
      fun X => (sec X).trans ?_, fun y => (ctx y).trans (s.ctx_adopt T _ r y)⟩
    · refine (s.item_adopt T _ r _).trans ((if_pos rfl).trans ?_)
      rw [stands]
      rfl
    · exact (s.item_adopt T _ r t').trans (if_neg other)
    · refine (s.sec_adopt T _ r X).trans ?_
      rw [State.insertIdx_expected]
      rfl

end Sys2Proof.Machine

/-! # Proofs: revisions opened, closed and expired -/

namespace Sys2Proof.Machine

/-- Answers of a request that changes sections alone. -/
theorem answers_sections {i : Instr} {code : Byte} {args : List Byte} {s u : State}
    {results : List Field}
    (packet : requestPacket i = some (code, args)) (serves : s.Serves i)
    (only : u = { s with sections := u.sections }) (body : requestBody i s = u.done results) :
    ∃ v, Answers s i v .done results ∧ v = { s with sections := v.sections, port := v.port } ∧
      ∀ X : SecId, v.sec X = u.sec X := by
  refine ⟨_, answers_eq packet serves body, ?_, fun _ => rfl⟩
  show (_ : State) = _
  rw [Reply.hold, State.done, only]

section Revisions
variable {s : State} {S : SecId}

theorem revOpenBody_eq : revOpenBody S.val s =
    if (s.sec S).revision ≠ none then s.refuse .revising
    else ((s.modSec S fun r => { r with revision := some s.fullRevision }).bump S).done [] := by
  simp only [revOpenBody, secOf_val, Option.isSome_iff_ne_none]

theorem revCloseBody_eq : revCloseBody S.val s =
    if (s.sec S).revision = none then s.refuse .notRevising
    else (s.closeRevision S).1.done [.num8 (s.closeRevision S).2] := by
  simp only [revCloseBody, secOf_val, Option.isNone_iff_eq_none]

theorem State.closeRevision_unwalked (unwalked : (s.sec S).context = none) :
    s.closeRevision S = (s.shut S, 0) := by
  unfold State.closeRevision State.shut
  simp only [unwalked]

theorem State.shut_eq : s.shut S = { s with sections := (s.shut S).sections } := by
  unfold State.shut
  dsimp only
  split <;> rfl

/-- A revision opened (R9). -/
theorem State.sec_opened (X : SecId) :
    ((s.modSec S fun r => { r with revision := some s.fullRevision }).bump S).sec X =
      if X = S then { s.sec S with
        revision := some s.fullRevision
        generation := (s.sec S).generation + 1 }
      else s.sec X := by
  by_cases here : X = S <;> simp [here]

theorem exec_revisionExpiry (released : s.resetAsserted = false) :
    exec (.revisionExpiry S) s = .next (atEnd (s.revisionOver S) (expireRevision S) s) :=
  congrArg Host.Outcome.next (unlessReset_released released _)

end Revisions

/-- Settles O34. -/
theorem revisionOpensClosesAndExpires : Obligations.RevisionOpensClosesAndExpires := by
  unfold Obligations.RevisionOpensClosesAndExpires
  refine ⟨fun S beyond => ⟨fun s serves => answers_refuse rfl serves ?_,
      fun s serves => answers_refuse rfl serves ?_⟩,
    fun S s => ⟨fun serves closed => ?_, fun serves revised => ?_, fun serves closed => ?_,
      fun serves revised unwalked => ?_⟩,
    fun S s released => ⟨fun still => ?_, fun going out => ?_⟩⟩
  · show revOpenBody S s = _
    rw [revOpenBody, secOf_none beyond]
  · show revCloseBody S s = _
    rw [revCloseBody, secOf_none beyond]
  · have body : requestBody (.revOpen S.val) s = _ :=
      revOpenBody_eq.trans (if_neg (not_not.mpr closed))
    obtain ⟨v, answers, same, sec⟩ := answers_sections rfl serves rfl body
    exact ⟨v, answers, same, (sec S).trans ((State.sec_opened S).trans (if_pos rfl)),
      fun X other => (sec X).trans ((State.sec_opened X).trans (if_neg other))⟩
  · exact answers_refuse rfl serves (revOpenBody_eq.trans (if_pos revised))
  · exact answers_refuse rfl serves (revCloseBody_eq.trans (if_pos closed))
  · have body : requestBody (.revClose S.val) s = _ := revCloseBody_eq.trans (if_neg revised)
    rw [State.closeRevision_unwalked unwalked] at body
    obtain ⟨v, answers, same, sec⟩ := answers_sections rfl serves State.shut_eq body
    exact ⟨v, answers, same, (sec S).trans ((s.sec_shut S S).trans (if_pos rfl)),
      fun X other => (sec X).trans ((s.sec_shut S X).trans (if_neg other))⟩
  · have not_out : s.revisionOver S = false := by
      refine Bool.eq_false_iff.mpr fun out => ?_
      obtain ⟨going, zero⟩ := (s.revisionOver_iff S).mp out
      exact still.elim going fun time => time zero
    rw [exec_revisionExpiry released, not_out, atEnd_false]
  · have is_out : s.revisionOver S = true := (s.revisionOver_iff S).mpr ⟨going, out⟩
    have revised : ((s.onPort .idle).sec S).revision ≠ none := by
      rw [State.sec_onPort, out]
      exact nofun
    have serves : (s.onPort .idle).Serves (.revClose S.val) := ⟨released, nofun⟩
    have body : requestBody (.revClose S.val) (s.onPort .idle) = _ :=
      revCloseBody_eq.trans (if_neg revised)
    rw [State.closeRevision_onPort] at body
    refine ⟨_, _, answers_eq rfl serves body, ?_⟩
    rw [exec_revisionExpiry released, is_out, atEnd_true, expireRevision, State.raise,
      ← (s.closeRevision_same S).port]
    rfl

end Sys2Proof.Machine

/-! # Proofs: sections unloaded and counted again -/

namespace Sys2Proof.Machine

section Release
variable (s : State) (S : SecId)

theorem State.isProvisionalOf_eq (r : Item) : s.isProvisionalOf S r =
    (decide (r.home = none) && decide (r.tag ∈ (s.sec S).chain)) := by
  rw [State.isProvisionalOf]
  cases r.home <;> rfl

theorem State.isStrayOf_iff (r : Item) : s.isStrayOf S r = true ↔
    r.home ≠ none ∧ r.count = .elsewhere ∧ r.tag ∈ (s.sec S).chain := by
  simp [State.isStrayOf, Option.isSome_iff_ne_none, and_assoc]

theorem State.homeTag_eq (t : Tag) :
    s.homeTag S t = (s.item? t).any fun r => decide (r.home = some S) := rfl

theorem State.homeTag_iff (t : Tag) :
    s.homeTag S t = true ↔ ∃ r, s.item? t = some r ∧ r.home = some S := by
  simp [State.homeTag_eq, Option.any_eq_true]

theorem State.feelsRelease_iff (X : SecId) : s.feelsRelease S X = true ↔
    (∃ t ∈ (s.sec X).chain, ∃ r, s.item? t = some r ∧ r.home = some S) ∨
      ∃ r ∈ s.items, r.home = some X ∧ r.count = .elsewhere ∧ r.tag ∈ (s.sec S).chain := by
  rw [State.feelsRelease, Bool.or_eq_true, List.any_eq_true, List.any_eq_true]
  refine or_congr (exists_congr fun t => and_congr_right fun _ => s.homeTag_iff S t)
    (exists_congr fun r => and_congr_right fun _ => ?_)
  rw [Bool.and_eq_true, State.isStrayOf_iff, Item.isHomeOf, decide_eq_true_eq]
  refine and_congr_right fun home => ⟨And.right, fun stray => ⟨?_, stray⟩⟩
  rw [home]
  exact nofun

/-- What an unload or a recount of S leaves of another section. -/
theorem SectionRec.released_eq (X : SecId) :
    { s.sec X with
      chain := (s.sec X).chain.filter fun u => !s.homeTag S u
      generation := if s.feelsRelease S X then (s.sec X).generation + 1
        else (s.sec X).generation } =
    { s.sec X with
      chain := (s.sec X).chain.filter fun t => !(s.item? t).any fun r => r.home = some S
      generation := (s.sec X).generation +
        if (∃ t ∈ (s.sec X).chain, ∃ r, s.item? t = some r ∧ r.home = some S) ∨
          (∃ r ∈ s.items, r.home = some X ∧ r.count = .elsewhere ∧ r.tag ∈ (s.sec S).chain)
        then 1 else 0 } := by
  simp only [State.homeTag_eq, ← State.feelsRelease_iff]
  split <;> simp

theorem State.unload_only : ListsOnly s (s.unload S) :=
  (State.mapSecs_only _).trans ((State.dropItems_only _).trans (State.modItems_only _ _))

theorem State.recount_only : ListsOnly s (s.recount S) :=
  (State.mapSecs_only _).trans ((State.dropItems_only _).trans (State.modItems_only _ _))

theorem secUnloadBody_eq : secUnloadBody S.val s =
    if (s.sec S).state = .empty then s.refuse .noSection
    else if (s.sec S).state = .walking ∨ (s.sec S).state = .suspended then s.refuse .busy
    else if (s.sec S).revision ≠ none then s.refuse .revising
    else (s.unload S).done
      [.num16 (s.items.countP fun r => r.home = some S), .num32 (s.sec S).chain.length] := by
  simp only [secUnloadBody, secOf_val, Option.isSome_iff_ne_none]
  rfl

theorem State.unloadChanges_iff : s.unloadChanges S = true ↔
    (∃ r ∈ s.items, r.home = some S) ∨ (s.sec S).expected ≠ [] ∨
      (s.sec S).chain ≠ [] ∨ (s.sec S).tolerance ≠ s.settings.defaultTolerance ∨
      (s.sec S).lamp ≠ none ∨ (s.sec S).mark ≠ none ∨ (s.sec S).endMarker ≠ none := by
  simp [State.unloadChanges, Item.isHomeOf, or_assoc]

theorem secResetBody_eq : secResetBody S.val s =
    if (s.sec S).state = .empty then s.refuse .noSection
    else if (s.sec S).state = .walking ∨ (s.sec S).state = .suspended then s.refuse .busy
    else (s.recount S).done
      [.num16 (s.items.countP fun r => r.home = some S && r.count ≠ .unseen),
        .num32 (s.sec S).chain.length] := by
  simp only [secResetBody, secOf_val]
  rfl

theorem State.resetSec_eq : s.resetSec S = { s.sec S with
    state := .ready
    chain := []
    attention := false
    walks := 0
    generation := (s.sec S).generation +
      (if (s.sec S).chain ≠ [] ∨ ∃ r ∈ s.items, r.home = some S ∧ r.count ≠ .unseen then 1
        else 0) + if (s.sec S).state = .tallied then 1 else 0 } := by
  have unchanged : (s.resetChanges S = 0 ∧ (s.sec S).chain = []) ↔
      ¬((s.sec S).chain ≠ [] ∨ ∃ r ∈ s.items, r.home = some S ∧ r.count ≠ .unseen) := by
    rw [State.resetChanges, List.countP_eq_zero]
    simp [Item.isHomeOf, and_comm]
  rw [State.resetSec, if_congr unchanged rfl rfl, ite_not]

end Release

section Rest
variable {s : State} {S : SecId}

theorem not_walked_of_rest (rest : (s.sec S).state = .ready ∨ (s.sec S).state = .tallied) :
    (s.sec S).state ≠ .empty ∧ ¬((s.sec S).state = .walking ∨ (s.sec S).state = .suspended) := by
  rcases rest with rest | rest <;> rw [rest] <;> decide

theorem nonempty_of_walked (walked : (s.sec S).state = .walking ∨ (s.sec S).state = .suspended) :
    (s.sec S).state ≠ .empty := by
  rcases walked with walked | walked <;> rw [walked] <;> decide

end Rest

/-- Settles O39. -/
theorem secUnloadEmptiesTheSection : Obligations.SecUnloadEmptiesTheSection := by
  unfold Obligations.SecUnloadEmptiesTheSection
  refine ⟨fun S s serves => ⟨fun beyond => answers_refuse rfl serves ?_, fun T names => ?_⟩,
    fun S s serves rest closed => ?_⟩
  · show secUnloadBody S s = _
    rw [secUnloadBody, secOf_none beyond]
  · subst names
    have body : requestBody (.secUnload T.val) s = _ := secUnloadBody_eq s T
    refine ⟨fun empty => answers_refuse rfl serves (body.trans (if_pos empty)), fun walked => ?_,
      fun rest revised => ?_⟩
    · exact answers_refuse rfl serves
        (body.trans ((if_neg (nonempty_of_walked walked)).trans (if_pos walked)))
    · obtain ⟨nonempty, unwalked⟩ := not_walked_of_rest rest
      exact answers_refuse rfl serves
        (body.trans ((if_neg nonempty).trans ((if_neg unwalked).trans (if_pos revised))))
  · obtain ⟨nonempty, unwalked⟩ := not_walked_of_rest rest
    have body : requestBody (.secUnload S.val) s = _ := (secUnloadBody_eq s S).trans
      ((if_neg nonempty).trans ((if_neg unwalked).trans (if_neg (not_not.mpr closed))))
    obtain ⟨v, answers, same, items, sec⟩ :=
      answers_lists rfl serves (s.unload_only S) (s.unload_contexts S) body
    refine ⟨v, answers, same, items.trans ?_, ⟨s.unloadChanges S, s.unloadChanges_iff S, ?_⟩,
      fun X other => ?_⟩
    · simp only [State.unload_items, State.isProvisionalOf_eq, State.isStrayOf_iff]
      rfl
    · exact (sec S).trans ((s.sec_unload S S).trans (if_pos rfl))
    · exact (sec X).trans ((s.sec_unload S X).trans
        ((if_neg other).trans (SectionRec.released_eq s S X)))

/-- Settles O40. -/
theorem secResetRestartsTheResults : Obligations.SecResetRestartsTheResults := by
  unfold Obligations.SecResetRestartsTheResults
  refine ⟨fun S s serves => ⟨fun beyond => answers_refuse rfl serves ?_, fun T names => ?_⟩,
    fun S s serves rest => ?_⟩
  · show secResetBody S s = _
    rw [secResetBody, secOf_none beyond]
  · subst names
    have body : requestBody (.secReset T.val) s = _ := secResetBody_eq s T
    exact ⟨fun empty => answers_refuse rfl serves (body.trans (if_pos empty)),
      fun walked => answers_refuse rfl serves
        (body.trans ((if_neg (nonempty_of_walked walked)).trans (if_pos walked)))⟩
  · obtain ⟨nonempty, unwalked⟩ := not_walked_of_rest rest
    have body : requestBody (.secReset S.val) s = _ :=
      (secResetBody_eq s S).trans ((if_neg nonempty).trans (if_neg unwalked))
    obtain ⟨v, answers, same, items, sec⟩ :=
      answers_lists rfl serves (s.recount_only S) (s.recount_contexts S) body
    refine ⟨v, answers, same, items.trans ?_, ?_, fun X other => ?_⟩
    · simp only [State.recount_items, State.isProvisionalOf_eq, State.isStrayOf_iff,
        Bool.or_eq_true,
        Item.isHomeOf, decide_eq_true_eq]
      rfl
    · exact (sec S).trans ((s.sec_recount S S).trans ((if_pos rfl).trans (s.resetSec_eq S)))
    · exact (sec X).trans ((s.sec_recount S X).trans
        ((if_neg other).trans (SectionRec.released_eq s S X)))

end Sys2Proof.Machine

/-! # Proofs: a campaign started and closed -/

namespace Sys2Proof.Machine

/-! ### CAMP_START -/

section Start
variable (s : State)

theorem State.startCampaign_only : s.startCampaign = { s with
    items := s.startCampaign.items
    sections := s.startCampaign.sections
    campaign := .running
    clock := 0
    clockPart := 0 } := by
  have lists : ListsOnly s (((s.mapSecs fun S _ => s.startedSec S).dropItems fun r =>
      r.home.isNone).modItems (fun _ => true) Item.restarted) :=
    (State.mapSecs_only _).trans ((State.dropItems_only _).trans (State.modItems_only _ _))
  have contexts := s.startCampaign_contexts
  unfold ListsOnly at lists
  unfold State.startCampaign at contexts ⊢
  dsimp only at contexts ⊢
  rw [lists]
  dsimp only
  rw [contexts]

theorem State.startChanges_iff (S : SecId) : s.startChanges S = true ↔
    (s.sec S).chain ≠ [] ∨ ∃ r ∈ s.items, r.home = some S ∧
      (r.count ≠ .unseen ∨ r.moved = true ∨ r.conflict = true) := by
  simp [State.startChanges, Item.isHomeOf, Item.restartBumps, or_assoc]

theorem State.startedSec_ready {S : SecId}
    (rest : (s.sec S).state = .ready ∨ (s.sec S).state = .tallied) :
    s.startedSec S = { s.sec S with
      state := .ready, chain := [], attention := false, walks := 0
      generation := (s.sec S).generation +
        (if (s.sec S).chain ≠ [] ∨ ∃ r ∈ s.items, r.home = some S ∧
          (r.count ≠ .unseen ∨ r.moved = true ∨ r.conflict = true) then 1 else 0) +
        if (s.sec S).state = .tallied then 1 else 0 } := by
  rw [State.startedSec, if_congr (s.startChanges_iff S) rfl rfl]
  rcases rest with rest | rest <;> simp [rest, SecState.started]

theorem State.startedSec_empty {S : SecId} (empty : (s.sec S).state = .empty)
    (bare : (s.sec S).chain = []) : s.startedSec S = { s.sec S with
      generation := (s.sec S).generation +
        if ∃ r ∈ s.items, r.home = some S ∧
          (r.count ≠ .unseen ∨ r.moved = true ∨ r.conflict = true) then 1 else 0 } := by
  rw [State.startedSec, if_congr (s.startChanges_iff S) rfl rfl]
  simp [empty, bare, SecState.started]

end Start

/-- Settles O46. -/
theorem campStartBeginsTheCount : Obligations.CampStartBeginsTheCount := by
  unfold Obligations.CampStartBeginsTheCount
  intro s serves ended
  have provisional : (s.items.countP fun r => r.home.isNone) =
      s.items.countP fun r => decide (r.home = none) :=
    List.countP_congr fun r _ => by simp
  have body : requestBody .campStart s = _ := if_pos ended
  have only := s.startCampaign_only
  have items := s.startCampaign_items
  have sec := s.sec_startCampaign
  rw [provisional] at body
  generalize s.startCampaign = u at body only items sec
  refine ⟨_, answers_eq rfl serves body, ?_, items.trans ?_, fun S =>
    ⟨fun rest => ?_, fun empty bare => ?_⟩⟩
  · show (_ : State) = _
    rw [Reply.hold, State.done, only]
  · refine congrArg (List.map Item.restarted) (List.filter_congr fun r _ => ?_)
    cases r.home <;> rfl
  · exact (sec S).trans (s.startedSec_ready rest)
  · exact (sec S).trans (s.startedSec_empty empty bare)

/-! ### CAMP_CLOSE -/

section Close
variable (s : State)

theorem State.attendWhere_only (p : SecId → Bool) : s.attendWhere p = { s with
    sections := (s.attendWhere p).sections
    events := (s.attendWhere p).events } := by
  unfold State.attendWhere
  dsimp only
  split <;> simp only [State.mapSecs, State.raise]

theorem State.attendWhere_events (p : SecId → Bool) : (s.attendWhere p).events = { s.events with
    raw := s.events.raw ||| if (List.finRange 512).any fun S => p S && !(s.sec S).attention then
      EventKind.attention.set else 0 } := by
  unfold State.attendWhere
  dsimp only
  split <;> simp [State.mapSecs, State.raise]

/-- The lists as a close leaves them, before attention is set (R144, R145). -/
def State.closedLists : State :=
  (s.mapSecs fun S _ => s.closedSec S).modItems (fun r => r.home.isSome) Item.closed

theorem State.closeCampaign_attended : s.closeCampaign = { s.closedLists.attendWhere fun S =>
      s.items.any fun r => r.isHomeOf S && (r.count = .held || r.goesMissing) with
    contexts := Vector.replicate 16 none
    claims := []
    campaign := .closed
    sendQueue := s.sendQueue ++ s.closeDrops } := rfl

theorem State.closeCampaign_eq : s.closeCampaign = { s with
    items := s.closeCampaign.items
    sections := s.closeCampaign.sections
    contexts := s.closeCampaign.contexts
    claims := []
    campaign := .closed
    sendQueue := s.closeCampaign.sendQueue
    events := s.closeCampaign.events } := by
  have lists : ListsOnly s s.closedLists :=
    (State.mapSecs_only _).trans (State.modItems_only _ _)
  have attended := s.closedLists.attendWhere_only fun S =>
    s.items.any fun r => r.isHomeOf S && (r.count = .held || r.goesMissing)
  have closed := s.closeCampaign_attended
  generalize (s.closedLists.attendWhere fun S => s.items.any fun r =>
    r.isHomeOf S && (r.count = .held || r.goesMissing)) = t at attended closed
  unfold ListsOnly at lists
  rw [lists] at attended
  rw [closed, attended]

/-- The close raises ATTENTION if it sets the attention of a section (R108, R145). -/
theorem State.closeCampaign_events : ∃ newly : Bool,
    (newly = true ↔ ∃ S : SecId, (s.sec S).attention = false ∧
      (s.closeCampaign.sec S).attention = true) ∧
    s.closeCampaign.events = { s.events with
      raw := s.events.raw ||| if newly then EventKind.attention.set else 0 } := by
  have attention (S : SecId) : (s.closedLists.sec S).attention = (s.sec S).attention := by
    rw [State.closedLists, State.modItems_sec_eq, State.sec_mapSecs, State.closedSec]
    cases s.walkedNow S <;> rfl
  have events := s.closedLists.attendWhere_events fun S =>
    s.items.any fun r => r.isHomeOf S && (r.count = .held || r.goesMissing)
  have closed : s.closeCampaign.events = (s.closedLists.attendWhere fun S =>
    s.items.any fun r => r.isHomeOf S && (r.count = .held || r.goesMissing)).events := by
    rw [State.closeCampaign_attended]
  refine ⟨_, ?_, closed.trans events⟩
  rw [List.any_eq_true]
  refine exists_congr fun S => ?_
  rw [State.sec_closeCampaign, attention]
  cases (s.sec S).attention <;> simp [List.mem_finRange]

theorem State.closeCampaign_sendQueue : s.closeCampaign.sendQueue = s.sendQueue ++
    s.closeDrops := rfl

theorem State.goesMissing_iff (r : Item) : r.goesMissing = true ↔
    (r.count = .unseen ∨ r.count = .passed ∨ r.count = .notFound) ∧ r.circ ≠ some .loan := by
  simp [Item.goesMissing, or_assoc]

theorem State.goesToDesk_iff (r : Item) : r.goesToDesk = true ↔
    (r.count = .unseen ∨ r.count = .passed ∨ r.count = .notFound) ∧ r.circ = some .loan := by
  simp [Item.goesToDesk, or_assoc]

theorem State.closeChanges_iff (r : Item) : r.closeChanges = true ↔
    (r.count = .held ∨ r.count = .unseen ∨ r.count = .passed ∨ r.count = .notFound) := by
  simp only [Item.closeChanges, Bool.or_eq_true, decide_eq_true_eq, State.goesMissing_iff,
    State.goesToDesk_iff]
  tauto

theorem campCloseBody_closes (going : s.campaign = .running ∨ s.campaign = .paused)
    (closed : ∀ S : SecId, (s.sec S).revision = none) : campCloseBody s =
      s.closeCampaign.done
        [.num8 s.ctxInUse, .num8 s.claims.length,
          .num32 (s.items.countP fun r => r.home.isSome && r.goesMissing),
          .num32 (s.items.countP fun r => r.home.isSome && r.goesToDesk)] := by
  refine (if_pos going).trans (if_neg fun revised => ?_)
  obtain ⟨S, revised⟩ := State.anyRevision_iff.mp revised
  exact revised (closed S)

/-- What the close makes of a record, by its count state (R144, R145). -/
theorem Item.closed_eq (r : Item) : (if r.home.isSome then r.closed else r) =
    if r.home = none then r
    else
      match r.count with
      | .held => { r with count := .disordered, prior := none }
      | .unseen | .passed | .notFound =>
        { r with
          count := if r.circ = some .loan then .desk else .missing
          found := none }
      | _ => r := by
  cases home : r.home with
  | none => rfl
  | some H => cases count : r.count <;> simp [Item.closed, count, home]

theorem State.sec_closeCampaign_eq (S : SecId) : ∃ walked attends changed : Bool,
    (walked = true ↔ ∃ x c, s.ctx x = some c ∧ c.sec = S) ∧
    (attends = true ↔ ∃ r ∈ s.items, r.home = some S ∧ (r.count = .held ∨
      ((r.count = .unseen ∨ r.count = .passed ∨ r.count = .notFound) ∧ r.circ ≠ some .loan))) ∧
    (changed = true ↔ ∃ r ∈ s.items, r.home = some S ∧
      (r.count = .held ∨ r.count = .unseen ∨ r.count = .passed ∨ r.count = .notFound)) ∧
    s.closeCampaign.sec S = { s.sec S with
      state := if walked then .tallied else (s.sec S).state
      context := if walked then none else (s.sec S).context
      attention := (s.sec S).attention || attends
      generation := (s.sec S).generation + (if changed then 1 else 0) +
        if walked then 1 else 0 } := by
  refine ⟨_, _, _, s.walkedNow_iff S, ?_, ?_, s.sec_closeCampaign S⟩
  · rw [List.any_eq_true]
    simp only [Bool.and_eq_true, Bool.or_eq_true, decide_eq_true_eq, State.goesMissing_iff,
      Item.isHomeOf]
  · rw [List.any_eq_true]
    simp only [Bool.and_eq_true, State.closeChanges_iff, Item.isHomeOf, decide_eq_true_eq]

end Close

/-- Settles O48. -/
theorem campCloseGivesFinalFindings : Obligations.CampCloseGivesFinalFindings := by
  unfold Obligations.CampCloseGivesFinalFindings
  intro s serves going closed
  have missing : (s.items.countP fun r => r.home.isSome && r.goesMissing) =
      s.items.countP fun r => decide (r.home ≠ none ∧
        (r.count = .unseen ∨ r.count = .passed ∨ r.count = .notFound) ∧ r.circ ≠ some .loan) :=
    List.countP_congr fun r _ => by
      rw [Bool.and_eq_true, State.goesMissing_iff, Option.isSome_iff_ne_none, decide_eq_true_eq]
  have lent : (s.items.countP fun r => r.home.isSome && r.goesToDesk) =
      s.items.countP fun r => decide (r.home ≠ none ∧
        (r.count = .unseen ∨ r.count = .passed ∨ r.count = .notFound) ∧ r.circ = some .loan) :=
    List.countP_congr fun r _ => by
      rw [Bool.and_eq_true, State.goesToDesk_iff, Option.isSome_iff_ne_none, decide_eq_true_eq]
  have body : requestBody .campClose s = _ := campCloseBody_closes s going closed
  rw [missing, lent] at body
  have only := s.closeCampaign_eq
  have ctx := s.ctx_closeCampaign
  have items := s.closeCampaign_items
  have queue := s.closeCampaign_sendQueue
  have sec := s.sec_closeCampaign_eq
  have events := s.closeCampaign_events
  generalize s.closeCampaign = u at body only ctx items queue sec events
  refine ⟨_, answers_eq rfl serves body, ?_, ctx, items.trans ?_, queue.trans ?_, sec, events⟩
  · show (_ : State) = _
    rw [Reply.hold, State.done, only]
  · exact List.map_congr_left fun r _ => r.closed_eq
  · exact (List.append_assoc _ _ _).symm

end Sys2Proof.Machine

/-! # Proofs: idle steps, timers and their expiries -/

namespace Sys2Proof.Machine

/-! ### What a step takes when no command waits -/

section Idle
variable {s : State}

theorem step_due (quiet : s.pending = []) (released : s.resetAsserted = false) {c : Instr}
    (due : s.due = some (.command c)) : step s = exec c s := by
  simp [step, quiet, idle, released, due]

theorem step_tick (quiet : s.pending = []) (released : s.resetAsserted = false)
    (due : s.due = none) :
    step s = .next s.tick := by
  simp [step, quiet, idle, released, due]

theorem State.due_gathered {f : RawFrame} {rest : List RawFrame}
    (gathered : s.gathered = f :: rest) :
    s.due = some (.command (.frameReceived f)) := by
  rw [State.due, gathered]

theorem State.due_working (none_gathered : s.gathered = []) {r : Instr} {lost : Bool}
    (inHand : s.port = .working (.request r) lost) : s.due = some (.command r) := by
  rw [State.due, none_gathered, inHand]

theorem State.due_rest (none_gathered : s.gathered = [])
    (not_working : ∀ inHand lost, s.port ≠ .working inHand lost) :
    s.due = (if s.rxQueue ≠ [] ∧ s.sendQueue.length < 32 then s.rxQueue.head?
      else s.expiryDue.or (if s.sendQueue = [] then none else some .frameSent)).map .command := by
  rw [State.due, none_gathered]
  cases port : s.port with
  | working inHand lost => exact absurd port (not_working inHand lost)
  | idle => rfl
  | holding r lost => rfl

theorem State.expiryDue_of_none (still : ∀ c, ¬ TimerOut s c) : s.expiryDue = none := by
  cases due : s.expiryDue with
  | none => rfl
  | some c => exact absurd (State.expiryDue_out due) (still c)

theorem State.expiryDue_of_out {c : Instr} (out : TimerOut s c) : ∃ c', s.expiryDue = some c' := by
  cases due : s.expiryDue with
  | none => exact absurd out (State.expiryDue_none due c)
  | some c' => exact ⟨c', rfl⟩

end Idle

/-! ### One millisecond -/

section Tick
variable (s : State)

theorem State.tick_eq : s.tick = { s with
    clockPart := if s.campaign = .running then s.clockPart + 1 else s.clockPart
    decayLeft := if s.campaign = .paused then s.decayLeft else s.decayLeft - 1
    contexts := s.tick.contexts
    sections := s.tick.sections
    lampPhase := s.lampPhase + 1
    receiver := s.receiver.tick } := by
  unfold State.tick State.tickUnpaused State.tickRunning State.mapSecs
  cases running : s.campaign <;> simp [running]

theorem State.ctx_tick (x : CtxId) : s.tick.ctx x = (s.ctx x).map fun c =>
    if s.campaign = .running then { c with lease := c.lease.map fun ms => ms - 1 } else c := by
  have ticked : s.tick.contexts = s.tickRunning.contexts := by
    unfold State.tick State.tickUnpaused State.mapSecs
    dsimp only
    split <;> rfl
  rw [State.ctx, ticked, State.tickRunning]
  by_cases running : s.campaign = .running
  · simp only [running, if_true]
    exact getElem_tabulate _ _ x.isLt
  · simp only [running, if_false, Option.map_id']
    rfl

theorem State.sec_tick (S : SecId) : s.tick.sec S =
    if s.campaign = .paused then s.sec S
    else { s.sec S with revision := (s.sec S).revision.map fun ms => ms - 1 } := by
  have same : s.tickRunning.sections = s.sections ∧ s.tickRunning.campaign = s.campaign := by
    unfold State.tickRunning
    split <;> exact ⟨rfl, rfl⟩
  have ticked : s.tick.sec S = s.tickRunning.tickUnpaused.sec S := rfl
  rw [ticked, State.tickUnpaused, same.2]
  by_cases paused : s.campaign = .paused
  · rw [if_pos paused, if_pos paused, State.sec_of_sections same.1]
  · rw [if_neg paused, if_neg paused, State.sec_mapSecs]
    exact congrArg (fun x : SectionRec => { x with revision := countDown x.revision })
      (State.sec_of_sections same.1 S)

end Tick

/-! ### Expiries -/

theorem unlessReset_still {p : Bool} (still : p ≠ true) (effect : State → State) (s : State) :
    unlessReset (atEnd p effect) s = s := by
  rw [Bool.eq_false_iff.mpr still]
  unfold unlessReset
  split <;> rfl

/-- A command that comes before its timer's end changes nothing. -/
theorem exec_expiry_early {c : Instr} {s : State} (expiry : IsExpiry c) (early : ¬ TimerOut s c) :
    exec c s = .next s := by
  rcases expiry with rfl | rfl | rfl | rfl | ⟨x, rfl⟩ | ⟨S, rfl⟩
  · exact congrArg _ (unlessReset_still (mt s.gapOver_iff.mp early) _ s)
  · exact congrArg _ (unlessReset_still (mt s.phaseOver_iff.mp early) _ s)
  · exact congrArg _ (unlessReset_still (mt s.decayOver_iff.mp early) _ s)
  · exact congrArg _ (unlessReset_still (mt s.secondOver_iff.mp early) _ s)
  · exact congrArg _ (unlessReset_still (mt (s.leaseOver_iff x).mp early) _ s)
  · exact congrArg _ (unlessReset_still (mt (s.revisionOver_iff S).mp early) _ s)

theorem unlessReset_out {p : Bool} (out : p = true) {s : State} (released : s.resetAsserted = false)
    (effect : State → State) : unlessReset (atEnd p effect) s = effect s := by
  rw [unlessReset_released released, out, atEnd_true]

/-- What a decay tick makes of an entry. -/
theorem Entry.decay_eq (e : Entry) : e.decay =
    match e with
    | .free => .free
    | .gathering t score a => if score / 2 = 0 then .free else .gathering t (score / 2) a
    | .confirmed t hold a f => if hold - 1 = 0 then .free else .confirmed t (hold - 1) a f
    | .waiting t a f => .waiting t a f := by
  cases e <;> rfl

theorem table_decayAll (s : State) (w : Wand) : (decayAll s).table w = (s.table w).decay :=
  getElem_tabulate _ _ w.isLt

/-- Settles O32. -/
theorem timersCountAndExpire : Obligations.TimersCountAndExpire := by
  unfold Obligations.TimersCountAndExpire
  refine ⟨fun s quiet released => ⟨fun f rest gathered => ?_, fun none_gathered r lost inHand => ?_,
      fun none_gathered not_working => ⟨fun i rest rx room => ?_, fun no_frame => ?_⟩⟩,
    fun c s expiry early => exec_expiry_early expiry early,
    fun s released => ⟨fun going zero => ?_, fun running second => ?_, fun ended => ?_⟩⟩
  · exact step_due quiet released (State.due_gathered gathered)
  · exact step_due quiet released (State.due_working none_gathered inHand)
  · refine step_due quiet released ?_
    rw [State.due_rest none_gathered not_working, rx, if_pos ⟨List.cons_ne_nil _ _, room⟩]
    rfl
  · have due : s.due = (s.expiryDue.or
        (if s.sendQueue = [] then none else some .frameSent)).map .command := by
      rw [State.due_rest none_gathered not_working, if_neg]
      rintro ⟨waits, room⟩
      exact no_frame.elim waits (by omega)
    refine ⟨fun c out => ?_, fun still => ⟨fun sends => ?_, fun none_sent => ?_⟩⟩
    · obtain ⟨c', expires⟩ := State.expiryDue_of_out out
      refine ⟨c', State.expiryDue_out expires, step_due quiet released ?_⟩
      rw [due, expires]
      rfl
    · refine step_due quiet released ?_
      rw [due, State.expiryDue_of_none still, if_neg sends]
      rfl
    · rw [State.expiryDue_of_none still, if_pos none_sent] at due
      refine ⟨s.tick, ?_, ?_, ?_, ?_, ?_, s.ctx_tick, s.sec_tick, ?_⟩
      · exact step_tick quiet released due
      · rw [s.tick_eq]
      · rw [s.tick_eq]
      · rw [s.tick_eq]
      · rw [s.tick_eq]
      · rw [s.tick_eq]
        cases s.receiver <;> rfl
  · refine ⟨decayAll s, congrArg _ (unlessReset_out
      (s.decayOver_iff.mpr ⟨going, zero⟩) released _), rfl,
      fun w => ?_, fun w i => ?_⟩
    · rw [table_decayAll]
      rfl
    · rw [table_decayAll]
      refine (getElem_tabulate _ _ i.isLt).trans ?_
      exact Entry.decay_eq _
  · exact congrArg _ (unlessReset_out (s.secondOver_iff.mpr ⟨running, second⟩) released _)
  · exact congrArg _ (unlessReset_out (s.phaseOver_iff.mpr ended) released _)

end Sys2Proof.Machine

/-! # Proofs: the order of the WAITING entries -/

namespace Sys2Proof.Machine

/-! ### The order in which WAITING entries are drained -/

section Order
variable (t : CandTable)

theorem insertByConf_perm (i : Fin 24) (l : List (Fin 24)) :
    (insertByConf t i l).Perm (i :: l) := by
  induction l with
  | nil => exact .refl _
  | cons j rest ih =>
    rw [insertByConf]
    split
    · exact .refl _
    · exact (ih.cons j).trans (.swap i j rest)

theorem insertByConf_sorted (i : Fin 24) {l : List (Fin 24)}
    (sorted : l.Pairwise fun j k => t.entries[j].conf ≤ t.entries[k].conf) :
    (insertByConf t i l).Pairwise fun j k => t.entries[j].conf ≤ t.entries[k].conf := by
  induction l with
  | nil => exact List.pairwise_singleton _ _
  | cons j rest ih =>
    obtain ⟨least, rest_sorted⟩ := List.pairwise_cons.mp sorted
    rw [insertByConf]
    split
    next below =>
      refine List.pairwise_cons.mpr ⟨fun k mem => ?_, sorted⟩
      rcases List.mem_cons.mp mem with rfl | mem
      · exact below.le
      · exact below.le.trans (least k mem)
    next above =>
      refine List.pairwise_cons.mpr ⟨fun k mem => ?_, ih rest_sorted⟩
      rcases List.mem_cons.mp ((insertByConf_perm t i rest).mem_iff.mp mem) with rfl | mem
      · exact not_lt.mp above
      · exact least k mem

theorem foldr_insertByConf (l : List (Fin 24)) : (l.foldr (insertByConf t) []).Perm l ∧
    (l.foldr (insertByConf t) []).Pairwise fun j k => t.entries[j].conf ≤ t.entries[k].conf := by
  induction l with
  | nil => exact ⟨.refl _, .nil⟩
  | cons i rest ih =>
    exact ⟨(insertByConf_perm t i _).trans (ih.1.cons i), insertByConf_sorted t i ih.2⟩

theorem CandTable.mem_waitingOrder (i : Fin 24) :
    i ∈ t.waitingOrder ↔ t.entries[i].isWaiting = true := by
  rw [CandTable.waitingOrder, (foldr_insertByConf t _).1.mem_iff]
  simp

theorem CandTable.waitingOrder_nodup : t.waitingOrder.Nodup :=
  (foldr_insertByConf t _).1.nodup_iff.mpr ((List.nodup_finRange 24).filter _)

theorem CandTable.waitingSeq_eq (i : Fin 24) :
    t.waitingSeq i = if t.entries[i].isWaiting then some t.entries[i].conf else none := by
  rw [CandTable.waitingSeq]
  cases t.entries[i] <;> rfl

theorem CandTable.waitingSeq_ne_none (i : Fin 24) :
    t.waitingSeq i ≠ none ↔ t.entries[i].isWaiting = true := by
  rw [CandTable.waitingSeq_eq]
  cases t.entries[i].isWaiting <;> simp

/-- Where the WAITING entries have an order by confirmation sequence, they are drained in it. -/
theorem CandTable.WaitingInOrder.eq_waitingOrder {t : CandTable} {order : List (Fin 24)}
    (inOrder : t.WaitingInOrder order) : order = t.waitingOrder := by
  obtain ⟨mem, increasing⟩ := inOrder
  have strict : order.Pairwise fun i j => t.entries[i].conf < t.entries[j].conf := by
    refine increasing.imp_of_mem fun {i j} mem_i mem_j less => ?_
    have seq (k : Fin 24) (mem_k : k ∈ order) : t.waitingSeq k = some t.entries[k].conf := by
      rw [CandTable.waitingSeq_eq, if_pos ((t.waitingSeq_ne_none k).mp ((mem k).mp mem_k))]
    exact less _ _ (seq i mem_i) (seq j mem_j)
  have apart : ∀ i ∈ order, ∀ j ∈ order, i ≠ j → t.entries[i].conf ≠ t.entries[j].conf := by
    have : Std.Symm fun i j : Fin 24 => t.entries[i].conf ≠ t.entries[j].conf :=
      ⟨fun _ _ => Ne.symm⟩
    exact fun i mem_i j mem_j other =>
      (strict.imp fun less => less.ne).forall mem_i mem_j other
  have nodup : order.Nodup := strict.imp fun less same => (same ▸ less).ne rfl
  refine List.Perm.eq_of_pairwise (le := fun i j => t.entries[i].conf ≤ t.entries[j].conf)
    (fun i j mem_i mem_j le ge => ?_) (strict.imp le_of_lt) (foldr_insertByConf t _).2 ?_
  · by_contra other
    refine apart i mem_i j ((mem j).mpr ?_) other (le.antisymm ge)
    exact (t.waitingSeq_ne_none j).mpr ((t.mem_waitingOrder j).mp mem_j)
  · refine (List.perm_ext_iff_of_nodup nodup t.waitingOrder_nodup).mpr fun i => ?_
    rw [mem, t.waitingSeq_ne_none, t.mem_waitingOrder]

end Order

end Sys2Proof.Machine

/-! # Proofs: the drain of a walk -/

namespace Sys2Proof.Machine

/-- `u` is the state `s` with tags judged in the walk `c` of context `x`, which goes on: the walk's
section, walker and lease stand, and so do the other walks, and the walker's WAITING entries are as
they were or CONFIRMED (R95). -/
structure Draining (x : CtxId) (c : Context) (s u : State) : Prop where
  walk : ∃ d, u.ctx x = some d ∧ d.sec = c.sec ∧ d.walker = c.walker ∧ d.lease = c.lease
  sec : ∀ X, (u.sec X).settled = (s.sec X).settled
  claims : u.claims = s.claims
  sendQueue : u.sendQueue = s.sendQueue
  watch : u.watch = s.watch
  settings : u.settings = s.settings
  entries : ∀ (w : Wand) (k : Fin 24), (u.table w).entries[k].release s.settings.holdTicks =
    (s.table w).entries[k].release s.settings.holdTicks

section Draining
variable {x : CtxId} {c : Context} {s u : State}

theorem Draining.refl (walk : s.ctx x = some c) : Draining x c s s :=
  ⟨⟨c, walk, rfl, rfl, rfl⟩, fun _ => rfl, rfl, rfl, rfl, rfl, fun _ _ => rfl⟩

theorem Draining.endMarker (h : Draining x c s u) (X : SecId) :
    (u.sec X).endMarker = (s.sec X).endMarker := (congrArg SectionRec.endMarker (h.sec X) : _)

theorem Draining.marks (h : Draining x c s u) (X : SecId) : u.marks X = s.marks X :=
  State.marks_eq (h.endMarker X)

/-- A park entry is taken, or a WAITING entry made CONFIRMED, before its tag is judged. -/
theorem Draining.of_same_walk {v : State} (h : Draining x c s u) {d : Context}
    (walk : v.ctx x = some d) (sec_d : d.sec = c.sec) (walker : d.walker = c.walker)
    (lease : d.lease = c.lease) (sections : v.sections = u.sections) (claims : v.claims = u.claims)
    (sendQueue : v.sendQueue = u.sendQueue) (watch : v.watch = u.watch)
    (settings : v.settings = u.settings)
    (entries : ∀ (w : Wand) (k : Fin 24), (v.table w).entries[k].release s.settings.holdTicks =
      (u.table w).entries[k].release s.settings.holdTicks) : Draining x c s v where
  walk := ⟨d, walk, sec_d, walker, lease⟩
  sec X := (congrArg SectionRec.settled (State.sec_of_sections sections X)).trans (h.sec X)
  claims := claims.trans h.claims
  sendQueue := sendQueue.trans h.sendQueue
  watch := watch.trans h.watch
  settings := settings.trans h.settings
  entries w k := (entries w k).trans (h.entries w k)

/-- A judged tag that is not the end marker leaves the walk going on. -/
theorem Draining.judge (h : Draining x c s u) {t : Tag} (plain : s.marks c.sec t = false) :
    Draining x c s (judge x t u).state ∧ (judge x t u).state.tables = u.tables ∧
      ((judge x t u).state.ctx x).map Context.park = (u.ctx x).map Context.park := by
  obtain ⟨d, walk, sec_d, walker, lease⟩ := h.walk
  have not_marker : (u.sec d.sec).endMarker ≠ some t := by
    rw [sec_d, h.endMarker]
    simpa [State.marks] using plain
  have kept := judge_kept walk not_marker
  obtain ⟨e, walk_e, lasting⟩ := kept.some walk
  have sec_e : e.sec = d.sec := congrArg Prod.fst lasting
  have walker_e : e.walker = d.walker := congrArg (fun q => q.2.1) lasting
  have park_e : e.park = d.park := congrArg (fun q => q.2.2.1) lasting
  have lease_e : e.lease = d.lease := congrArg (fun q => q.2.2.2) lasting
  refine ⟨⟨⟨e, walk_e, sec_e.trans sec_d, walker_e.trans walker, lease_e.trans lease⟩,
    fun X => (kept.sec X).trans (h.sec X), kept.claims.trans h.claims,
      kept.sendQueue.trans h.sendQueue,
    kept.watch.trans h.watch, (judge_same u x t).settings.trans h.settings, fun w k => ?_⟩,
    kept.tables, ?_⟩
  · rw [State.table, kept.tables]
    exact h.entries w k
  · rw [walk_e, walk, Option.map_some, Option.map_some, park_e]

end Draining

/-- The walk ended at the end marker's judgement, when it had come to `t` (R75, R97). -/
def DrainEnded (x : CtxId) (c : Context) (s u : State) : Prop :=
  ∃ t d, Draining x c s t ∧ t.ctx x = some d ∧ d.sec = c.sec ∧ d.walker = c.walker ∧
    u = t.completeWalk x d

section Steps
variable {x : CtxId} {c : Context} {s u : State}

theorem Draining.judge_ends (h : Draining x c s u) {t : Tag} (marker : s.marks c.sec t = true) :
    DrainEnded x c s (Machine.judge x t u).state := by
  obtain ⟨d, walk, sec_d, walker, lease⟩ := h.walk
  have is_marker : (u.sec d.sec).endMarker = some t := by
    rw [sec_d, h.endMarker]
    simpa [State.marks] using marker
  exact ⟨u, d, h, walk, sec_d, walker, by rw [judge_endMarker walk is_marker]⟩

/-! ### The park queue -/

theorem Draining.unpark (h : Draining x c s u) :
    Draining x c s (u.modCtx x fun d => { d with park := d.park.tail }) := by
  obtain ⟨d, walk, sec_d, walker, lease⟩ := h.walk
  exact h.of_same_walk (d := { d with park := d.park.tail })
    (by rw [State.ctx_modCtx, if_pos rfl, walk]; rfl)
    sec_d walker lease rfl rfl rfl rfl rfl fun _ _ => rfl

/-- The parked tags are judged with no end marker among them. -/
theorem Draining.parked (tags : List Tag) : ∀ {u : State}, Draining x c s u →
    (u.ctx x).map Context.park = some tags → tags.any (s.marks c.sec) = false →
    Draining x c s ((throughFirst (s.marks c.sec) tags).foldl (applyParked x) u) ∧
      ((throughFirst (s.marks c.sec) tags).foldl (applyParked x) u).tables = u.tables ∧
      (((throughFirst (s.marks c.sec) tags).foldl (applyParked x) u).ctx x).map Context.park =
        some [] := by
  induction tags with
  | nil => exact fun h park _ => ⟨h, rfl, park⟩
  | cons t rest ih =>
    intro u h park none_marks
    obtain ⟨plain, none_left⟩ : s.marks c.sec t = false ∧ rest.any (s.marks c.sec) = false := by
      simpa [List.any_cons, Bool.or_eq_false_iff] using none_marks
    obtain ⟨judged, tables, park_judged⟩ := h.unpark.judge plain
    have park_rest : ((applyParked x u t).ctx x).map Context.park = some rest := by
      refine park_judged.trans ?_
      obtain ⟨d, walk, its_park⟩ := Option.map_eq_some_iff.mp park
      rw [State.ctx_modCtx, if_pos rfl, walk, Option.map_some, Option.map_some, its_park]
      rfl
    obtain ⟨drained, tables_rest, park_end⟩ := ih judged park_rest none_left
    rw [throughFirst, plain]
    exact ⟨drained, tables_rest.trans tables, park_end⟩

/-- The end marker among the parked tags ends the walk. -/
theorem Draining.parked_ends (tags : List Tag) : ∀ {u : State}, Draining x c s u →
    tags.any (s.marks c.sec) = true →
    DrainEnded x c s ((throughFirst (s.marks c.sec) tags).foldl (applyParked x) u) := by
  induction tags with
  | nil => exact fun _ => nofun
  | cons t rest ih =>
    intro u h marked
    rw [throughFirst]
    cases marker : s.marks c.sec t with
    | true => exact h.unpark.judge_ends marker
    | false =>
      exact ih (h.unpark.judge marker).1 (by simpa [List.any_cons, marker] using marked)

/-! ### The WAITING entries -/

theorem Draining.confirm (h : Draining x c s u) {w : Wand} {i : Fin 24} {t : Tag} {a f : Nat}
    (waits : (u.table w).entries[i] = .waiting t a f) :
    Draining x c s (u.setTable w { u.table w with
      entries := (u.table w).entries.set i (.confirmed t u.settings.holdTicks a f) }) := by
  obtain ⟨d, walk, sec_d, walker, lease⟩ := h.walk
  refine h.of_same_walk (d := d) walk sec_d walker lease rfl rfl rfl rfl rfl fun v k => ?_
  rw [State.table_setTable]
  split
  next same =>
    subst same
    simp only [Fin.getElem_fin, Vector.getElem_set]
    split
    next here =>
      obtain rfl : i = k := Fin.ext here
      rw [Fin.getElem_fin] at waits
      rw [waits, h.settings]
      rfl
    next => rfl
  · rfl

/-- A WAITING entry of the walker with a tag that is not the end marker, made CONFIRMED. -/
theorem Draining.waiting (h : Draining x c s u) {w : Wand} {i : Fin 24}
    (plain : ((u.table w).entries[i].tag?).any (s.marks c.sec) = false) :
    Draining x c s (applyWaiting x w u i) ∧
      (∀ k : Fin 24, k ≠ i → ((applyWaiting x w u i).table w).entries[k] = (u.table w).entries[k]) ∧
      ((applyWaiting x w u i).table w).entries[i].isWaiting = false ∧
      ((applyWaiting x w u i).ctx x).map Context.park = (u.ctx x).map Context.park := by
  unfold applyWaiting
  cases entry : (u.table w).entries[i] with
  | waiting t a f =>
    rw [entry] at plain
    obtain ⟨judged, tables, park⟩ := (h.confirm entry).judge (t := t) plain
    have table : (Machine.judge x t (u.setTable w { u.table w with
        entries := (u.table w).entries.set i
          (.confirmed t u.settings.holdTicks a f) })).state.table w =
        { u.table w with
          entries := (u.table w).entries.set i (.confirmed t u.settings.holdTicks a f) } :=
      (congrArg (fun tables : Vector CandTable 16 => tables[w]) tables).trans
        ((State.table_setTable u w w _).trans (if_pos rfl))
    refine ⟨judged, fun k other => ?_, ?_, park⟩
    · rw [table]
      exact Vector.getElem_set_ne i.isLt k.isLt fun same => other (Fin.ext same.symm)
    · rw [table]
      exact congrArg Entry.isWaiting (Vector.getElem_set_self i.isLt)
  | free => exact ⟨h, fun _ _ => rfl, by rw [entry]; rfl, rfl⟩
  | gathering t score a => exact ⟨h, fun _ _ => rfl, by rw [entry]; rfl, rfl⟩
  | confirmed t hold a f => exact ⟨h, fun _ _ => rfl, by rw [entry]; rfl, rfl⟩

theorem Draining.tag (h : Draining x c s u) (w : Wand) (k : Fin 24) :
    (u.table w).entries[k].tag? = (s.table w).entries[k].tag? := by
  rw [← Entry.tag_release _ s.settings.holdTicks, h.entries, Entry.tag_release]

theorem Draining.waiting_ends (h : Draining x c s u) {w : Wand} {i : Fin 24}
    (marker : ((u.table w).entries[i].tag?).any (s.marks c.sec) = true)
    (waits : (u.table w).entries[i].isWaiting = true) :
    DrainEnded x c s (applyWaiting x w u i) := by
  unfold applyWaiting
  cases entry : (u.table w).entries[i] with
  | waiting t a f =>
    rw [entry] at marker
    exact (h.confirm entry).judge_ends (t := t) marker
  | free => rw [entry] at waits; cases waits
  | gathering t score a => rw [entry] at waits; cases waits
  | confirmed t hold a f => rw [entry] at waits; cases waits

/-- The entries that wait are judged with no end marker among them. -/
theorem Draining.drained {w : Wand} (order : List (Fin 24)) : ∀ {u : State}, Draining x c s u →
    (order.any fun i => ((s.table w).entries[i].tag?).any (s.marks c.sec)) = false →
    (∀ k : Fin 24, (u.table w).entries[k].isWaiting = true → k ∈ order) →
    ∀ v, v = (throughFirst (fun i => ((s.table w).entries[i].tag?).any (s.marks c.sec)) order).foldl
      (applyWaiting x w) u →
    Draining x c s v ∧ (∀ k : Fin 24, (v.table w).entries[k].isWaiting = false) ∧
      (v.ctx x).map Context.park = (u.ctx x).map Context.park := by
  induction order with
  | nil =>
    rintro u h _ all _ rfl
    exact ⟨h, fun k => Bool.eq_false_iff.mpr fun waits => List.not_mem_nil (all k waits), rfl⟩
  | cons i rest ih =>
    rintro u h none_marks all _ rfl
    rw [List.any_cons, Bool.or_eq_false_iff] at none_marks
    obtain ⟨plain, none_left⟩ := none_marks
    obtain ⟨judged, others, confirmed, park⟩ := h.waiting (w := w) (i := i) (by rwa [h.tag])
    have left (k : Fin 24) (waits : ((applyWaiting x w u i).table w).entries[k].isWaiting = true) :
        k ∈ rest := by
      by_cases here : k = i
      · subst here
        rw [confirmed] at waits
        cases waits
      · rw [others k here] at waits
        exact List.mem_of_ne_of_mem here (all k waits)
    obtain ⟨drained, none_waits, park_rest⟩ := ih judged none_left left _ rfl
    rw [throughFirst, plain]
    exact ⟨drained, none_waits, park_rest.trans park⟩

/-- The end marker among the WAITING entries ends the walk. -/
theorem Draining.drained_ends {w : Wand} (order : List (Fin 24)) : ∀ {u : State}, Draining x c s u →
    (order.any fun i => ((s.table w).entries[i].tag?).any (s.marks c.sec)) = true → order.Nodup →
    (∀ i ∈ order, (u.table w).entries[i].isWaiting = true) →
    DrainEnded x c s ((throughFirst (fun i => ((s.table w).entries[i].tag?).any (s.marks c.sec))
      order).foldl (applyWaiting x w) u) := by
  induction order with
  | nil => exact fun _ => nofun
  | cons i rest ih =>
    intro u h marked nodup all
    obtain ⟨new, nodup_rest⟩ := List.nodup_cons.mp nodup
    rw [throughFirst]
    cases marker : ((s.table w).entries[i].tag?).any (s.marks c.sec) with
    | true => exact h.waiting_ends (by rwa [h.tag]) (all i List.mem_cons_self)
    | false =>
      obtain ⟨judged, others, -, -⟩ := h.waiting (w := w) (i := i) (by rwa [h.tag])
      rw [List.any_cons, marker, Bool.false_or] at marked
      refine ih judged marked nodup_rest fun k mem => ?_
      rw [others k fun same => new (same ▸ mem)]
      exact all k (List.mem_cons_of_mem i mem)

end Steps

end Sys2Proof.Machine

/-! # Proofs: a revision closed on a walk -/

namespace Sys2Proof.Machine

section Drain
variable {x : CtxId} {c : Context} {v : State}

/-- The parked tags judged in queue order, up to an end marker (R95, step 1). -/
def State.parkDrained (v : State) (x : CtxId) (c : Context) : State :=
  (throughFirst (v.marks c.sec) c.park).foldl (applyParked x) v

theorem State.drain_eq (walk : v.ctx x = some c) : v.drain x c =
    (if c.park.any (v.marks c.sec) then v.parkDrained x c
      else c.walker.elim (v.parkDrained x c) fun w =>
        drainWaiting x w ((v.parkDrained x c).table w).waitingOrder (v.parkDrained x c),
      (throughFirst (v.marks c.sec) c.park).length) := by
  rw [State.drain, drainPark_eq c.park walk rfl]
  cases c.park.any (v.marks c.sec) <;> cases c.walker <;> rfl

theorem State.drain_applied (walk : v.ctx x = some c) :
    (v.drain x c).2 = (throughFirst (v.marks c.sec) c.park).length := by
  rw [State.drain_eq walk]

theorem State.drain_park_only (walk : v.ctx x = some c)
    (ended : c.walker = none ∨ c.park.any (v.marks c.sec) = true) :
    (v.drain x c).1 = v.parkDrained x c := by
  rw [State.drain_eq walk]
  rcases ended with idle | marked
  · rw [idle]
    exact ite_self _
  · rw [if_pos marked]

theorem State.parkDrained_draining (walk : v.ctx x = some c)
    (none_marks : c.park.any (v.marks c.sec) = false) :
    Draining x c v (v.parkDrained x c) ∧ (v.parkDrained x c).tables = v.tables ∧
      ((v.parkDrained x c).ctx x).map Context.park = some [] :=
  (Draining.refl walk).parked c.park (by rw [walk]; rfl) none_marks

theorem State.drain_waiting (walk : v.ctx x = some c) {w : Wand} (walker : c.walker = some w)
    (none_marks : c.park.any (v.marks c.sec) = false) : (v.drain x c).1 =
      (throughFirst (fun i => ((v.table w).entries[i].tag?).any (v.marks c.sec))
        (v.table w).waitingOrder).foldl (applyWaiting x w) (v.parkDrained x c) := by
  obtain ⟨drained, tables, -⟩ := State.parkDrained_draining walk none_marks
  obtain ⟨d, walk_d, sec_d, -, -⟩ := drained.walk
  have table : (v.parkDrained x c).table w = v.table w :=
    congrArg (fun tables : Vector CandTable 16 => tables[w]) tables
  rw [State.drain_eq walk, none_marks, walker]
  refine (drainWaiting_eq _ walk_d (CandTable.waitingOrder_nodup _) fun i mem => ?_).trans ?_
  · exact (CandTable.waitingSeq_ne_none _ i).mpr ((CandTable.mem_waitingOrder _ i).mp mem)
  · rw [table, sec_d, drained.marks]

/-- No end marker stands among the tags that a drain judges. -/
def State.DrainsPlain (v : State) (c : Context) : Prop :=
  c.park.any (v.marks c.sec) = false ∧ ∀ w, c.walker = some w →
    ((v.table w).waitingOrder.any fun i =>
      ((v.table w).entries[i].tag?).any (v.marks c.sec)) = false

theorem State.drain_goes_on (walk : v.ctx x = some c) (plain : v.DrainsPlain c) :
    Draining x c v (v.drain x c).1 ∧ ((v.drain x c).1.ctx x).map Context.park = some [] ∧
      ∀ w, c.walker = some w → ∀ k : Fin 24,
        (((v.drain x c).1).table w).entries[k].isWaiting = false := by
  obtain ⟨none_marks, none_marked⟩ := plain
  obtain ⟨drained, tables, park⟩ := State.parkDrained_draining walk none_marks
  cases walker : c.walker with
  | none =>
    rw [State.drain_park_only walk (.inl walker)]
    exact ⟨drained, park, nofun⟩
  | some w =>
    rw [State.drain_waiting walk walker none_marks]
    obtain ⟨going, none_wait, park_end⟩ :=
      drained.drained _ (none_marked w walker) (fun k waits => by
      rw [State.table, tables] at waits
      exact (CandTable.mem_waitingOrder _ k).mpr waits) _ rfl
    refine ⟨going, park_end.trans park, fun w' same => ?_⟩
    obtain rfl := Option.some.inj same
    exact none_wait

theorem State.drain_ends (walk : v.ctx x = some c) (marked : ¬ v.DrainsPlain c) :
    DrainEnded x c v (v.drain x c).1 := by
  cases in_park : c.park.any (v.marks c.sec) with
  | true =>
    rw [State.drain_park_only walk (.inr in_park)]
    exact (Draining.refl walk).parked_ends c.park in_park
  | false =>
    obtain ⟨w, walker, waits⟩ : ∃ w, c.walker = some w ∧ ((v.table w).waitingOrder.any fun i =>
        ((v.table w).entries[i].tag?).any (v.marks c.sec)) ≠ false := by
      by_contra none_marked
      push Not at none_marked
      exact marked ⟨in_park, none_marked⟩
    obtain ⟨drained, tables, -⟩ := State.parkDrained_draining walk in_park
    rw [State.drain_waiting walk walker in_park]
    refine drained.drained_ends _ (Bool.ne_false_iff.mp waits) (CandTable.waitingOrder_nodup _)
      fun i mem => ?_
    rw [State.table, tables]
    exact (CandTable.mem_waitingOrder _ i).mp mem

theorem State.drainsPlain_of_unmarked (unmarked : (v.sec c.sec).endMarker = none) :
    v.DrainsPlain c := by
  have none_mark (t : Tag) : v.marks c.sec t = false := by
    rw [State.marks, unmarked]
    rfl
  refine ⟨List.any_eq_false.mpr fun t _ => by rw [none_mark]; exact Bool.false_ne_true,
    fun w _ => List.any_eq_false.mpr fun i _ => ?_⟩
  cases (v.table w).entries[i].tag? with
  | none => exact Bool.false_ne_true
  | some t =>
    rw [Option.any_some, none_mark]
    exact Bool.false_ne_true

end Drain

end Sys2Proof.Machine

/-! # Proofs: REV_CLOSE of a walked section -/

namespace Sys2Proof.Machine

section Ended
variable {x : CtxId} {c : Context} {s u : State}

theorem DrainEnded.sent (h : DrainEnded x c s u) :
    ∃ notices, u.sendQueue = s.sendQueue ++ notices := by
  obtain ⟨t, d, going, -, -, -, rfl⟩ := h
  obtain ⟨notices, sent, -⟩ := State.completeWalk_completes (s := t) (x := x) (c := d)
  exact ⟨notices, by rw [sent, going.sendQueue]⟩

theorem DrainEnded.watch (h : DrainEnded x c s u) : u.watch = s.watch := by
  obtain ⟨t, d, going, -, -, -, rfl⟩ := h
  exact (State.completeWalk_watch t x d).trans going.watch

theorem DrainEnded.entries (h : DrainEnded x c s u) {w : Wand} (walker : c.walker = some w)
    (k : Fin 24) :
    (u.table w).entries[k] = (s.table w).entries[k].release s.settings.holdTicks := by
  obtain ⟨t, d, going, -, -, walker_d, rfl⟩ := h
  obtain ⟨_, _, _, _, released, _⟩ := State.completeWalk_completes (s := t) (x := x) (c := d)
  rw [← going.entries w k, ← going.settings]
  refine (released w (walker_d.trans walker) k).trans ?_
  cases (t.table w).entries[k] <;> rfl

/-- The end marker tallies the section, and the oldest waiter begins a new walk (R75, R102). -/
theorem DrainEnded.tallied (h : DrainEnded x c s u) :
    (u.sec c.sec).walks = min 255 ((s.sec c.sec).walks + 1) ∧
      u.events.raw.getLsbD EventKind.walkDone.bit = true ∧
      ((∀ q ∈ s.claims, q.sec ≠ c.sec) → (u.sec c.sec).state = .tallied ∧ u.ctx x = none) ∧
      ((∃ q ∈ s.claims, q.sec = c.sec) → (u.sec c.sec).state = .walking) := by
  obtain ⟨t, d, going, -, sec_d, -, rfl⟩ := h
  obtain ⟨notices, -, -, -, -, -, -, attends, changed, -, -, events, none_wait, granted⟩ :=
    State.completeWalk_completes (s := t) (x := x) (c := d)
  rw [sec_d, going.claims] at none_wait granted
  have walks : (t.sec c.sec).walks = (s.sec c.sec).walks :=
    (congrArg SectionRec.walks (going.sec c.sec) : _)
  have done : (t.completeWalk x d).events.raw.getLsbD EventKind.walkDone.bit = true := by
    rw [events, BitVec.getLsbD_or]
    exact Bool.or_eq_true_iff.mpr (.inr rfl)
  refine (and_left_comm.mp ⟨done, ?_⟩)
  cases found : s.claims.find? fun q => q.sec = c.sec with
  | none =>
    have idle : ∀ q ∈ s.claims, q.sec ≠ c.sec := fun q mem => by
      simpa using List.find?_eq_none.mp found q mem
    obtain ⟨-, -, freed, -, sec⟩ := none_wait idle
    rw [sec, ← walks]
    exact ⟨rfl, fun _ => ⟨rfl, freed⟩, fun ⟨q, mem, waits⟩ => absurd waits (idle q mem)⟩
  | some q =>
    obtain ⟨y, -, -, -, -, -, sec⟩ := granted q found
    have waits : q.sec = c.sec := by simpa using List.find?_some found
    rw [sec, ← walks]
    exact ⟨rfl, fun idle => absurd waits (idle q (List.mem_of_find?_eq_some found)), fun _ => rfl⟩

end Ended

section Close
variable {x : CtxId} {c : Context} {s : State}

theorem State.closeRevision_walked (names : (s.sec c.sec).context = some x)
    (walk : s.ctx x = some c) :
    s.closeRevision c.sec = (s.shut c.sec).drain x c := by
  unfold State.closeRevision State.shut
  simp only [names, walk]

theorem State.shut_contexts (S : SecId) : (s.shut S).contexts = s.contexts := by
  rw [State.shut_eq]

theorem State.shut_marks (S : SecId) : (s.shut S).marks S = s.marks S :=
  State.marks_eq (by rw [State.sec_shut, if_pos rfl])

/-- What a drain sends, matches and leaves of the walker's entries, whether or not the walk ends. -/
theorem State.drain_always {v : State} (walk : v.ctx x = some c) :
    (∃ notices, (v.drain x c).1.sendQueue = v.sendQueue ++ notices) ∧
      (v.drain x c).1.watch = v.watch ∧
      ∀ w, c.walker = some w → ∀ k : Fin 24, (((v.drain x c).1).table w).entries[k] =
        (v.table w).entries[k].release v.settings.holdTicks := by
  by_cases plain : v.DrainsPlain c
  · obtain ⟨going, -, none_wait⟩ := State.drain_goes_on walk plain
    refine ⟨⟨[], by rw [going.sendQueue, List.append_nil]⟩, going.watch, fun w walker k => ?_⟩
    rw [← going.entries w k]
    have not_waiting := none_wait w walker k
    cases entry : (((v.drain x c).1).table w).entries[k] with
    | waiting t a f =>
      rw [entry] at not_waiting
      cases not_waiting
    | free => rfl
    | gathering t score a => rfl
    | confirmed t hold a f => rfl
  · have ended := State.drain_ends walk plain
    exact ⟨ended.sent, ended.watch, fun w walker k => ended.entries walker k⟩

end Close

/-- Settles O35. -/
theorem revCloseDrainsTheWalk : Obligations.RevCloseDrainsTheWalk := by
  unfold Obligations.RevCloseDrainsTheWalk
  intro S x c s serves revised names walk own
  subst own
  have only : s.shut c.sec = _ := State.shut_eq
  have body : requestBody (.revClose c.sec.val) s = _ := revCloseBody_eq.trans (if_neg revised)
  rw [State.closeRevision_walked names walk] at body
  have walk_v : (s.shut c.sec).ctx x = some c :=
    (State.ctx_of_contexts (State.shut_contexts _) x).trans walk
  have marks := s.shut_marks c.sec
  have sec_v := s.sec_shut c.sec
  obtain ⟨v, is_v⟩ : ∃ v, v = s.shut c.sec := ⟨_, rfl⟩
  rw [← is_v] at only body walk_v marks sec_v
  obtain ⟨⟨notices, sent⟩, watch, entries⟩ := State.drain_always walk_v
  have applied := State.drain_applied walk_v
  rw [marks] at applied
  have table_v (w : Wand) : v.table w = s.table w := by
    rw [only]
    rfl
  have claims_v : v.claims = s.claims := by rw [only]
  have queue_v : v.sendQueue = s.sendQueue := by rw [only]
  have settings_v : v.settings = s.settings := by rw [only]
  have watch_v : v.watch = s.watch := by rw [only]
  rw [applied] at body
  refine ⟨_, v, v.parkDrained x c, s.marks c.sec, ((v.drain x c).1.ctx x).getD c, fun t => ?_, only,
    (sec_v c.sec).trans (if_pos rfl), fun X other => (sec_v X).trans (if_neg other), ?_,
    answers_eq rfl serves body, ?_, watch.trans watch_v, fun ended => ?_,
    fun w order walker none_marks inOrder => ?_, fun w walker k => ?_, fun marked => ?_,
    fun unmarked => ?_⟩
  · exact decide_eq_true_iff
  · rw [State.parkDrained, marks]
  · show (v.drain x c).1.sendQueue.take _ = _
    rw [sent, queue_v, List.take_left]
  · rw [← marks] at ended
    rw [← State.drain_park_only walk_v ended]
    rfl
  · rw [← marks] at none_marks
    have drained := State.drain_waiting walk_v walker none_marks
    rw [marks, table_v, ← inOrder.eq_waitingOrder] at drained
    rw [← drained]
    rfl
  · refine (entries w walker k).trans ?_
    rw [table_v, settings_v]
    cases (s.table w).entries[k] <;> rfl
  · have not_plain : ¬ v.DrainsPlain c := fun plain => by
      rw [← marks, plain.1] at marked
      cases marked
    have tallied := (State.drain_ends walk_v not_plain).tallied
    rw [claims_v, sec_v, if_pos rfl] at tallied
    exact tallied
  · have plain : v.DrainsPlain c := State.drainsPlain_of_unmarked
      (by rw [sec_v, if_pos rfl]; exact unmarked)
    obtain ⟨going, park, -⟩ := State.drain_goes_on walk_v plain
    obtain ⟨d, walk_d, sec_d, walker_d, lease_d⟩ := going.walk
    have revision : ((v.drain x c).1.sec c.sec).revision = (v.sec c.sec).revision :=
      (congrArg SectionRec.revision (going.sec c.sec) : _)
    rw [walk_d] at park ⊢
    exact ⟨walk_d, sec_d, Option.some.inj park, walker_d, lease_d, going.sendQueue.trans queue_v,
      revision.trans (by rw [sec_v, if_pos rfl])⟩

end Sys2Proof.Machine

/-! # Proofs: the reads of a frame in their order -/

namespace Sys2Proof.Machine

/-! ### The reads one after another -/

/-- The state before read `k` of a frame (R32). -/
def readStage (w : Wand) (reads : List TagRead) (s : State) (k : Nat) : State :=
  (reads.take k).foldl (fun t r => (readOne w r t).state) s

/-- What read `k` of a frame gives (R32). -/
def readAt (w : Wand) (reads : List TagRead) (s : State) (k : Fin reads.length) : ReadDone :=
  readOne w reads[k] (readStage w reads s k)

section Reads
variable {w : Wand} {s : State}

theorem readStage_succ (reads : List TagRead) (k : Fin reads.length) :
    readStage w reads s (k + 1) = (readAt w reads s k).state := by
  rw [readStage, List.take_succ_eq_append_getElem k.isLt, List.foldl_append]
  rfl

/-- The reads of a frame give what each gives against the state that the read before it left. -/
theorem readAll_eq (reads : List TagRead) : ∀ s, readAll w reads s =
    ⟨readStage w reads s reads.length,
      (List.finRange reads.length).flatMap fun k => (readAt w reads s k).outcome.toList,
      (List.finRange reads.length).countP fun k => (readAt w reads s k).saturated⟩ := by
  induction reads with
  | nil => exact fun _ => rfl
  | cons r rest ih =>
    intro s
    have all : List.finRange (r :: rest).length = 0 :: (List.finRange rest.length).map Fin.succ :=
      List.finRange_succ
    rw [readAll_cons, ih, all, List.flatMap_cons, List.flatMap_map,
      List.countP_cons, List.countP_map, Nat.add_comm]
    rfl

/-- A read whose weight is 0 changes nothing (R28). -/
theorem readOne_weightless {r : TagRead} (low : r.strength.toNat ≤ s.settings.readFloor) :
    readOne w r s = s.quiet := by
  rw [readOne, Settings.weight, Nat.sub_eq_zero_of_le low]
  rfl

theorem readAll_weightless (reads : List TagRead)
    (low : ∀ r ∈ reads, r.strength.toNat ≤ s.settings.readFloor) :
    readAll w reads s = ⟨s, [], 0⟩ := by
  induction reads with
  | nil => rfl
  | cons r rest ih =>
    rw [readAll_cons, readOne_weightless (low r List.mem_cons_self)]
    show (⟨(readAll w rest s).state, [] ++ (readAll w rest s).outcomes,
      0 + (readAll w rest s).saturated⟩ :
      ReadsDone) = _
    rw [ih fun q mem => low q (List.mem_cons_of_mem r mem)]
    rfl

theorem sightBody_eq {reads : List TagRead} (some_read : 1 ≤ reads.length)
    (few : reads.length ≤ 8) :
    sightBody w reads s = ⟨(readAll w reads s).state, .ok,
      .num8 (readAll w reads s).saturated :: .num8 (readAll w reads s).outcomes.length ::
        (readAll w reads s).outcomes.map Field.sighting⟩ := by
  have accepted : ¬(reads.length = 0 ∨ Config.maxReads < reads.length) := by
    rw [show Config.maxReads = 8 from rfl]
    omega
  have single : ((readAll w reads s).outcomes.map fun o => [Field.sighting o]).flatten =
      (readAll w reads s).outcomes.map Field.sighting := by
    rw [← List.flatMap_def, List.map_eq_flatMap]
  rw [sightBody, if_neg accepted]
  dsimp only
  rw [listFields, List.length_map, single]

end Reads

/-! ### The end marker among the reads -/

section Marker
variable {w : Wand} {s : State}

theorem WalksBut.begun (h : WalksBut none s) (w : Wand) : WalksBut none (s.begun w) :=
  (h.of_same (.of_eq (u := { s with
    rxQueue := s.rxQueue.tail, lastFrame := s.lastFrame.set w (some s.clock) })
    (fun _ => ⟨rfl, rfl⟩) fun _ => rfl)).loadLeaseOf w |>.of_same
      (.of_eq (fun _ => ⟨rfl, rfl⟩) fun _ => rfl)

theorem readOne_walks (h : WalksBut none s) (r : TagRead) : WalksBut none (readOne w r s).state :=
  (readOne_effects s w r).reaches.walks h

theorem readStage_walks (reads : List TagRead) : ∀ {s : State}, WalksBut none s → ∀ k,
    WalksBut none (readStage w reads s k) := by
  induction reads with
  | nil =>
    intro s h k
    rwa [readStage, List.take_nil]
  | cons r rest ih =>
    intro s h k
    cases k with
    | zero => exact h
    | succ k => exact ih (readOne_walks h r) k

/-- A wand that walks nothing walks nothing after later reads of its frame (R36). -/
theorem readStage_idle (reads : List TagRead) {j : Nat}
    (idle : (readStage w reads s j).walkOf w = none) : ∀ k, j ≤ k →
    (readStage w reads s k).walkOf w = none := by
  refine Nat.le_induction idle fun k _ ih => ?_
  by_cases inside : k < reads.length
  · have next := readStage_succ (w := w) (s := s) reads ⟨k, inside⟩
    rw [show readStage w reads s (k + 1) = _ from next]
    exact (State.walkOf_of_contexts (readOne_roams ih _).1 w).trans ih
  · rwa [readStage, List.take_of_length_le (by omega), ← List.take_of_length_le (not_lt.mp inside)]

/-- The wand whose walk the end marker completes walks nothing then, for no waiter walks (R49, R75).
-/
theorem WalksBut.idle_completeWalk (h : WalksBut none s) {x : CtxId} {c : Context}
    (walk : s.ctx x = some c) (walker : c.walker = some w) :
    (s.completeWalk x c).walkOf w = none := by
  have only_here (z : CtxId) (d : Context) (other : z ≠ x) (at_z : s.ctx z = some d) :
      d.walker ≠ some w := fun its => other (h.once z x d c w at_z walk its walker)
  obtain ⟨_, -, -, -, -, -, -, _, _, -, -, -, none_wait, granted⟩ :=
    State.completeWalk_completes (s := s) (x := x) (c := c)
  refine State.idle_iff.mpr fun z d at_z => ?_
  cases found : s.claims.find? fun q => q.sec = c.sec with
  | none =>
    obtain ⟨-, -, freed, others, -⟩ := none_wait fun q mem => by
      simpa using List.find?_eq_none.mp found q mem
    by_cases here : z = x
    · rw [here, freed] at at_z
      cases at_z
    · exact only_here z d here ((others z here).symm.trans at_z)
  | some q =>
    obtain ⟨y, -, -, -, -, ctx, -⟩ := granted q found
    rw [ctx] at at_z
    split at at_z
    · cases at_z
      intro same
      have waiter : q.wand = w := Option.some.inj same
      exact h.idle q (List.mem_of_find?_eq_some found) x c walk (waiter ▸ walker)
    · split at at_z
      · cases at_z
      next other => exact only_here z d other at_z

end Marker

end Sys2Proof.Machine

/-! # Proofs: what a SIGHT answers and changes -/

namespace Sys2Proof.Machine

section Marker
variable {w : Wand} {s : State}

theorem SameWalks.setTable (v : Wand) (t : CandTable) : SameWalks s (s.setTable v t) :=
  .of_eq (fun _ => ⟨rfl, rfl⟩) fun _ => rfl

theorem SameWalks.matchWatch (w : Wand) (t : Tag) : SameWalks s (s.matchWatch w t).1 := by
  unfold State.matchWatch
  split
  · exact .refl s
  · exact .of_eq (fun _ => ⟨rfl, rfl⟩) fun _ => rfl

theorem WalksBut.idle_deliver (h : WalksBut none s) {i : Fin 24} {t : Tag}
    (marker : (s.deliver w i t).outcome.verdict = .marker) :
    (s.deliver w i t).state.walkOf w = none := by
  unfold State.deliver at marker ⊢
  cases walks : s.walkOf w with
  | none =>
    rw [walks] at marker
    cases marker
  | some x =>
    obtain ⟨c, walk, walker⟩ := s.walkOf_eq_some walks
    simp only [walks, walk] at marker ⊢
    split at marker
    next closed =>
      have judged : judge x t s = judgeWalk x c t s := by rw [judge, walk]
      rw [← judged] at marker
      rw [if_pos closed, ← judged, judge_endMarker walk ((judge_marker walk t).mp marker)]
      exact h.idle_completeWalk walk walker
    next revised =>
      split at marker <;> cases marker

theorem WalksBut.idle_confirmEntry (h : WalksBut none s) {i : Fin 24} {t : Tag} {a : Nat}
    (marker : (s.confirmEntry w i t a).outcome.verdict = .marker) :
    (s.confirmEntry w i t a).state.walkOf w = none := by
  refine WalksBut.idle_deliver (w := w) (i := i) ?_ marker
  exact (h.of_same (.setTable w ((s.table w).confirm i t a s.settings.holdTicks))).of_same
    (.matchWatch w t)

/-- The read that judges the end marker leaves its wand without a walk (R75). -/
theorem WalksBut.idle_readOne (h : WalksBut none s) {r : TagRead} {o : Sighting}
    (confirms : (readOne w r s).outcome = some o) (marker : o.verdict = .marker) :
    (readOne w r s).state.walkOf w = none := by
  unfold readOne at confirms ⊢
  dsimp only at confirms ⊢
  split at confirms
  · cases confirms
  rw [if_neg ‹_›]
  split at confirms
  next i position =>
    unfold readHeld at confirms ⊢
    dsimp only at confirms ⊢
    split at confirms
    next tag score a entry =>
      split at confirms
      next reaches =>
        cases confirms
        rw [if_pos reaches]
        exact h.idle_confirmEntry marker
      next => cases confirms
    all_goals cases confirms
  next position =>
    unfold readNew at confirms ⊢
    dsimp only at confirms ⊢
    split at confirms
    next => cases confirms
    next i room =>
      split at confirms
      next reaches =>
        cases confirms
        rw [if_pos reaches]
        exact (h.of_same (.setTable w ((s.table w).allocate i r.tag _))).idle_confirmEntry marker
      next => cases confirms

end Marker

end Sys2Proof.Machine

/-! # Proofs: reads that gather, refresh or allocate -/

namespace Sys2Proof.Machine

/-! ### One read of positive weight -/

section OneRead
variable {w : Wand} {tag : Tag} {strength : Byte} {weight : Nat} {i : Fin 24} {s : State}

/-- The strength of a read exceeds the floor by its weight (R28). -/
structure Weighs (s : State) (strength : Byte) (weight : Nat) : Prop where
  positive : 0 < weight
  strength : strength.toNat = s.settings.readFloor + weight

theorem Weighs.weight_eq (h : Weighs s strength weight) : s.settings.weight strength = weight := by
  rw [Settings.weight, h.strength, Nat.add_sub_cancel_left]

theorem readOne_held (h : Weighs s strength weight) (sound : (s.table w).Sound)
    (holds : (s.table w).entries[i].tag? = some tag) :
    readOne w ⟨tag, strength⟩ s = readHeld w i weight s := by
  simp only [readOne, h.weight_eq, if_neg h.positive.ne', CandTable.position_of_holds sound holds]

theorem readOne_new (h : Weighs s strength weight)
    (absent : ∀ j : Fin 24, (s.table w).entries[j].tag? ≠ some tag) :
    readOne w ⟨tag, strength⟩ s = readNew w tag weight s := by
  have position : (s.table w).position? tag = none :=
    find_finRange_eq_none.mpr fun j => by simpa using absent j
  simp only [readOne, h.weight_eq, if_neg h.positive.ne', position]

theorem readNew_allocates (room : (s.table w).room = some i)
    (below : weight < s.settings.confirmThreshold) :
    readNew w tag weight s = (s.setTable w ((s.table w).allocate i tag weight)).quiet := by
  simp only [readNew, room, if_neg (not_le.mpr below)]

theorem State.setTable_self (s : State) (w : Wand) : s.setTable w (s.table w) = s := by
  rw [State.setTable, State.table]
  simp

theorem CandTable.room_of_free {t : CandTable} (free : t.entries[i] = .free)
    (lowest : ∀ j : Fin 24, j < i → t.entries[j] ≠ .free) : t.room = some i := by
  have found : t.lowestFree = some i :=
    find_finRange_eq_some.mpr ⟨by simpa using free, fun j below => by simpa using lowest j below⟩
  rw [CandTable.room, found]
  rfl

/-- The table with one entry written (R29, R30). -/
structure EntryWritten (t t' : CandTable) (i : Fin 24) (e : Entry) (next : Nat) : Prop where
  entry : t'.entries[i] = e
  nextAlloc : t'.nextAlloc = next
  nextConf : t'.nextConf = t.nextConf
  others : ∀ j : Fin 24, j ≠ i → t'.entries[j] = t.entries[j]

theorem EntryWritten.set (t : CandTable) (i : Fin 24) (e : Entry) (next : Nat) :
    EntryWritten t { t with entries := t.entries.set i e, nextAlloc := next } i e next where
  entry := Vector.getElem_set_self i.isLt
  nextAlloc := rfl
  nextConf := rfl
  others j other := Vector.getElem_set_ne i.isLt j.isLt fun same => other (Fin.ext same.symm)

/-- A read that confirms nothing writes one entry of the wand's table (R29, R30). -/
theorem readOne_writes (h : Weighs s strength weight) (sound : (s.table w).Sound) {e e' : Entry}
    {next' : Nat} (entry : (s.table w).entries[i] = e)
    (reads : (∃ score a, e = .gathering tag score a ∧ next' = (s.table w).nextAlloc ∧
          min 1023 (score + weight) < s.settings.confirmThreshold ∧
          e' = .gathering tag (min 1023 (score + weight)) a) ∨
        (∃ hold a f, e = .confirmed tag hold a f ∧ next' = (s.table w).nextAlloc ∧
          e' = .confirmed tag s.settings.holdTicks a f) ∨
        (∃ a f, e = .waiting tag a f ∧ next' = (s.table w).nextAlloc ∧ e' = e) ∨
        ((∀ j : Fin 24, (s.table w).entries[j].tag? ≠ some tag) ∧ e = .free ∧
          (∀ j : Fin 24, j < i → (s.table w).entries[j] ≠ .free) ∧
          weight < s.settings.confirmThreshold ∧ next' = (s.table w).nextAlloc + 1 ∧
          e' = .gathering tag weight (s.table w).nextAlloc)) :
    ∃ t', readOne w ⟨tag, strength⟩ s = (s.setTable w t').quiet ∧
      EntryWritten (s.table w) t' i e' next' := by
  rcases reads with ⟨score, a, rfl, rfl, below, rfl⟩ | ⟨hold, a, f, rfl, rfl, rfl⟩ |
    ⟨a, f, rfl, rfl, rfl⟩ | ⟨absent, rfl, lowest, below, rfl, rfl⟩
  · refine ⟨_, (readOne_held h sound (by rw [entry]; rfl)).trans ?_, .set _ i _ _⟩
    simp only [readHeld, entry]
    exact if_neg (not_le.mpr below)
  · refine ⟨_, (readOne_held h sound (by rw [entry]; rfl)).trans ?_, .set _ i _ _⟩
    simp only [readHeld, entry]
  · refine ⟨s.table w, (readOne_held h sound (by rw [entry]; rfl)).trans ?_, ⟨entry, rfl, rfl,
      fun _ _ => rfl⟩⟩
    simp only [readHeld, entry, State.setTable_self]
  · exact ⟨_, (readOne_new h absent).trans
      (readNew_allocates (CandTable.room_of_free entry lowest) below), .set _ i _ _⟩

end OneRead

/-! ### The SIGHT of one read that confirms nothing -/

section Unconfirmed
variable {w : Wand} {r : TagRead} {s v : State}

theorem sightBody_unconfirmed {saturated : Bool} (read : readOne w r s = ⟨v, none, saturated⟩) :
    sightBody w [r] s = ⟨v, .ok, [.num8 (if saturated then 1 else 0), .num8 0]⟩ := by
  rw [sightBody_eq (reads := [r]) (le_refl 1) (by simp), readAll_cons, read]
  rfl

/-- The taking of a SIGHT of one read that confirms nothing. -/
theorem taken_unconfirmed (takes : s.Takes (.sight w [r])) (going : s.campaign ≠ .paused)
    {saturated : Bool} (read : readOne w r (s.begun w) = ⟨v, none, saturated⟩)
    (only : v = { s.begun w with tables := v.tables, events := v.events }) :
    ∃ u, Taken s (.sight w [r]) u .ok [.num8 (if saturated then 1 else 0), .num8 0] [] ∧
      u = { s with
        tables := v.tables
        events := v.events
        contexts := u.contexts
        lastFrame := u.lastFrame
        rxQueue := u.rxQueue
        sendQueue := u.sendQueue } ∧
      ∀ x : CtxId, u.ctx x = s.leaseLoaded w x := by
  have body : frameBody (.sight w [r]) (s.begun w) = _ :=
    (unlessPaused_begun going w _).trans (sightBody_unconfirmed read)
  have none_sent : v.sendQueue = [] := by rw [only]; rfl
  have taken := taken_body (i := .sight w [r]) rfl takes body
  dsimp only at taken
  rw [none_sent] at taken
  obtain ⟨same, ctx⟩ := s.begun_sending w (s.sendQueue ++
    [.answer w 0x02 .ok [.num8 (if saturated then 1 else 0), .num8 0]])
  refine ⟨_, taken, ?_, fun x => ?_⟩
  · rw [only]
    exact congrArg (fun t : State => { t with tables := v.tables, events := v.events }) same
  · rw [only]
    exact ctx x

/-- The taking of a SIGHT whose one read writes one table. -/
theorem taken_written {t' : CandTable} {i : Fin 24} {e : Entry} {next : Nat}
    (takes : s.Takes (.sight w [r])) (going : s.campaign ≠ .paused)
    (read : readOne w r (s.begun w) = ((s.begun w).setTable w t').quiet)
    (written : EntryWritten (s.table w) t' i e next) :
    ∃ u, Taken s (.sight w [r]) u .ok [.num8 0, .num8 0] [] ∧
      u = { s with
        tables := u.tables
        contexts := u.contexts
        lastFrame := u.lastFrame
        rxQueue := u.rxQueue
        sendQueue := u.sendQueue } ∧
      (∀ x : CtxId, u.ctx x = s.leaseLoaded w x) ∧
      (∀ v : Wand, v ≠ w → u.table v = s.table v) ∧
      (u.table w).entries[i] = e ∧ (u.table w).nextAlloc = next ∧
      (u.table w).nextConf = (s.table w).nextConf ∧
      ∀ j : Fin 24, j ≠ i → (u.table w).entries[j] = (s.table w).entries[j] := by
  obtain ⟨u, taken, same, ctx⟩ := taken_unconfirmed takes going read rfl
  have table (v : Wand) : u.table v = if v = w then t' else s.table v := by
    rw [same]
    refine ((s.begun w).table_setTable w v t').trans ?_
    rw [State.begun_table_eq]
  refine ⟨u, taken, ?_, ctx, fun v other => (table v).trans (if_neg other), ?_, ?_, ?_,
    fun j other => ?_⟩
  · have events : ((s.begun w).setTable w t').events = s.events := s.begun_events w
    rw [events] at same
    rw [same]
  · rw [table, if_pos rfl, written.entry]
  · rw [table, if_pos rfl, written.nextAlloc]
  · rw [table, if_pos rfl, written.nextConf]
  · rw [table, if_pos rfl, written.others j other]

end Unconfirmed

end Sys2Proof.Machine

/-! # Proofs: SIGHT frames -/

namespace Sys2Proof.Machine

/-- Settles O23. -/
theorem readsGatherRefreshOrAllocate : Obligations.ReadsGatherRefreshOrAllocate := by
  unfold Obligations.ReadsGatherRefreshOrAllocate
  refine ⟨fun w reads s takes going some_read few low => ?_,
    fun w reads s takes going some_read few => ?_,
    fun w tag strength weight i s takes going positive weighs sound e e' next' entry reads => ?_⟩
  · have body : frameBody (.sight w reads) (s.begun w) =
        (s.begun w).reply .ok [.num8 0, .num8 0] := by
      refine (unlessPaused_begun going w _).trans ?_
      rw [sightBody_eq some_read few, readAll_weightless reads fun r mem => by
        rw [State.begun_settings]
        exact low r mem]
      rfl
    obtain ⟨u, taken, same, ctx⟩ := taken_reply rfl takes body
    exact ⟨u, taken, same, ctx⟩
  · have body : frameBody (.sight w reads) (s.begun w) = _ :=
      (unlessPaused_begun going w _).trans (sightBody_eq some_read few)
    rw [readAll_eq] at body
    have taken := taken_body (i := .sight w reads) rfl takes body
    refine ⟨_, readStage w reads (s.begun w), readAt w reads (s.begun w), _, s.begun_eq w,
      fun x => State.ctx_begun s w x, fun k => rfl, fun k => readStage_succ reads k,
        rfl, taken, rfl,
      fun k idle o confirms => (readOne_roams idle _).2 o confirms,
      fun sound j k o before confirms marker o' later => ?_⟩
    have walks := readStage_walks (w := w) reads ((walksSound_iff.mp sound).begun w) j
    have ended : (readStage w reads (s.begun w) (j + 1)).walkOf w = none := by
      rw [readStage_succ reads j]
      exact walks.idle_readOne confirms marker
    exact (readOne_roams (readStage_idle reads ended k before) _).2 o' later
  · have weighs_begun : Weighs (s.begun w) strength weight :=
      ⟨positive, by rw [State.begun_settings]; exact weighs⟩
    have table : (s.begun w).table w = s.table w := State.begun_table_eq s w w
    obtain ⟨t', read, written⟩ := readOne_writes (i := i) (e := e) (e' := e') (next' := next')
      (tag := tag)
      weighs_begun (table ▸ sound) (by rw [table]; exact entry)
      (by simpa only [table, State.begun_settings] using reads)
    rw [table] at written
    exact taken_written takes going read written

end Sys2Proof.Machine

/-! # Proofs: eviction from a candidate table -/

namespace Sys2Proof.Machine

/-! ### The least key -/

theorem keyBefore_iff (a b : Nat × Nat) : keyBefore a b = true ↔ a.1 < b.1 ∨
    (a.1 = b.1 ∧ a.2 < b.2) := by
  simp [keyBefore]

theorem keyBefore_asymm {a b : Nat × Nat} (h : keyBefore a b = true) : ¬ keyBefore b a = true := by
  rw [keyBefore_iff] at *
  omega

section LeastKey
variable {key : Fin 24 → Option (Nat × Nat)}

theorem leastKey_of_none (l : List (Fin 24)) (none_keyed : ∀ j ∈ l, key j = none) :
    leastKey key l = none := by
  induction l with
  | nil => rfl
  | cons j rest ih =>
    rw [leastKey, none_keyed j List.mem_cons_self, ih fun k mem =>
      none_keyed k (List.mem_cons_of_mem j mem)]

theorem leastKey_key (l : List (Fin 24)) : ∀ {j : Fin 24} {k : Nat × Nat},
    leastKey key l = some (j, k) → j ∈ l ∧ key j = some k := by
  induction l with
  | nil => exact nofun
  | cons i rest ih =>
    intro j k found
    rw [leastKey] at found
    cases key_i : key i with
    | none =>
      rw [key_i] at found
      exact ⟨List.mem_cons_of_mem i (ih found).1, (ih found).2⟩
    | some ki =>
      cases best : leastKey key rest with
      | none =>
        rw [key_i, best] at found
        cases found
        exact ⟨List.mem_cons_self, key_i⟩
      | some q =>
        obtain ⟨j', k'⟩ := q
        rw [key_i, best] at found
        dsimp only at found
        split at found
        · cases found
          exact ⟨List.mem_cons_of_mem i (ih best).1, (ih best).2⟩
        · cases found
          exact ⟨List.mem_cons_self, key_i⟩

/-- The position whose key comes before every other has the least key. -/
theorem leastKey_of_least {i : Fin 24} {k : Nat × Nat} (key_i : key i = some k) (l : List (Fin 24))
    (mem : i ∈ l) (least : ∀ j ∈ l, j ≠ i → ∀ kj, key j = some kj → keyBefore k kj = true) :
    leastKey key l = some (i, k) := by
  induction l with
  | nil => cases mem
  | cons j rest ih =>
    rw [leastKey]
    by_cases here : j = i
    · subst here
      rw [key_i]
      cases best : leastKey key rest with
      | none => rfl
      | some q =>
        obtain ⟨j', k'⟩ := q
        obtain ⟨mem', key_j'⟩ := leastKey_key rest best
        dsimp only
        by_cases same : j' = j
        · subst same
          obtain rfl : k' = k := Option.some.inj (key_j'.symm.trans key_i)
          exact ite_self _
        · exact if_neg (keyBefore_asymm (least j' (List.mem_cons_of_mem j mem') same k' key_j'))
    · rw [ih (List.mem_of_ne_of_mem (Ne.symm here) mem)
        fun q mem' => least q (List.mem_cons_of_mem j mem')]
      cases key_j : key j with
      | none => rfl
      | some kj => exact if_pos (least j List.mem_cons_self here kj key_j)

end LeastKey

/-! ### The entry evicted -/

section Victim
variable {t : CandTable} {i : Fin 24}

theorem CandTable.room_of_full (full : ∀ j : Fin 24, t.entries[j] ≠ .free) : t.room = t.victim := by
  have none_free : t.lowestFree = none :=
    find_finRange_eq_none.mpr fun j => by simpa using full j
  rw [CandTable.room, none_free]
  rfl

theorem Entry.gatheringKey_eq_some {e : Entry} {k : Nat × Nat} (h : e.gatheringKey = some k) :
    ∃ tag, e = .gathering tag k.1 k.2 := by
  cases e with
  | gathering tag score a =>
    cases h
    exact ⟨tag, rfl⟩
  | free => cases h
  | confirmed tag hold a f => cases h
  | waiting tag a f => cases h

theorem Entry.confirmedKey_eq_some {e : Entry} {k : Nat × Nat} (h : e.confirmedKey = some k) :
    ∃ tag f, e = .confirmed tag k.1 k.2 f := by
  cases e with
  | confirmed tag hold a f =>
    cases h
    exact ⟨tag, f, rfl⟩
  | free => cases h
  | gathering tag score a => cases h
  | waiting tag a f => cases h

/-- The weakest GATHERING entry of a full table makes room (R31). -/
theorem CandTable.room_of_gathering {tag : Tag} {score a : Nat}
    (full : ∀ j : Fin 24, t.entries[j] ≠ .free) (entry : t.entries[i] = .gathering tag score a)
    (weakest : ∀ (j : Fin 24) tag' score' a', j ≠ i → t.entries[j] = .gathering tag' score' a' →
      score < score' ∨ (score = score' ∧ a < a')) : t.room = some i := by
  have least := leastKey_of_least (key := fun i => t.entries[i].gatheringKey) (i := i)
    (k := (score, a)) (by rw [entry]; rfl) (List.finRange 24) (List.mem_finRange i)
    fun j _ other kj key_j => by
      obtain ⟨tag', gathers⟩ := Entry.gatheringKey_eq_some key_j
      exact (keyBefore_iff _ _).mpr (weakest j tag' kj.1 kj.2 other gathers)
  rw [CandTable.room_of_full full, CandTable.victim, least]

theorem CandTable.victim_of_none_gathers
    (none_gathers : ∀ (j : Fin 24) tag' score' a', t.entries[j] ≠ .gathering tag' score' a') :
    t.victim =
      (leastKey (fun i => t.entries[i].confirmedKey) (List.finRange 24)).map fun q => q.1 := by
  have none_least := leastKey_of_none (key := fun i => t.entries[i].gatheringKey) (List.finRange 24)
    fun j _ => by
      cases key_j : t.entries[j].gatheringKey with
      | none => rfl
      | some k =>
        obtain ⟨tag', gathers⟩ := Entry.gatheringKey_eq_some key_j
        exact absurd gathers (none_gathers j tag' k.1 k.2)
  rw [CandTable.victim, none_least]

/-- With no GATHERING entry, the weakest CONFIRMED entry of a full table makes room (R31). -/
theorem CandTable.room_of_confirmed {tag : Tag} {hold a f : Nat}
    (full : ∀ j : Fin 24, t.entries[j] ≠ .free)
    (none_gathers : ∀ (j : Fin 24) tag' score' a', t.entries[j] ≠ .gathering tag' score' a')
    (entry : t.entries[i] = .confirmed tag hold a f)
    (weakest : ∀ (j : Fin 24) tag' hold' a' f', j ≠ i → t.entries[j] = .confirmed tag' hold' a' f' →
      hold < hold' ∨ (hold = hold' ∧ a < a')) : t.room = some i := by
  have least := leastKey_of_least (key := fun i => t.entries[i].confirmedKey) (i := i)
    (k := (hold, a)) (by rw [entry]; rfl) (List.finRange 24) (List.mem_finRange i)
    fun j _ other kj key_j => by
      obtain ⟨tag', f', confirmed⟩ := Entry.confirmedKey_eq_some key_j
      exact (keyBefore_iff _ _).mpr (weakest j tag' kj.1 kj.2 f' other confirmed)
  rw [CandTable.room_of_full full, CandTable.victim_of_none_gathers none_gathers, least]
  rfl

theorem CandTable.room_of_waiting (waits : ∀ j : Fin 24, t.entries[j].isWaiting = true) :
    t.room = none := by
  have none_left (j : Fin 24) {e : Entry} (entry : t.entries[j] = e) : e.isWaiting = true :=
    entry ▸ waits j
  rw [CandTable.room_of_full fun j entry => Bool.false_ne_true (none_left j entry),
    CandTable.victim_of_none_gathers fun j _ _ _ entry => Bool.false_ne_true (none_left j entry),
    leastKey_of_none (List.finRange 24) fun j _ => ?_]
  · rfl
  · cases key_j : t.entries[j].confirmedKey with
    | none => rfl
    | some k =>
      obtain ⟨_, _, confirmed⟩ := Entry.confirmedKey_eq_some key_j
      exact absurd (none_left j confirmed) Bool.false_ne_true

end Victim

/-- Settles O24. -/
theorem evictionTakesTheWeakestEntry : Obligations.EvictionTakesTheWeakestEntry := by
  unfold Obligations.EvictionTakesTheWeakestEntry
  refine ⟨fun t i tag score a full entry weakest => CandTable.room_of_gathering full entry weakest,
    fun t i tag hold a f full none_gathers entry weakest =>
      CandTable.room_of_confirmed full none_gathers entry weakest,
    fun w tag strength weight t i s takes going positive weighs below is_t full weakest => ?_,
    fun w tag strength s takes going high waits => ?_⟩
  · subst is_t
    have room : (s.table w).room = some i := by
      rcases weakest with ⟨_, _, _, entry, weakest⟩ | ⟨none_gathers, _, _, _, _, entry, weakest⟩
      · exact CandTable.room_of_gathering (fun j => (full j).1) entry weakest
      · exact CandTable.room_of_confirmed (fun j => (full j).1) none_gathers entry weakest
    have table : (s.begun w).table w = s.table w := State.begun_table_eq s w w
    have weighs_begun : Weighs (s.begun w) strength weight :=
      ⟨positive, by rw [State.begun_settings]; exact weighs⟩
    have read : readOne w ⟨tag, strength⟩ (s.begun w) =
        ((s.begun w).setTable w ((s.table w).allocate i tag weight)).quiet := by
      rw [readOne_new weighs_begun (by rw [table]; exact fun j => (full j).2), ← table]
      exact readNew_allocates (by rw [table]; exact room)
        (by rw [State.begun_settings]; exact below)
    exact taken_written takes going read (.set _ i _ _)
  · have table : (s.begun w).table w = s.table w := State.begun_table_eq s w w
    have weighs_begun : Weighs (s.begun w) strength (strength.toNat - s.settings.readFloor) := by
      refine ⟨Nat.sub_pos_of_lt high, ?_⟩
      rw [State.begun_settings]
      omega
    have none_room : (s.table w).room = none := CandTable.room_of_waiting fun j => by
      obtain ⟨_, _, _, entry, -⟩ := waits j
      rw [entry]
      rfl
    have read : readOne w ⟨tag, strength⟩ (s.begun w) =
        ⟨(s.begun w).raise .filterSaturated, none, true⟩ := by
      rw [readOne_new weighs_begun, readNew, table, none_room]
      intro j
      obtain ⟨tag', _, _, entry, other⟩ := waits j
      rw [table, entry]
      exact fun same => other (Option.some.inj same)
    obtain ⟨u, taken, same, ctx⟩ := taken_unconfirmed takes going read rfl
    refine ⟨u, taken, ?_, ctx⟩
    rw [State.raise_tables, State.begun_tables, State.raise_events, State.begun_events] at same
    exact same

end Sys2Proof.Machine

/-! # Proofs: confirmations delivered -/

namespace Sys2Proof.Machine

/-- A match looks at the watch table, the clock and the wand's walk, and writes the watch table and
the event unit (R152 to R156). -/
theorem State.matchWatch_eq {s u : State} (w : Wand) (tag : Tag) (watch : u.watch = s.watch)
    (walked : u.walkedSec w = s.walkedSec w) (clock : u.clock = s.clock)
    (events : u.events = s.events) :
    u.matchWatch w tag = ({ u with
      watch := (s.matchWatch w tag).1.watch
      events := (s.matchWatch w tag).1.events }, (s.matchWatch w tag).2) := by
  have winner : u.watchWinner tag = s.watchWinner tag := by
    unfold State.watchWinner
    rw [watch]
  cases found : s.watchWinner tag with
  | none =>
    rw [State.matchWatch_of_none found, State.matchWatch_of_none (winner.trans found)]
    dsimp only
    rw [← watch, ← events]
  | some i =>
    rw [State.matchWatch_of_winner found, State.matchWatch_of_winner (winner.trans found)]
    simp only [State.setWatch, State.raise, watch, walked, clock, events]

/-- A wand's table once entry `i` has confirmed, but for what the delivery makes of the entry (R35).
-/
def State.tableAfter (s : State) (w : Wand) (i : Fin 24) (nextAlloc : Nat) (e : Entry) :
    CandTable where
  entries := (s.table w).entries.set i e
  nextAlloc := nextAlloc
  nextConf := (s.table w).nextConf + 1

/-- The state in which a confirmation is delivered: the frame is taken, the entry CONFIRMED, and the
watch table matched (R35, R36). -/
def State.matched (s : State) (w : Wand) (i : Fin 24) (nextAlloc : Nat) (e : Entry)
    (watched : State) :
    State :=
  { (s.begun w).setTable w (s.tableAfter w i nextAlloc e) with
    watch := watched.watch, events := watched.events }

/-- The confirming read of tag at entry `i`, which has allocation number `a` (R29, R30). -/
def State.ConfirmsAt (s : State) (w : Wand) (tag : Tag) (weight : Nat) (i : Fin 24)
    (a nextAlloc : Nat) :
    Prop :=
  (∃ score, (s.table w).entries[i] = .gathering tag score a ∧ nextAlloc = (s.table w).nextAlloc ∧
      s.settings.confirmThreshold ≤ min 1023 (score + weight)) ∨
    ((∀ j : Fin 24, (s.table w).entries[j].tag? ≠ some tag) ∧ (s.table w).room = some i ∧
      a = (s.table w).nextAlloc ∧ nextAlloc = (s.table w).nextAlloc + 1 ∧
      s.settings.confirmThreshold ≤ weight)

section Confirmed
variable {w : Wand} {tag : Tag} {strength : Byte} {weight a nextAlloc : Nat}
    {i : Fin 24} {s : State}

/-- A read that confirms makes its entry CONFIRMED, and has it matched and delivered (R35, R36). -/
theorem readOne_confirms (h : Weighs s strength weight) (sound : (s.table w).Sound)
    (confirms : s.ConfirmsAt w tag weight i a nextAlloc) :
    ∃ u : State, readOne w ⟨tag, strength⟩ s = (u.confirmEntry w i tag a).asRead ∧
      u.setTable w ((u.table w).confirm i tag a u.settings.holdTicks) =
        s.setTable w (s.tableAfter w i nextAlloc
          (.confirmed tag s.settings.holdTicks a (s.table w).nextConf)) := by
  rcases confirms with ⟨score, entry, rfl, reaches⟩ | ⟨absent, room, rfl, rfl, reaches⟩
  · refine ⟨s, (readOne_held h sound (by rw [entry]; rfl)).trans ?_, rfl⟩
    simp only [readHeld, entry]
    exact if_pos reaches
  · refine ⟨s.setTable w ((s.table w).allocate i tag weight), (readOne_new h absent).trans ?_, ?_⟩
    · simp only [readNew, room, if_pos reaches]
    · have twice (t t' : CandTable) : (s.setTable w t).setTable w t' = s.setTable w t' := by
        simp [State.setTable]
      rw [twice, State.table_setTable, if_pos rfl]
      simp [CandTable.confirm, CandTable.allocate, State.tableAfter]

/-- The answer to a SIGHT of one read that confirms (R35, R36, R156). -/
theorem sightBody_confirms {watched : State} {hit : Bool} (h : Weighs s strength weight)
    (sound : (s.table w).Sound) (confirms : s.ConfirmsAt w tag weight i a nextAlloc)
    (matches_watch : s.matchWatch w tag = (watched, hit)) (t : State)
    (is_t : t = s.matched w i nextAlloc (.confirmed tag s.settings.holdTicks a (s.table w).nextConf)
      watched) :
    sightBody w [⟨tag, strength⟩] (s.begun w) = ⟨(t.deliver w i tag).state, .ok,
      [.num8 0, .num8 1, .sighting { (t.deliver w i tag).outcome with watch := hit }]⟩ := by
  have table : (s.begun w).table w = s.table w := State.begun_table_eq s w w
  have weighs_begun : Weighs (s.begun w) strength weight :=
    ⟨h.positive, by rw [State.begun_settings]; exact h.strength⟩
  obtain ⟨u, read, confirmed⟩ := readOne_confirms (s := s.begun w) weighs_begun (table ▸ sound)
    (by simpa only [State.ConfirmsAt, table, State.begun_settings] using confirms)
  rw [State.tableAfter, table, State.begun_settings, ← State.tableAfter] at confirmed
  have matched := State.matchWatch_eq (s := s)
    (u := (s.begun w).setTable w (s.tableAfter w i nextAlloc
    (.confirmed tag s.settings.holdTicks a (s.table w).nextConf))) w tag (s.begun_watch w)
    (s.walkedSec_begun w w) (s.begun_clock w) (s.begun_events w)
  rw [matches_watch] at matched
  have delivered : u.confirmEntry w i tag a =
      ⟨(t.deliver w i tag).state, { (t.deliver w i tag).outcome with watch := hit }⟩ := by
    rw [State.confirmEntry, confirmed, matched, is_t]
    rfl
  rw [delivered] at read
  exact sightBody_of_confirms read

end Confirmed

section Matched
variable {w : Wand} {nextAlloc : Nat} {i : Fin 24} {e : Entry} {s watched : State}

theorem State.matched_eq : s.matched w i nextAlloc e watched = { s with
    tables := (s.matched w i nextAlloc e watched).tables
    contexts := (s.matched w i nextAlloc e watched).contexts
    watch := watched.watch
    events := watched.events
    lastFrame := s.lastFrame.set w (some s.clock)
    rxQueue := s.rxQueue.tail
    sendQueue := [] } := by
  unfold State.matched
  rw [State.begun_eq]
  rfl

theorem State.ctx_matched (y : CtxId) :
    (s.matched w i nextAlloc e watched).ctx y = s.leaseLoaded w y := State.ctx_begun s w y

theorem State.table_matched (v : Wand) : (s.matched w i nextAlloc e watched).table v =
    if v = w then s.tableAfter w i nextAlloc e else s.table v := by
  refine ((s.begun w).table_setTable w v _).trans ?_
  rw [State.begun_table_eq]

theorem State.walkOf_matched : (s.matched w i nextAlloc e watched).walkOf w = s.walkOf w :=
  State.walkOf_begun s w w

theorem State.sec_matched (X : SecId) : (s.matched w i nextAlloc e watched).sec X = s.sec X := by
  rw [State.matched_eq]
  rfl

end Matched

/-! ### The three deliveries of a wand that walks (R36) -/

section Deliver
variable {w : Wand} {i : Fin 24} {tag : Tag} {x : CtxId} {c : Context} {t : State}

theorem State.deliver_judged (walks : t.walkOf w = some x) (walk : t.ctx x = some c)
    (closed : (t.sec c.sec).revision = none) : t.deliver w i tag = judge x tag t := by
  rw [judge, walk]
  simp only [State.deliver, walks, walk, closed, Option.isNone_none, if_true]

theorem State.deliver_parked (walks : t.walkOf w = some x) (walk : t.ctx x = some c)
    (revised : (t.sec c.sec).revision ≠ none) (room : c.park.length < 32) : t.deliver w i tag =
      ⟨t.modCtx x fun d => { d with park := d.park ++ [tag] },
        Sighting.plain tag .parked none⟩ := by
  simp only [State.deliver, walks, walk, Option.isNone_iff_eq_none, revised, if_false]
  exact if_pos room

theorem State.deliver_deferred (walks : t.walkOf w = some x) (walk : t.ctx x = some c)
    (revised : (t.sec c.sec).revision ≠ none) (full : 32 ≤ c.park.length) :
    t.deliver w i tag = ⟨t.deferEntry w i, Sighting.plain tag .deferred none⟩ := by
  simp only [State.deliver, walks, walk, Option.isNone_iff_eq_none, revised, if_false]
  exact if_neg (not_lt.mpr full)

/-- A CONFIRMED entry that is deferred waits (R38). -/
theorem State.table_deferEntry {s : State} {nextAlloc hold a f : Nat}
    (table : t.table w = s.tableAfter w i nextAlloc (.confirmed tag hold a f)) (v : Wand) :
    (t.deferEntry w i).table v =
      if v = w then s.tableAfter w i nextAlloc (.waiting tag a f) else t.table v := by
  rw [State.deferEntry, State.table_setTable, table]
  simp [State.tableAfter, Entry.wait]

end Deliver

/-- Settles O25. -/
theorem confirmationIsDelivered : Obligations.ConfirmationIsDelivered := by
  unfold Obligations.ConfirmationIsDelivered
  intro w tag strength weight a nextAlloc i watched s hit takes going positive weighs sound confirms
    matches_watch
  obtain ⟨t, is_t⟩ : ∃ t, t = s.matched w i nextAlloc
      (.confirmed tag s.settings.holdTicks a (s.table w).nextConf) watched := ⟨_, rfl⟩
  have body : frameBody (.sight w [⟨tag, strength⟩]) (s.begun w) = _ :=
    (unlessPaused_begun going w _).trans
      (sightBody_confirms ⟨positive, weighs⟩ sound confirms matches_watch t is_t)
  have taken := taken_body (i := .sight w [⟨tag, strength⟩]) rfl takes body
  have only : t = { s with
      tables := t.tables
      contexts := t.contexts
      watch := watched.watch
      events := watched.events
      lastFrame := s.lastFrame.set w (some s.clock)
      rxQueue := s.rxQueue.tail
      sendQueue := [] } := by
    rw [is_t]
    exact State.matched_eq
  have ctx (y : CtxId) : t.ctx y = s.leaseLoaded w y := is_t ▸ State.ctx_matched y
  have table (v : Wand) : t.table v = if v = w then s.tableAfter w i nextAlloc
      (.confirmed tag s.settings.holdTicks a (s.table w).nextConf) else s.table v :=
    is_t ▸ State.table_matched v
  have walkOf : t.walkOf w = s.walkOf w := is_t ▸ State.walkOf_matched
  have sec (X : SecId) : t.sec X = s.sec X := is_t ▸ State.sec_matched X
  refine ⟨_, _, _, fun e v => if v = w then s.tableAfter w i nextAlloc e else s.table v, taken,
    fun e v => rfl, fun idle => ?_, fun x c walks walk => ⟨fun revised => ?_, fun closed => ?_⟩⟩
  · have contexts : t.contexts = s.contexts := by
      rw [is_t]
      exact State.begun_contexts_idle idle
    rw [contexts] at only
    rw [State.deliver_of_roaming (walkOf.trans idle)]
    refine ⟨?_, ?_, ?_, table⟩
    · rw [only]
      rfl
    · rw [only]
      rfl
    · rw [only]
  · have walk_t : t.ctx x = some { c with lease := some (s.settings.leaseInterval * 1000) } := by
      rw [ctx, State.leaseLoaded, if_pos walks, walk]
      rfl
    have others (y : CtxId) (other : y ≠ x) : t.ctx y = s.ctx y := by
      rw [ctx, State.leaseLoaded, if_neg fun same =>
        other (Option.some.inj (same.symm.trans walks))]
    have revised_t : (t.sec c.sec).revision ≠ none := by rwa [sec]
    rcases Nat.lt_or_ge c.park.length 32 with room | full
    · rw [State.deliver_parked (walkOf.trans walks) walk_t revised_t room]
      refine ⟨?_, ?_, fun y other => ?_, fun _ => ⟨rfl, ?_, table⟩, fun full =>
        absurd full (not_le.mpr room)⟩
      · rw [only]
        rfl
      · rw [only]
        rfl
      · exact (t.ctx_modCtx x y _).trans ((if_neg other).trans (others y other))
      · exact (t.ctx_modCtx x x _).trans ((if_pos rfl).trans (by rw [walk_t]; rfl))
    · rw [State.deliver_deferred (walkOf.trans walks) walk_t revised_t full]
      refine ⟨?_, ?_, others, fun room => absurd full (not_le.mpr room), fun _ =>
        ⟨rfl, ctx x, fun v => ?_⟩⟩
      · rw [only]
        rfl
      · rw [only]
        rfl
      · refine (State.table_deferEntry ((table w).trans (if_pos rfl)) v).trans ?_
        by_cases here : v = w
        · exact (if_pos here).trans (if_pos here).symm
        · exact (if_neg here).trans (((table v).trans (if_neg here)).trans (if_neg here).symm)
  · have walk_t : t.ctx x = some { c with lease := some (s.settings.leaseInterval * 1000) } := by
      rw [ctx, State.leaseLoaded, if_pos walks, walk]
      rfl
    rw [State.deliver_judged (walkOf.trans walks) walk_t (by rw [sec]; exact closed)]
    exact ⟨t, only, ctx, table, rfl, rfl, rfl⟩

end Sys2Proof.Machine
